-- ==== Sys2Proof/Word.lean ====
section
/-! DEFINITION. The bit vectors the OGT-1024 counts in (R1, R2, R197), line-time comparison, and the fixed-size
table every block keeps its records in. -/

namespace Sys2Proof

/-- One byte of a frame (R197); also a sequence number, a directive number and a generation (0 to 255). -/
abbrev Byte := BitVec 8

/-- A 48-bit tag field; 0 means "no tag" (R2). -/
abbrev Tag := BitVec 48

/-- Line time and deadlines: 32 bits, wrapping (R1). -/
abbrev Time := BitVec 32

/-- An interval of 0 to 65535 ticks (R1, R197). -/
abbrev Ticks := BitVec 16

/-- A tick count as a line-time difference. -/
def Ticks.asTime (t : Ticks) : Time := t.setWidth 32

/-- `t` lies 1 to 65535 ticks after `now`, modulo 2^32: a deadline still pending (R49), an earliest time the arrival is
before (R69). A deadline is reached exactly when it is not after now (R1). -/
def Time.isAfter (now t : Time) : Bool := 1 ≤ (t - now).toNat && (t - now).toNat ≤ 65535

/-- The ticks from `now` to `t` where `t` is after `now`, else 0 (R160, R161). -/
def Time.left (now t : Time) : Ticks := if Time.isAfter now t then (t - now).setWidth 16 else 0

/-- A table of exactly `n` records. -/
structure Table (n : Nat) (α : Type) where
  rows : List α
  full : rows.length = n
deriving DecidableEq, Repr

/-- The record at index `i`. -/
def Table.get {n : Nat} {α : Type} (t : Table n α) (i : Fin n) : α := t.rows.get (i.cast t.full.symm)

/-- The table holding `x` everywhere. -/
def Table.fill (n : Nat) {α : Type} (x : α) : Table n α := ⟨List.replicate n x, by simp⟩

/-- The table with record `i` replaced. -/
def Table.set {n : Nat} {α : Type} (t : Table n α) (i : Fin n) (x : α) : Table n α :=
  ⟨t.rows.set i x, by simp [t.full]⟩

/-- The table with record `i` changed by `f`. -/
def Table.modify {n : Nat} {α : Type} (t : Table n α) (i : Fin n) (f : α → α) : Table n α := t.set i (f (t.get i))

/-- The table whose record at `i` is `f i` of the old one: one change of every record at once. -/
def Table.mapRows {n : Nat} {α β : Type} (t : Table n α) (f : Fin n → α → β) : Table n β :=
  ⟨List.zipWith f (List.finRange n) t.rows, by simp [t.full]⟩

/-- The first index whose record passes the test (the lowest-numbered one). -/
def Table.first? {n : Nat} {α : Type} (t : Table n α) (p : α → Bool) : Option (Fin n) :=
  ((List.finRange n).zip t.rows).findSome? fun (i, x) => if p x then some i else none

end Sys2Proof
end

