-- ==== Sys2Proof/Config.lean ====
section
/-! DEFINITION. The counts of the "Summary of capacities" (00_scope.md), and the index types they give. The spec leaves
no value of the OGT-1024 to the implementation, so no opaque constant stands here: notes/assumptions says how each point
the manual leaves unstated is read. -/

namespace Sys2Proof

/-- 1024 carrier records, handles 0 to 1023 (R21). -/
abbrev Config.handles : Nat := 1024
/-- 32 stations (R3). -/
abbrev Config.stations : Nat := 32
/-- 48 segments (R5). -/
abbrev Config.segments : Nat := 48
/-- 8 zones (R7). -/
abbrev Config.zones : Nat := 8
/-- 4 halt inputs (R8). -/
abbrev Config.haltLines : Nat := 4
/-- 32 route slots (R113). -/
abbrev Config.slots : Nat := 32
/-- 9 stages of a slot (R113). -/
abbrev Config.stages : Nat := 9
/-- 64 decision sets (R109). -/
abbrev Config.sets : Nat := 64
/-- 64 classes (R123). -/
abbrev Config.classes : Nat := 64
/-- 1 to 3 exits of a station (R3). -/
abbrev Config.exits : Nat := 3
/-- 1 to 2 entry ports of a station (R3). -/
abbrev Config.ports : Nat := 2
/-- 8 entry places of DECISION_WRITE (R198). -/
abbrev Config.entryPlaces : Nat := 8

abbrev Handle := Fin Config.handles
abbrev Station := Fin Config.stations
abbrev Segment := Fin Config.segments
abbrev Zone := Fin Config.zones
abbrev HaltLine := Fin Config.haltLines
abbrev Slot := Fin Config.slots
abbrev StageNo := Fin Config.stages
abbrev SetNo := Fin Config.sets
abbrev Class := Fin Config.classes
abbrev Exit := Fin Config.exits
abbrev Port := Fin Config.ports

end Sys2Proof
end

