-- ==== Sys2Proof/Syntax.lean ====
section
/-! DEFINITION. The commands of the block: one constructor of `Instr` per row of spec/opcode_table.json. A host command
carries its parameters as the bytes and words of its frame (R199), unchecked, so that every refusal of its rule can be
reached; an event of the line carries what the event names. -/

namespace Sys2Proof

/-- A carrier reference as a host frame gives it (R27, R197). -/
structure CarrierRef where
  handle : BitVec 16
  generation : Byte
deriving DecidableEq, Repr

/-- What every valid station answer carries besides its report (R201): byte 0, and byte 2 where bit 0 of byte 1 is set. -/
structure AnswerHead where
  station : Byte
  directive : Option Byte
deriving DecidableEq, Repr

/-- STATION_SET's parameters (R199). -/
structure StationSetParams where
  station : Byte
  type : Byte
  zone : Byte
  port0 : Byte
  port1 : Byte
  exit0 : Byte
  exit1 : Byte
  exit2 : Byte
  checkLevel : Byte
  skipLimit : Byte
  occupancyLimit : Ticks
  defaultExit : Byte
  rejectExit : Byte
deriving DecidableEq, Repr

/-- SEGMENT_SET's parameters (R199). -/
structure SegmentSetParams where
  segment : Byte
  use : Byte
  kind : Byte
  upStation : Byte
  upExit : Byte
  downStation : Byte
  downPort : Byte
  capacity : Byte
  minTransit : Ticks
  maxTransit : Ticks
deriving DecidableEq, Repr

/-- STATION_TUNE's parameters, with the change mask of R199. -/
structure StationTuneParams where
  station : Byte
  mask : Byte
  checkLevel : Byte
  skipLimit : Byte
  occupancyLimit : Ticks
  defaultExit : Byte
  rejectExit : Byte
deriving DecidableEq, Repr

/-- SEGMENT_TUNE's parameters, with the change mask of R199. -/
structure SegmentTuneParams where
  segment : Byte
  mask : Byte
  capacity : Byte
  minTransit : Ticks
  maxTransit : Ticks
deriving DecidableEq, Repr

/-- OUTLET_SET's parameters, with the change mask of R199. -/
structure OutletSetParams where
  station : Byte
  mask : Byte
  capacity : BitVec 16
  autoRetire : Byte
deriving DecidableEq, Repr

/-- One entry place of DECISION_WRITE (R199). -/
structure EntryPlace where
  station : Byte
  kind : Byte
  exitA : Byte
  exitB : Byte
deriving DecidableEq, Repr

/-- ROUTE_STAGE's parameters (R115). -/
structure RouteStageParams where
  slot : Byte
  stage : Byte
  set : Byte
  boundary : Byte
  endAction : Byte
  dwell : Ticks
deriving DecidableEq, Repr

/-- ROUTE_PARAMS's parameters (R116). -/
structure RouteParamsParams where
  slot : Byte
  stageCount : Byte
  loopBase : Byte
  lapLimit : Byte
  exhaustStage : Byte
deriving DecidableEq, Repr

/-- INDUCT's parameters (R35, R199). -/
structure InductParams where
  station : Byte
  tag : Tag
  selector : Byte
  number : Byte
deriving DecidableEq, Repr

/-- What the host does on /SCS (R185): its fall begins a transaction, its rise ends the open one. With none open, the rise
stands for a whole transaction, its fall in the same step (DESIGN CHOICE, notes/assumptions/6.md). `risesEarly` is the rise
before the eighth bit of the selector: the manual gives such a transaction no kind, and it changes nothing (DESIGN CHOICE,
notes/assumptions/28.md). -/
inductive ScsEdge where
  | falls
  | risesEarly
  | rises (selector : Byte)
deriving DecidableEq, Repr

/-- The commands and events of opcode_table.json, one constructor per row. -/
inductive Instr where
  /-- POWER_ON (R9, R42, R64, R126, R168, R184). -/
  | powerOn
  /-- READY_SET (R184). -/
  | readySet
  /-- HALT_INPUT_ASSERTED (R157). -/
  | haltInputAsserted (line : HaltLine)
  /-- HALT_INPUT_DEASSERTED (R157). -/
  | haltInputDeasserted (line : HaltLine)
  /-- POLL_SENT (R169, R170). -/
  | pollSent
  /-- REPLY_WINDOW_CLOSED (R171). -/
  | replyWindowClosed
  /-- ANSWER_DISCARDED (R171, R201): the bytes of a frame as received on the link. -/
  | answerDiscarded (bytes : List Byte)
  /-- ANSWER (R173): a valid answer with no report. -/
  | answer (head : AnswerHead)
  /-- ARRIVAL (R67, R174): a valid answer carrying an ARRIVAL report. -/
  | arrival (head : AnswerHead) (seq port : Byte) (tag : Tag)
  /-- CLEAR (R94, R174): a valid answer carrying a CLEAR report. -/
  | clear (head : AnswerHead) (seq exit : Byte)
  /-- ROOM_EVENT_GRANT (R62): a raised room event on the segment is granted. -/
  | roomEventGrant (segment : Segment)
  /-- TRANSIT_EXPIRY (R56). -/
  | transitExpiry (segment : Segment)
  /-- DWELL_EXPIRY (R98). -/
  | dwellExpiry (station : Station)
  /-- OCCUPANCY_EXPIRY (R103). -/
  | occupancyExpiry (station : Station)
  /-- VALIDATION_COMPLETE (R12 to R15). -/
  | validationComplete
  /-- SCAN_EXAMINE (R40, R41). -/
  | scanExamine
  /-- COMMAND_TRANSACTION (R185 to R187, R198): the fall of /SCS, or its rise, early or with the selector
  shifted in and the complete bytes after it. -/
  | commandTransaction (edge : ScsEdge) (bytes : List Byte)
  /-- READ_TRANSACTION (R190): the number of bits shifted out after the status byte. -/
  | readTransaction (bits : Nat)
  /-- START (R11). -/
  | start
  /-- STOP (R16). -/
  | stop
  /-- RESET_TRACKING (R43). -/
  | resetTracking
  /-- STATUS (R194). -/
  | status
  /-- SET_ATTN_MASK (R192). -/
  | setAttnMask (mask : Byte)
  /-- READ_TIME (R195). -/
  | readTime
  /-- STATION_SET (R4). -/
  | stationSet (params : StationSetParams)
  /-- SEGMENT_SET (R6). -/
  | segmentSet (params : SegmentSetParams)
  /-- ZONE_SET (R7). -/
  | zoneSet (zone policy : Byte)
  /-- HALT_MAP (R8). -/
  | haltMap (line mask : Byte)
  /-- STATION_TUNE (R17). -/
  | stationTune (params : StationTuneParams)
  /-- SEGMENT_TUNE (R18). -/
  | segmentTune (params : SegmentTuneParams)
  /-- OUTLET_SET (R154). -/
  | outletSet (params : OutletSetParams)
  /-- STATION_READ (R19, R147, R182). -/
  | stationRead (station : Byte)
  /-- SEGMENT_READ (R19). -/
  | segmentRead (segment : Byte)
  /-- SEGMENT_LIST (R20). -/
  | segmentList (segment start : Byte)
  /-- DECISION_WRITE (R110). -/
  | decisionWrite (set count : Byte) (places : List EntryPlace)
  /-- DECISION_READ (R111). -/
  | decisionRead (set : Byte)
  /-- ROUTE_OPEN (R114). -/
  | routeOpen (slot : Byte)
  /-- ROUTE_STAGE (R115). -/
  | routeStage (params : RouteStageParams)
  /-- ROUTE_PARAMS (R116). -/
  | routeParams (params : RouteParamsParams)
  /-- ROUTE_ACTIVATE (R117, R118). -/
  | routeActivate (slot : Byte)
  /-- ROUTE_WITHDRAW (R120). -/
  | routeWithdraw (slot : Byte)
  /-- ROUTE_DISCARD (R114). -/
  | routeDiscard (slot : Byte)
  /-- ROUTE_READ (R125). -/
  | routeRead (slot : Byte)
  /-- CLASS_BIND (R124). -/
  | classBind (cls slot : Byte)
  /-- INDUCT (R35, R36). -/
  | induct (params : InductParams)
  /-- QUERY (R37). -/
  | query (ref : CarrierRef)
  /-- LOOKUP_TAG (R34). -/
  | lookupTag (tag : Tag)
  /-- REROUTE (R142 to R144). -/
  | reroute (ref : CarrierRef) (slot : Byte)
  /-- RETIRE (R38). -/
  | retire (ref : CarrierRef)
  /-- FIND_EXCEPTION (R40). -/
  | findException (start : BitVec 16)
  /-- HALT (R158). -/
  | halt (zone : Byte)
  /-- RESUME (R159). -/
  | resume (zone : Byte)
  /-- PURGE_SEGMENT (R58). -/
  | purgeSegment (segment : Byte)
  /-- RELEASE (R99). -/
  | release (station : Byte)
  /-- CLEAR_JAM (R105, R106): an exit, or FFh for *remove*. -/
  | clearJam (station outcome : Byte)
  /-- OUTLET_CLOSE (R152). -/
  | outletClose (station : Byte)
  /-- OUTLET_OPEN (R152). -/
  | outletOpen (station : Byte)
  /-- OUTLET_EMPTIED (R153). -/
  | outletEmptied (station : Byte)
  /-- READ_UNTRACKED (R84): 0 to read, 1 to read and clear. -/
  | readUntracked (station choice : Byte)
  /-- LINE_TIME_TICK (R1), with the halt input levels sampled in that tick, bit n for HALTn, 1 = asserted (R157). -/
  | lineTimeTick (samples : BitVec 4)
deriving DecidableEq, Repr

end Sys2Proof
end

