-- ==== Sys2Proof/WellFormed.lean ====
section
/-! DEFINITION. The shape a command must have to be one the part can be sent. The machine is total without it: each
docstring says what an ill-formed command does. -/

namespace Sys2Proof

/-- The selector that makes a transaction a COMMAND transaction (R198). -/
def commandSelector : Byte := 0x5A

/-- A command's shape.
* DECISION_WRITE always carries room for 8 entries (R187); with another number of places its frame has the wrong length.
* A COMMAND transaction has selector 5Ah (R198); with another selector it is a read or a status transaction.
* No whole byte has been shifted in when /SCS falls (R185) or rises early; any given with such an edge are not read. -/
def Instr.wellFormed : Instr → Bool
  | .decisionWrite _ _ places => places.length == Config.entryPlaces
  | .commandTransaction (.rises selector) _ => selector == commandSelector
  | .commandTransaction .falls bytes | .commandTransaction .risesEarly bytes => bytes.isEmpty
  | _ => true

end Sys2Proof
end

