-- ==== Sys2Proof/Decode.lean ====
section
/-! DEFINITION. The byte level of chapter 12: field encodings (R197), the CRC-8 and the command frame (R198, R199) with
the frame check of R187, the station answer frame (R201), each with its encoder; and `decodeTableWord`. -/

namespace Sys2Proof

/-! ### Fields (R197): least significant byte first -/

/-- Byte `k` of a field, byte 0 the least significant. -/
def byteOf {w : Nat} (x : BitVec w) (k : Nat) : Byte := x.extractLsb' (8 * k) 8

/-- The first `n` bytes of a field in the order they are sent. -/
def leBytes {w : Nat} (n : Nat) (x : BitVec w) : List Byte := (List.range n).map (byteOf x)

/-- A 2-byte field. -/
def word16 (b0 b1 : Byte) : BitVec 16 := b1 ++ b0

/-- A 6-byte field. -/
def word48 (b0 b1 b2 b3 b4 b5 : Byte) : BitVec 48 := b5 ++ b4 ++ b3 ++ b2 ++ b1 ++ b0

/-! ### CRC-8 (R198) -/

/-- One bit of the division by x^8 + x^2 + x + 1. -/
def crcShift (c : Byte) : Byte := if c.msb then (c <<< 1) ^^^ 0x07 else c <<< 1

/-- The CRC after one more byte. -/
def crcByte (c b : Byte) : Byte :=
  crcShift (crcShift (crcShift (crcShift (crcShift (crcShift (crcShift (crcShift (c ^^^ b))))))))

/-- The CRC-8 of a frame's bytes: initial value 00h, bits taken most significant first, no final inversion. -/
def crc8 (bytes : List Byte) : Byte := bytes.foldl crcByte 0

/-! ### Command frames -/

/-- The parameter length each code requires; none for a code in no row of the table (R198). -/
def requiredLength (code : Byte) : Option Nat :=
  match code.toNat with
  | 0x01 | 0x02 | 0x03 | 0x04 | 0x06 => some 0
  | 0x05 | 0x18 | 0x19 | 0x21 | 0x22 | 0x25 | 0x26 | 0x27 | 0x28 => some 1
  | 0x50 | 0x51 | 0x52 | 0x53 | 0x55 | 0x56 | 0x57 => some 1
  | 0x12 | 0x13 | 0x1A | 0x29 | 0x35 | 0x54 | 0x58 => some 2
  | 0x31 | 0x34 => some 3
  | 0x33 => some 4
  | 0x16 | 0x24 => some 5
  | 0x32 => some 6
  | 0x15 | 0x23 => some 7
  | 0x14 => some 8
  | 0x30 => some 9
  | 0x11 => some 12
  | 0x10 => some 14
  | 0x20 => some 34
  | _ => none

/-- The entry places of a DECISION_WRITE, 4 bytes each (R199). -/
def placesOf : List Byte → List EntryPlace
  | a :: b :: c :: d :: rest => ⟨a, b, c, d⟩ :: placesOf rest
  | _ => []

/-- The command with no parameter that a code names (R193 to R196 tables). -/
def parseNone (code : Byte) : Option Instr :=
  match code.toNat with
  | 0x01 => some .start
  | 0x02 => some .stop
  | 0x03 => some .resetTracking
  | 0x04 => some .status
  | 0x06 => some .readTime
  | _ => none

/-- The command with one parameter byte that a code names. -/
def parseOne (code a : Byte) : Option Instr :=
  match code.toNat with
  | 0x05 => some (.setAttnMask a)
  | 0x18 => some (.stationRead a)
  | 0x19 => some (.segmentRead a)
  | 0x21 => some (.decisionRead a)
  | 0x22 => some (.routeOpen a)
  | 0x25 => some (.routeActivate a)
  | 0x26 => some (.routeWithdraw a)
  | 0x27 => some (.routeDiscard a)
  | 0x28 => some (.routeRead a)
  | 0x50 => some (.halt a)
  | 0x51 => some (.resume a)
  | 0x52 => some (.purgeSegment a)
  | 0x53 => some (.release a)
  | 0x55 => some (.outletClose a)
  | 0x56 => some (.outletOpen a)
  | 0x57 => some (.outletEmptied a)
  | _ => none

/-- The command with two parameter bytes that a code names. -/
def parseTwo (code a b : Byte) : Option Instr :=
  match code.toNat with
  | 0x12 => some (.zoneSet a b)
  | 0x13 => some (.haltMap a b)
  | 0x1A => some (.segmentList a b)
  | 0x29 => some (.classBind a b)
  | 0x35 => some (.findException (word16 a b))
  | 0x54 => some (.clearJam a b)
  | 0x58 => some (.readUntracked a b)
  | _ => none

/-- The command with three to nine parameter bytes that a code names, its fields where R199 puts them. -/
def parseFew (code : Byte) (ps : List Byte) : Option Instr :=
  match ps with
  | [a, b, g] =>
    match code.toNat with
    | 0x31 => some (.query ⟨word16 a b, g⟩)
    | 0x34 => some (.retire ⟨word16 a b, g⟩)
    | _ => none
  | [a, b, g, q] => if code = 0x33 then some (.reroute ⟨word16 a b, g⟩ q) else none
  | [a, b, c, d, e] =>
    match code.toNat with
    | 0x16 => some (.outletSet ⟨a, b, word16 c d, e⟩)
    | 0x24 => some (.routeParams ⟨a, b, c, d, e⟩)
    | _ => none
  | [a, b, c, d, e, f] => if code = 0x32 then some (.lookupTag (word48 a b c d e f)) else none
  | [a, b, c, d, e, f, g] =>
    match code.toNat with
    | 0x15 => some (.segmentTune ⟨a, b, c, word16 d e, word16 f g⟩)
    | 0x23 => some (.routeStage ⟨a, b, c, d, e, word16 f g⟩)
    | _ => none
  | [a, b, c, d, e, f, g, h] => if code = 0x14 then some (.stationTune ⟨a, b, c, d, word16 e f, g, h⟩) else none
  | [a, b, c, d, e, f, g, h, i] => if code = 0x30 then some (.induct ⟨a, word48 b c d e f g, h, i⟩) else none
  | _ => none

/-- The command with twelve parameter bytes or more that a code names, its fields where R199 puts them. -/
def parseMany (code : Byte) (ps : List Byte) : Option Instr :=
  match code.toNat, ps with
  | 0x11, [a, b, c, d, e, f, g, h, i, j, k, l] => some (.segmentSet ⟨a, b, c, d, e, f, g, h, word16 i j, word16 k l⟩)
  | 0x10, [a, b, c, d, e, f, g, h, i, j, k, l, m, n] =>
    some (.stationSet ⟨a, b, c, d, e, f, g, h, i, j, word16 k l, m, n⟩)
  | 0x20, a :: b :: rest => if rest.length = 4 * Config.entryPlaces then some (.decisionWrite a b (placesOf rest)) else none
  | _, _ => none

/-- The command that a code and its parameter bytes spell (R198, R199). -/
def parseCommand (code : Byte) (ps : List Byte) : Option Instr :=
  match ps with
  | [] => parseNone code
  | [a] => parseOne code a
  | [a, b] => parseTwo code a b
  | _ => if ps.length < 12 then parseFew code ps else parseMany code ps

/-- What R187 makes of a command frame. -/
inductive FrameCheck where
  /-- The frame passes: the command goes to its block. -/
  | passed (i : Instr)
  /-- FRAME_ERROR, echoing the code byte as received, or 00h. -/
  | frameError (echo : Byte)
  /-- BAD_PARAM for an undefined code, echoed. -/
  | badParam (echo : Byte)
deriving DecidableEq, Repr

/-- The checks of R187 on the complete bytes received after the selector, in the rule's order. Bytes after the CRC are
disregarded (R186). -/
def checkFrame (bytes : List Byte) : FrameCheck :=
  match bytes with
  | [] => .frameError 0
  | [code] => .frameError code
  | code :: len :: rest =>
    match rest.drop len.toNat with
    | [] => .frameError code
    | crc :: _ =>
      if 36 < len.toNat ∨ crc8 (code :: len :: rest.take len.toNat) ≠ crc then .frameError code
      else
        match requiredLength code with
        | none => .badParam code
        | some n =>
          if len.toNat ≠ n then .frameError code
          else
            match parseCommand code (rest.take len.toNat) with
            | none => .frameError code
            | some i => .passed i

/-- The bytes of a DECISION_WRITE's places. -/
def placeBytes (places : List EntryPlace) : List Byte :=
  places.flatMap fun p => [p.station, p.kind, p.exitA, p.exitB]

/-- A carrier reference as sent (R197). -/
def refBytes (ref : CarrierRef) : List Byte := leBytes 2 ref.handle ++ [ref.generation]

/-- The code and parameter bytes of a host command (R198, R199); none for an event of the line. -/
def commandBytes : Instr → Option (Byte × List Byte)
  | .start => some (0x01, [])
  | .stop => some (0x02, [])
  | .resetTracking => some (0x03, [])
  | .status => some (0x04, [])
  | .setAttnMask m => some (0x05, [m])
  | .readTime => some (0x06, [])
  | .stationSet p => some (0x10, [p.station, p.type, p.zone, p.port0, p.port1, p.exit0, p.exit1, p.exit2, p.checkLevel,
      p.skipLimit] ++ leBytes 2 p.occupancyLimit ++ [p.defaultExit, p.rejectExit])
  | .segmentSet p => some (0x11, [p.segment, p.use, p.kind, p.upStation, p.upExit, p.downStation, p.downPort, p.capacity]
      ++ leBytes 2 p.minTransit ++ leBytes 2 p.maxTransit)
  | .zoneSet z p => some (0x12, [z, p])
  | .haltMap l m => some (0x13, [l, m])
  | .stationTune p => some (0x14, [p.station, p.mask, p.checkLevel, p.skipLimit] ++ leBytes 2 p.occupancyLimit
      ++ [p.defaultExit, p.rejectExit])
  | .segmentTune p => some (0x15, [p.segment, p.mask, p.capacity] ++ leBytes 2 p.minTransit ++ leBytes 2 p.maxTransit)
  | .outletSet p => some (0x16, [p.station, p.mask] ++ leBytes 2 p.capacity ++ [p.autoRetire])
  | .stationRead st => some (0x18, [st])
  | .segmentRead g => some (0x19, [g])
  | .segmentList g k => some (0x1A, [g, k])
  | .decisionWrite i n places => some (0x20, [i, n] ++ placeBytes places)
  | .decisionRead i => some (0x21, [i])
  | .routeOpen q => some (0x22, [q])
  | .routeStage p => some (0x23, [p.slot, p.stage, p.set, p.boundary, p.endAction] ++ leBytes 2 p.dwell)
  | .routeParams p => some (0x24, [p.slot, p.stageCount, p.loopBase, p.lapLimit, p.exhaustStage])
  | .routeActivate q => some (0x25, [q])
  | .routeWithdraw q => some (0x26, [q])
  | .routeDiscard q => some (0x27, [q])
  | .routeRead q => some (0x28, [q])
  | .classBind c q => some (0x29, [c, q])
  | .induct p => some (0x30, [p.station] ++ leBytes 6 p.tag ++ [p.selector, p.number])
  | .query ref => some (0x31, refBytes ref)
  | .lookupTag t => some (0x32, leBytes 6 t)
  | .reroute ref q => some (0x33, refBytes ref ++ [q])
  | .retire ref => some (0x34, refBytes ref)
  | .findException h => some (0x35, leBytes 2 h)
  | .halt z => some (0x50, [z])
  | .resume z => some (0x51, [z])
  | .purgeSegment g => some (0x52, [g])
  | .release st => some (0x53, [st])
  | .clearJam st e => some (0x54, [st, e])
  | .outletClose st => some (0x55, [st])
  | .outletOpen st => some (0x56, [st])
  | .outletEmptied st => some (0x57, [st])
  | .readUntracked st c => some (0x58, [st, c])
  | .powerOn | .readySet | .haltInputAsserted _ | .haltInputDeasserted _ | .pollSent | .replyWindowClosed
  | .answerDiscarded _ | .answer _ | .arrival _ _ _ _ | .clear _ _ _ | .roomEventGrant _ | .transitExpiry _
  | .dwellExpiry _ | .occupancyExpiry _ | .validationComplete | .scanExamine | .commandTransaction _ _
  | .readTransaction _ | .lineTimeTick _ => none

/-- A frame of a code and its parameters, with the CRC at its end (R198). -/
def frameOf (code : Byte) (ps : List Byte) : List Byte :=
  let head := code :: BitVec.ofNat 8 ps.length :: ps
  head ++ [crc8 head]

/-! ### Station answer frames (R201) -/

/-- The answer a received frame spells, where it is valid for the station polled (R171, R201): 12 bytes, the check byte
agreeing, byte 0 the station polled, and a report kind of 0, 1 or 2. Bits 7 to 3 of byte 1, the bytes of an absent
report, the tag of a CLEAR and an unflagged byte 2 are not read. -/
def parseAnswer (polled : Station) (bytes : List Byte) : Option Instr :=
  match bytes with
  | [b0, b1, b2, b3, b4, t0, t1, t2, t3, t4, t5, check] =>
    if crc8 [b0, b1, b2, b3, b4, t0, t1, t2, t3, t4, t5] = check ∧ b0.toNat = polled.val then
      let head : AnswerHead := ⟨b0, if b1.getLsbD 0 then some b2 else none⟩
      match (b1.extractLsb' 1 2).toNat with
      | 0 => some (.answer head)
      | 1 => some (.arrival head b3 b4 (word48 t0 t1 t2 t3 t4 t5))
      | 2 => some (.clear head b3 b4)
      | _ => none
    else none
  | _ => none

/-- Bytes 1 and 2 of an answer: the report kind and the directive number (R201). -/
def answerFlags (kind : Byte) (directive : Option Byte) : List Byte :=
  match directive with
  | none => [kind <<< 1, 0]
  | some n => [(kind <<< 1) ||| 1, n]

/-- Bytes 0 to 10 of the answer frame of a station answer (R201), unread bytes 00h; none for any other command. -/
def answerBody : Instr → Option (List Byte)
  | .answer head => some ([head.station] ++ answerFlags 0 head.directive ++ List.replicate 8 0)
  | .arrival head seq port tag => some ([head.station] ++ answerFlags 1 head.directive ++ [seq, port] ++ leBytes 6 tag)
  | .clear head seq exit =>
    some ([head.station] ++ answerFlags 2 head.directive ++ [seq, exit] ++ List.replicate 6 0)
  | _ => none

/-- The 12-byte answer frame of a station answer (R201). -/
def answerFrame (i : Instr) : Option (List Byte) := (answerBody i).map fun b => b ++ [crc8 b]

/-! ### The opcode table's words -/

/-- The command that a word of the table's bits spells: the table gives bits to no row, so none. -/
def decodeTableWord (_nbits _w : Nat) : Option Instr := none

end Sys2Proof
end

