-- ==== Sys2Proof/Machine/State.lean ====
section
/-! DEFINITION. The state of the OGT-1024, block by block as the "Block overview" of 00_scope.md lists them, and the
machine right after reset. -/

namespace Sys2Proof.Machine

/-! ### Line Map (chapter 1) -/

/-- The device state (R10). -/
inductive DeviceState where
  | setup | validating | running
deriving DecidableEq, Repr

/-- A station's type (R3). A station of a type other than UNUSED is configured. -/
inductive StationType where
  | unused | infeed | transfer | outlet
deriving DecidableEq, Repr

/-- How strictly arrivals are bound (R3, R68). -/
inductive CheckLevel where
  | off | lenient | strict
deriving DecidableEq, Repr

/-- A station record (R3). `exits` lists the segments of exit 0, exit 1, ... without gaps. -/
structure StationRecord where
  type : StationType
  zone : Zone
  port0 : Option Segment
  port1 : Option Segment
  exits : List Segment
  checkLevel : CheckLevel
  skipLimit : Nat
  occupancyLimit : Ticks
  defaultExit : Exit
  rejectExit : Option Exit
deriving DecidableEq, Repr

/-- A station record at power-on (R9). -/
def StationRecord.powerOn : StationRecord :=
  { type := .unused, zone := 0, port0 := none, port1 := none, exits := [], checkLevel := .off, skipLimit := 0,
    occupancyLimit := 0, defaultExit := 0, rejectExit := none }

/-- A segment's kind (R5). -/
inductive SegmentKind where
  | conveyor | staging
deriving DecidableEq, Repr

/-- A segment record (R5). A segment whose downstream is set is used. -/
structure SegmentRecord where
  kind : SegmentKind
  upstream : Option (Station × Exit)
  downstream : Option (Station × Port)
  capacity : Nat
  minTransit : Ticks
  maxTransit : Ticks
deriving DecidableEq, Repr

/-- A segment record at power-on (R9). -/
def SegmentRecord.powerOn : SegmentRecord :=
  { kind := .conveyor, upstream := none, downstream := none, capacity := 1, minTransit := 0, maxTransit := 1 }

/-- A zone's timer policy (R7). -/
inductive TimerPolicy where
  | suspend | restart
deriving DecidableEq, Repr

/-- The Line Map: device state, station and segment records, zone policies, halt-line map (R3 to R10). Bit z of a halt
line's mask byte stands for zone z (DESIGN CHOICE, notes/assumptions/23.md). -/
structure LineMap where
  device : DeviceState
  stations : Table Config.stations StationRecord
  segments : Table Config.segments SegmentRecord
  policies : Table Config.zones TimerPolicy
  haltMap : Table Config.haltLines Byte
deriving DecidableEq, Repr

/-! ### Carrier Table (chapter 2) -/

/-- A record's state (R25). A record in a state other than FREE is live (R21). -/
inductive CarrierState where
  | free | staged | inTransit | atStation | held | lost | delivered
deriving DecidableEq, Repr

/-- How a record was made (R22). -/
inductive Origin where
  | inducted | stranger
deriving DecidableEq, Repr

/-- The exceptions (R30). -/
inductive ExceptionKind where
  | stranger | stranded | lostTimeout | lostSkipped | lostDeviated | lostPurged | lostJam | misdelivered
deriving DecidableEq, Repr

/-- Where a carrier is (R22, R23). -/
inductive Location where
  | nowhere
  | onSegment (g : Segment)
  | atStation (st : Station)
deriving DecidableEq, Repr

/-- A queued carrier's transit window: line times, or ticks left while its segment is suspended (R24, R49, R50). -/
inductive Window where
  | timed (earliest deadline : Time)
  | remaining (earliest left : Ticks)
deriving DecidableEq, Repr

/-- The route a record follows, its stage and its laps, present together (R22). -/
structure RouteRef where
  slot : Slot
  stage : StageNo
  laps : Nat
deriving DecidableEq, Repr

/-- Last station and last seen, present together (R22, R24). -/
structure Sighting where
  station : Station
  time : Time
deriving DecidableEq, Repr

/-- The flags of a record (R29). -/
structure CarrierFlags where
  early : Bool := false
  late : Bool := false
  misrouted : Bool := false
  overtook : Bool := false
  deviated : Bool := false
  missed : Bool := false
  exhausted : Bool := false
  dwelt : Bool := false
  tagLearned : Bool := false
deriving DecidableEq, Repr

/-- A carrier record (R22). -/
structure CarrierRecord where
  generation : Byte
  state : CarrierState
  origin : Origin
  tag : Option Tag
  cls : Option Class
  route : Option RouteRef
  pendingRoute : Option Slot
  location : Location
  lastSegment : Option Segment
  window : Option Window
  sighting : Option Sighting
  flags : CarrierFlags
  exception : Option ExceptionKind
deriving DecidableEq, Repr

/-- A FREE record of a generation: every other field absent or cleared (R28 step 5, R42). A cleared origin reads
INDUCTED, value 0. -/
def CarrierRecord.free (generation : Byte) : CarrierRecord :=
  { generation, state := .free, origin := .inducted, tag := none, cls := none, route := none, pendingRoute := none,
    location := .nowhere, lastSegment := none, window := none, sighting := none, flags := {}, exception := none }

/-- The Carrier Table: 1024 records and the exception count (R21, R31). -/
structure CarrierTable where
  records : Table Config.handles CarrierRecord
  exceptionCount : Nat
deriving DecidableEq, Repr

/-- The Tag Index: tag and handle, one entry for each live tagged record, tags strictly rising (R32). -/
abbrev TagIndex := List (Tag × Handle)

/-! ### Segment Tracker (chapter 3) -/

/-- Per segment a queue (head first), a reserved count and a waiter list (oldest first) (R45, R59, R60); and the room
events raised and not yet granted, oldest first (R61, R62). -/
structure SegmentTracker where
  queues : Table Config.segments (List Handle)
  reserved : Table Config.segments Nat
  waiters : Table Config.segments (List Station)
  roomEvents : List Segment
deriving DecidableEq, Repr

/-! ### Station Custody (chapter 5) -/

/-- What a HALTED station saved (R160). -/
inductive SavedCustody where
  | idle
  | occupied (occupant : Handle) (directedExit : Exit)
  | heldDwell (occupant : Handle) (dwellRemaining : Ticks)
  | heldBlocked (occupant : Handle)
  | jammed (occupant : Handle) (directedExit : Exit)
deriving DecidableEq, Repr

/-- A station's custody record, each field present in the states R87 names and absent in the others. -/
inductive Custody where
  | idle
  | occupied (occupant : Handle) (directedExit : Exit) (occupancyExpiry : Option Time)
  | heldDwell (occupant : Handle) (dwellExpiry : Time)
  | heldBlocked (occupant : Handle)
  | jammed (occupant : Handle) (directedExit : Exit)
  | halted (saved : SavedCustody)
deriving DecidableEq, Repr

/-! ### Route Store (chapter 6) -/

/-- A decision-set entry's preference (R109). -/
inductive Preference where
  | fixed (a : Exit)
  | balance (a b : Exit)
deriving DecidableEq, Repr

/-- A decision-set entry (R109). -/
structure DecisionEntry where
  station : Station
  preference : Preference
deriving DecidableEq, Repr

/-- A decision set (R109, R112). -/
structure DecisionSet where
  entries : List DecisionEntry
  references : Nat
deriving DecidableEq, Repr

/-- A stage's end action (R113). -/
inductive EndAction where
  | advance | loop | finish
deriving DecidableEq, Repr

/-- A written stage (R113). -/
structure Stage where
  set : SetNo
  boundary : Station
  endAction : EndAction
  dwell : Ticks
deriving DecidableEq, Repr

/-- A route program (R113). An unwritten stage is none. -/
structure Program where
  stageCount : Nat
  stages : Table Config.stages (Option Stage)
  loopBase : Option StageNo
  lapLimit : Nat
  exhaustStage : Option StageNo
deriving DecidableEq, Repr

/-- The cleared program of ROUTE_OPEN (R114). -/
def Program.cleared : Program :=
  { stageCount := 1, stages := Table.fill _ none, loopBase := none, lapLimit := 1, exhaustStage := none }

/-- A slot's state with, in every state but EMPTY, its program (R113). -/
inductive SlotState where
  | empty
  | draft (program : Program)
  | active (program : Program)
  | draining (program : Program)
deriving DecidableEq, Repr

/-- A route slot (R113, R119). -/
structure RouteSlot where
  state : SlotState
  bound : Nat
deriving DecidableEq, Repr

/-- The Route Store: decision sets, route slots, class table (R109, R113, R123). -/
structure RouteStore where
  sets : Table Config.sets DecisionSet
  slots : Table Config.slots RouteSlot
  classes : Table Config.classes (Option Slot)
deriving DecidableEq, Repr

/-! ### Outlet Unit (chapter 8) -/

/-- An outlet account (R147). -/
structure OutletAccount where
  capacity : Nat
  delivered : Nat
  closed : Bool
  full : Bool
  autoRetire : Bool
deriving DecidableEq, Repr

/-! ### Zone Controller (chapter 9) -/

/-- A zone's halt causes (R156). Bit n of `lines` is the LINEn latch. -/
structure HaltCauses where
  host : Bool
  lines : BitVec 4
deriving DecidableEq, Repr

/-- The Zone Controller: halt causes of each zone, the halt inputs' levels as last taken, and the last two samples of
each input (R156, R157). Bit n stands for HALTn, 1 for asserted. -/
structure ZoneController where
  causes : Table Config.zones HaltCauses
  levels : BitVec 4
  lastSample : BitVec 4
  priorSample : BitVec 4
deriving DecidableEq, Repr

/-! ### Station Link (chapter 10) -/

inductive LinkState where
  | down | up
deriving DecidableEq, Repr

/-- The codes a station report is acknowledged with (R202). -/
inductive ReportCode where
  | ok | notRunning | stationBusy | halted | unknownStation | noOccupant
deriving DecidableEq, Repr

/-- A directive's kind, with the exit a DIVERT or RELEASE names (R168). -/
inductive DirectiveKind where
  | pass
  | divert (e : Exit)
  | hold
  | release (e : Exit)
  | accept
deriving DecidableEq, Repr

/-- A directive in a slot (R168). -/
structure Directive where
  kind : DirectiveKind
  number : Byte
  answering : Option Byte
deriving DecidableEq, Repr

/-- A directive slot (R168). -/
inductive DirectiveSlot where
  | empty
  | undelivered (d : Directive)
  | delivered (d : Directive)
deriving DecidableEq, Repr

/-- A report answered: its sequence and its code (R168). -/
structure SeqCode where
  seq : Byte
  code : ReportCode
deriving DecidableEq, Repr

/-- A station's link record (R168). `accepted` is the accepted sequence with its code, present together. -/
structure LinkRecord where
  state : LinkState
  missCount : Nat
  accepted : Option SeqCode
  acknowledgement : Option SeqCode
  slot : DirectiveSlot
  lastNumber : Byte
deriving DecidableEq, Repr

/-- A link record at power-on (R168). -/
def LinkRecord.powerOn : LinkRecord :=
  { state := .down, missCount := 0, accepted := none, acknowledgement := none, slot := .empty, lastNumber := 0 }

/-- The Station Link Controller: link records, the station last polled, the poll outstanding, and the poll frame last
sent on LNK_TX (R168 to R170). -/
structure StationLink where
  records : Table Config.stations LinkRecord
  lastPolled : Option Station
  outstanding : Option Station
  pollFrame : List Byte
deriving DecidableEq, Repr

/-! ### Host Port (chapter 11) -/

/-- The answer codes of a host response (R193, R202). -/
inductive AnswerCode where
  | ok | busy | frameError | badParam | notRunning | notSetup | full | duplicateTag | noSuchCarrier | wrongState
  | inUse | routeUnavailable | classUnbound | segmentFull | zoneHalted | zoneRunning | lineActive | validationFailed
  | classReferenced | notHeld
deriving DecidableEq, Repr

/-- A response: the code echo, the answer code and the data (R190). -/
structure Response where
  echo : Byte
  code : AnswerCode
  data : List Byte
deriving DecidableEq, Repr

/-- A long operation in flight: START's validation, or the exception scan with the handle it examines next (R189). -/
inductive LongOperation where
  | validation
  | scan (next : Handle)
deriving DecidableEq, Repr

/-- The command slot; the response buffer is present exactly while it is ANSWERED (R184). -/
inductive CommandSlot where
  | free
  | inFlight (op : LongOperation)
  | answered (response : Response)
deriving DecidableEq, Repr

/-- A transaction under way: the status byte it opened with, and the command slot as it stood at the fall of /SCS, which
a read shifts out (R185, R190). -/
structure OpenTransaction where
  status : Byte
  waiting : CommandSlot
deriving DecidableEq, Repr

/-- What the level of /SCS stands for (R184, R185): high, no transaction; low, the transaction its fall began; or low since
before a power-on that abandoned the transaction, of which nothing is taken when /SCS rises. -/
inductive HostTransaction where
  | none
  | underWay (o : OpenTransaction)
  | abandoned
deriving DecidableEq, Repr

/-- The transaction as a power-on leaves it: abandoned where one was under way (R184). -/
def HostTransaction.afterPowerOn : HostTransaction → HostTransaction
  | .none => .none
  | .underWay _ | .abandoned => .abandoned

/-- The Host Port (R184), with the transaction under way (R185) and the bytes shifted out on SDO in the last whole one
(R185, R186, R190). Bit order of the attention mask as R199: EXC, JAM, FULL, HALT, DOWN, UNTR, RESP. -/
structure HostPort where
  ready : Bool
  slot : CommandSlot
  mask : BitVec 7
  transaction : HostTransaction
  sdo : List Byte
deriving DecidableEq, Repr

/-! ### The machine -/

/-- The whole state, and the queue of commands waiting, first in, first out. -/
structure State where
  lineTime : Time
  map : LineMap
  carriers : CarrierTable
  tags : TagIndex
  tracker : SegmentTracker
  untracked : Table Config.stations Nat
  custody : Table Config.stations Custody
  routes : RouteStore
  toggles : Table Config.stations Bool
  outlets : Table Config.stations OutletAccount
  zones : ZoneController
  link : StationLink
  port : HostPort
  pending : List Instr
deriving DecidableEq, Repr

/-- Right after a power-on reset: every table at its power-on value (R1, R9, R42, R64, R84, R87, R126, R127, R147, R156,
R157, R168, R184), ready still clear (R184), no command waiting. -/
def State.reset : State :=
  { lineTime := 0
    map :=
      { device := .setup, stations := Table.fill _ .powerOn, segments := Table.fill _ .powerOn
        policies := Table.fill _ .suspend, haltMap := Table.fill _ 0 }
    carriers := { records := Table.fill _ (.free 0), exceptionCount := 0 }
    tags := []
    tracker :=
      { queues := Table.fill _ [], reserved := Table.fill _ 0, waiters := Table.fill _ [], roomEvents := [] }
    untracked := Table.fill _ 0
    custody := Table.fill _ .idle
    routes :=
      { sets := Table.fill _ { entries := [], references := 0 }
        slots := Table.fill _ { state := .empty, bound := 0 }
        classes := Table.fill _ none }
    toggles := Table.fill _ false
    outlets := Table.fill _ { capacity := 1, delivered := 0, closed := false, full := false, autoRetire := false }
    zones :=
      { causes := Table.fill _ { host := false, lines := 0 }, levels := 0, lastSample := 0, priorSample := 0 }
    link := { records := Table.fill _ .powerOn, lastPolled := none, outstanding := none, pollFrame := [] }
    port := { ready := false, slot := .free, mask := 0x40, transaction := .none, sdo := [] }
    pending := [] }

/-- No constructor: nothing in the spec stops the part. A command it cannot take is answered, a report it cannot take is
refused, and an event whose conditions do not hold does not happen. -/
inductive Fault : Type
deriving DecidableEq, Repr

/-- Why a command has no meaning in the model. -/
inductive Refusal where
  /-- Raised by `exec` for a command whose meaning is not written; no arm does so now. Safe: the model stops. -/
  | notModelled (mnemonic : String)
deriving DecidableEq, Repr

/-- What a step of this machine answers. -/
abbrev StepOutcome := Host.Outcome State Fault Refusal

end Sys2Proof.Machine
end

