-- ==== Sys2Proof/Machine/Ops.lean ====
section
/-! DEFINITION. The named operations over the tables: readers of the line map and zones, the primitive updates (one block
each), and the shared operations of the Carrier Table, Tag Index, Segment Tracker, Route Store counts and directive
slots that the commands are made of. -/

namespace Sys2Proof.Machine

/-! ### Reading the line map and the zones -/

/-- A station is configured when its type is other than UNUSED (R3). -/
def StationRecord.configured (r : StationRecord) : Bool := r.type != .unused

/-- The segment feeding an entry port; none where the record gives none (R66). -/
def StationRecord.entrySegment (r : StationRecord) (port : Nat) : Option Segment :=
  match port with
  | 0 => r.port0
  | 1 => r.port1
  | _ => none

/-- The segment an exit feeds; none for an exit the station does not have (R95). -/
def StationRecord.exitSegment (r : StationRecord) (e : Nat) : Option Segment := r.exits[e]?

/-- A segment is used when its downstream station is set (R5). -/
def SegmentRecord.used (r : SegmentRecord) : Bool := r.downstream.isSome

def State.station (s : State) (st : Station) : StationRecord := s.map.stations.get st
def State.segment (s : State) (g : Segment) : SegmentRecord := s.map.segments.get g
def State.configured (s : State) (st : Station) : Bool := (s.station st).configured
def State.isOutlet (s : State) (st : Station) : Bool := (s.station st).type == .outlet

/-- A segment belongs to the zone of its downstream station (R5). -/
def State.segmentZone (s : State) (g : Segment) : Option Zone :=
  (s.segment g).downstream.map fun d => (s.station d.1).zone

/-- A zone is HALTED while any cause is present (R156). -/
def HaltCauses.present (c : HaltCauses) : Bool := c.host || c.lines != 0

def State.zoneHalted (s : State) (z : Zone) : Bool := (s.zones.causes.get z).present

/-- The zone a used segment belongs to is HALTED. -/
def State.segmentHalted (s : State) (g : Segment) : Bool :=
  match s.segmentZone g with
  | some z => s.zoneHalted z
  | none => false

/-- A segment is suspended while its zone is HALTED under SUSPEND (R161). -/
def State.segmentSuspended (s : State) (g : Segment) : Bool :=
  match s.segmentZone g with
  | some z => s.zoneHalted z && s.map.policies.get z == .suspend
  | none => false

/-! ### Primitive updates, one block each -/

def State.record (s : State) (h : Handle) : CarrierRecord := s.carriers.records.get h
def State.queue (s : State) (g : Segment) : List Handle := s.tracker.queues.get g
def State.reservedCount (s : State) (g : Segment) : Nat := s.tracker.reserved.get g
def State.waiterList (s : State) (g : Segment) : List Station := s.tracker.waiters.get g
def State.custodyOf (s : State) (st : Station) : Custody := s.custody.get st
def State.linkOf (s : State) (st : Station) : LinkRecord := s.link.records.get st
def State.slotOf (s : State) (q : Slot) : RouteSlot := s.routes.slots.get q
def State.setOf (s : State) (i : SetNo) : DecisionSet := s.routes.sets.get i
def State.outlet (s : State) (st : Station) : OutletAccount := s.outlets.get st

def State.withMap (s : State) (m : LineMap) : State := { s with map := m }
def State.withCarriers (s : State) (c : CarrierTable) : State := { s with carriers := c }
def State.withTags (s : State) (t : TagIndex) : State := { s with tags := t }
def State.withTracker (s : State) (t : SegmentTracker) : State := { s with tracker := t }
def State.withUntracked (s : State) (st : Station) (n : Nat) : State := { s with untracked := s.untracked.set st n }
def State.withCustody (s : State) (st : Station) (c : Custody) : State := { s with custody := s.custody.set st c }
def State.withCustodies (s : State) (c : Table Config.stations Custody) : State := { s with custody := c }
def State.withRoutes (s : State) (r : RouteStore) : State := { s with routes := r }
def State.withToggle (s : State) (st : Station) (b : Bool) : State := { s with toggles := s.toggles.set st b }
def State.withOutlet (s : State) (st : Station) (a : OutletAccount) : State := { s with outlets := s.outlets.set st a }
def State.withZones (s : State) (z : ZoneController) : State := { s with zones := z }
def State.withLink (s : State) (l : StationLink) : State := { s with link := l }
def State.withPort (s : State) (p : HostPort) : State := { s with port := p }
def State.withLineTime (s : State) (t : Time) : State := { s with lineTime := t }

/-- One carrier record changed, the exception count as it was. -/
def State.modRecord (s : State) (h : Handle) (f : CarrierRecord → CarrierRecord) : State :=
  s.withCarriers { s.carriers with records := s.carriers.records.modify h f }

def State.withExceptionCount (s : State) (n : Nat) : State := s.withCarriers { s.carriers with exceptionCount := n }

def State.withQueue (s : State) (g : Segment) (q : List Handle) : State :=
  s.withTracker { s.tracker with queues := s.tracker.queues.set g q }

def State.withReserved (s : State) (g : Segment) (n : Nat) : State :=
  s.withTracker { s.tracker with reserved := s.tracker.reserved.set g n }

def State.withWaiters (s : State) (g : Segment) (w : List Station) : State :=
  s.withTracker { s.tracker with waiters := s.tracker.waiters.set g w }

def State.withRoomEvents (s : State) (es : List Segment) : State := s.withTracker { s.tracker with roomEvents := es }

def State.withSlot (s : State) (q : Slot) (r : RouteSlot) : State :=
  s.withRoutes { s.routes with slots := s.routes.slots.set q r }

def State.withSets (s : State) (t : Table Config.sets DecisionSet) : State := s.withRoutes { s.routes with sets := t }

def State.withLinkOf (s : State) (st : Station) (l : LinkRecord) : State :=
  s.withLink { s.link with records := s.link.records.set st l }

/-! ### Carrier Table (R21, R27, R31) -/

/-- A record is live in every state other than FREE (R21). -/
def CarrierRecord.live (r : CarrierRecord) : Bool := r.state != .free

def State.anyLive (s : State) : Bool := s.carriers.records.rows.any CarrierRecord.live
def State.liveCount (s : State) : Nat := s.carriers.records.rows.countP CarrierRecord.live

/-- The lowest-numbered FREE handle (R21). -/
def State.lowestFree (s : State) : Option Handle := s.carriers.records.first? fun r => !r.live

/-- An exception set on a live record; the count rises where the record held none (R31). -/
def State.setException (s : State) (h : Handle) (k : ExceptionKind) : State :=
  let count := s.carriers.exceptionCount
  let held := (s.record h).exception.isSome
  (s.modRecord h fun r => { r with exception := some k }).withExceptionCount (if held then count else count + 1)

/-- A record's exception cleared; the count falls where the record held one (R31). -/
def State.clearException (s : State) (h : Handle) : State :=
  let count := s.carriers.exceptionCount
  let held := (s.record h).exception.isSome
  (s.modRecord h fun r => { r with exception := none }).withExceptionCount (if held then count - 1 else count)

/-! ### Tag Index (R32, R33) -/

/-- The handle a tag maps to (R33). -/
def TagIndex.lookup (t : Tag) : TagIndex → Option Handle
  | [] => none
  | (u, h) :: rest => if u = t then some h else TagIndex.lookup t rest

/-- An entry added at its place, replacing an entry of the same tag. -/
def TagIndex.add (t : Tag) (h : Handle) : TagIndex → TagIndex
  | [] => [(t, h)]
  | (u, k) :: rest =>
    if t.toNat < u.toNat then (t, h) :: (u, k) :: rest
    else if u = t then (t, h) :: rest
    else (u, k) :: TagIndex.add t h rest

/-- The entry of a tag removed. -/
def TagIndex.remove (t : Tag) (index : TagIndex) : TagIndex := index.filter fun e => e.1 ≠ t

/-- The index holds its tags strictly rising: its one canonical form. -/
def TagIndex.canonical (index : TagIndex) : Bool := decide (index.Pairwise fun a b => a.1.toNat < b.1.toNat)

/-! ### Segment Tracker: room, reservations, queues (R47, R49, R50, R52, R59, R61) -/

/-- Queue length plus reserved count: a segment's depth (R131), an outlet's inbound (R148). -/
def State.depth (s : State) (g : Segment) : Nat := (s.queue g).length + s.reservedCount g

/-- A segment has room (R47). -/
def State.hasRoom (s : State) (g : Segment) : Bool := s.depth g < (s.segment g).capacity

/-- A room event raised on a segment, granted later by an event of its own (R61, R62). -/
def State.raiseRoomEvent (s : State) (g : Segment) : State := s.withRoomEvents (s.tracker.roomEvents ++ [g])

/-- One reservation more (R59). -/
def State.reserve (s : State) (g : Option Segment) : State :=
  match g with
  | some g => s.withReserved g (s.reservedCount g + 1)
  | none => s

/-- One reservation less (R59). The room event is the caller's (R61). -/
def State.unreserve (s : State) (g : Option Segment) : State :=
  match g with
  | some g => s.withReserved g (s.reservedCount g - 1)
  | none => s

/-- A handle taken out of a queue, the others keeping their order (R52, R55). -/
def State.dequeue (s : State) (g : Segment) (h : Handle) : State := s.withQueue g ((s.queue g).erase h)

/-- A handle taken out of the queue its location names, with the room event of the removal (R52, R61). -/
def State.extract (s : State) (h : Handle) : State :=
  match (s.record h).location with
  | .onSegment g => (s.dequeue g h).raiseRoomEvent g
  | _ => s

/-- The tail's deadline where it is pending (R49). -/
def State.tailDeadline (s : State) (g : Segment) : Option Time :=
  match (s.queue g).getLast? with
  | some h =>
    match (s.record h).window with
    | some (.timed _ d) => if Time.isAfter s.lineTime d then some d else none
    | _ => none
  | none => none

/-- The tail's remaining time, 0 where there is none (R50). -/
def State.tailRemaining (s : State) (g : Segment) : Ticks :=
  match (s.queue g).getLast? with
  | some h =>
    match (s.record h).window with
    | some (.remaining _ r) => r
    | _ => 0
  | none => 0

/-- The window of a carrier appended to a segment now (R49, R50). -/
def State.appendWindow (s : State) (g : Segment) : Window :=
  let seg := s.segment g
  if s.segmentSuspended g then
    let tail := s.tailRemaining g
    .remaining seg.minTransit (if seg.maxTransit.toNat < tail.toNat then tail else seg.maxTransit)
  else
    let own := s.lineTime + seg.maxTransit.asTime
    let deadline :=
      match s.tailDeadline g with
      | some d => if (own - s.lineTime).toNat < (d - s.lineTime).toNat then d else own
      | none => own
    .timed (s.lineTime + seg.minTransit.asTime) deadline

/-- A carrier appended at the tail of a queue in a state, STAGED or IN_TRANSIT (R24, R46, R48). -/
def State.append (s : State) (g : Segment) (h : Handle) (state : CarrierState) : State :=
  let w := s.appendWindow g
  (s.modRecord h fun r =>
    { r with state, location := .onSegment g, lastSegment := some g, window := some w }).withQueue g (s.queue g ++ [h])

/-- A carrier made LOST with an exception; its last segment is kept, its queue is the caller's (R23, R24, R30). -/
def State.makeLost (s : State) (h : Handle) (k : ExceptionKind) : State :=
  (s.modRecord h fun r =>
    { r with state := .lost, location := .nowhere, window := none }).setException h k

/-- A station put at the tail of a segment's waiter list (R60). -/
def State.joinWaiters (s : State) (g : Option Segment) (st : Station) : State :=
  match g with
  | some g => s.withWaiters g (s.waiterList g ++ [st])
  | none => s

/-- A station taken off the waiter list it stands on (R60). -/
def State.leaveWaiters (s : State) (st : Station) : State :=
  s.withTracker { s.tracker with waiters := s.tracker.waiters.mapRows fun _ w => w.filter fun x => x ≠ st }

/-! ### Route Store counts (R112, R119, R121) -/

/-- A slot's program, in every state but EMPTY (R113). -/
def SlotState.program? : SlotState → Option Program
  | .empty => none
  | .draft p | .active p | .draining p => some p

/-- A slot in state ACTIVE (R113). -/
def SlotState.isActive : SlotState → Bool
  | .active _ => true
  | _ => false

/-- The program a carrier's slot is read by: ACTIVE and DRAINING alike (R130, R136). -/
def State.programOf (s : State) (q : Slot) : Option Program := (s.slotOf q).state.program?

/-- A written stage of a slot. -/
def State.stageOf (s : State) (r : RouteRef) : Option Stage := (s.programOf r.slot).bind fun p => p.stages.get r.stage

/-- The written stages that take part in the program: those below the stage count (R113). -/
def Program.stagesInUse (p : Program) : List Stage := (p.stages.rows.take p.stageCount).filterMap id

/-- How many stages of a program name a set (R112). -/
def Program.uses (p : Program) (i : SetNo) : Nat := p.stagesInUse.countP fun st => st.set = i

/-- One reference more on each set for each stage of the program naming it (R118). -/
def State.countReferences (s : State) (p : Program) : State :=
  s.withSets (s.routes.sets.mapRows fun i d => { d with references := d.references + p.uses i })

/-- One reference less on each set for each stage of the program naming it (R112). -/
def State.releaseReferences (s : State) (p : Program) : State :=
  s.withSets (s.routes.sets.mapRows fun i d => { d with references := d.references - p.uses i })

/-- A slot's bound count raised (R119). -/
def State.bindSlot (s : State) (q : Slot) : State :=
  let r := s.slotOf q
  s.withSlot q { r with bound := r.bound + 1 }

/-- A slot's bound count lowered; a DRAINING slot reaching 0 becomes EMPTY and releases its references (R119, R121). -/
def State.unbindSlot (s : State) (q : Slot) : State :=
  let r := s.slotOf q
  match r.state with
  | .draining p =>
    if r.bound - 1 = 0 then (s.withSlot q { state := .empty, bound := 0 }).releaseReferences p
    else s.withSlot q { r with bound := r.bound - 1 }
  | _ => s.withSlot q { r with bound := r.bound - 1 }

/-- The same for a route a record may or may not name. -/
def State.unbindSlot? (s : State) (q : Option Slot) : State :=
  match q with
  | some q => s.unbindSlot q
  | none => s

/-! ### Freeing a record (R28) -/

/-- A record becomes FREE by RETIRE or auto-retire, in the order of R28: tag, bound counts, exception count, staging
queue, generation and fields. -/
def State.freeRecord (s : State) (h : Handle) : State :=
  let r := s.record h
  let s := match r.tag with | some t => s.withTags (TagIndex.remove t s.tags) | none => s
  let s := s.unbindSlot? (r.route.map RouteRef.slot)
  let s := s.unbindSlot? r.pendingRoute
  let s := s.clearException h
  let s := if r.state = .staged then s.extract h else s
  s.modRecord h fun r => .free (r.generation + 1)

/-! ### Directive slots (R177, R179) -/

/-- A directive placed: the next number, UNDELIVERED, replacing whatever the slot held (R177). -/
def LinkRecord.place (l : LinkRecord) (kind : DirectiveKind) (answering : Option Byte) : LinkRecord :=
  let n := l.lastNumber + 1
  { l with slot := .undelivered { kind, number := n, answering }, lastNumber := n }

def State.placeDirective (s : State) (st : Station) (kind : DirectiveKind) (answering : Option Byte) : State :=
  s.withLinkOf st ((s.linkOf st).place kind answering)

/-- An undelivered directive withdrawn; a delivered one is left (R179). -/
def LinkRecord.withdraw (l : LinkRecord) : LinkRecord :=
  match l.slot with
  | .undelivered _ => { l with slot := .empty }
  | _ => l

def State.withdrawDirective (s : State) (st : Station) : State := s.withLinkOf st (s.linkOf st).withdraw

/-- The directive that sends a carrier on by an exit at an arrival: PASS for exit 0, DIVERT otherwise (R91, R82). -/
def DirectiveKind.toExit (e : Exit) : DirectiveKind := if e = 0 then .pass else .divert e

end Sys2Proof.Machine
end

