-- ==== Sys2Proof/Machine/Flags.lean ====
section
/-! DEFINITION. The flags of a record at a new route (R29), the device-wide summary flags (R191), /ATTN (R192), the status
byte (R185, R198), and the numeric values of the codes and states (R199, R201, R202). -/

namespace Sys2Proof.Machine

/-! ### Record flags (R29) -/

/-- The flags when a route is newly bound: every flag but TAG_LEARNED cleared (R29). -/
def CarrierFlags.newlyBound (f : CarrierFlags) : CarrierFlags := { tagLearned := f.tagLearned }

/-- The flags of the record image: bit 0 EARLY to bit 8 TAG_LEARNED (R199). -/
def CarrierFlags.word (f : CarrierFlags) : BitVec 16 :=
  (BitVec.ofBool f.tagLearned ++ BitVec.ofBool f.dwelt ++ BitVec.ofBool f.exhausted ++ BitVec.ofBool f.missed
    ++ BitVec.ofBool f.deviated ++ BitVec.ofBool f.overtook ++ BitVec.ofBool f.misrouted ++ BitVec.ofBool f.late
    ++ BitVec.ofBool f.early).setWidth 16

/-! ### Summary flags and attention (R191, R192) -/

/-- A station is JAMMED, or HALTED with saved state JAMMED (R103). -/
def Custody.jammedOrSaved : Custody → Bool
  | .jammed _ _ | .halted (.jammed _ _) => true
  | _ => false

def State.excFlag (s : State) : Bool := 0 < s.carriers.exceptionCount
def State.jamFlag (s : State) : Bool := s.custody.rows.any Custody.jammedOrSaved
def State.fullFlag (s : State) : Bool := (List.finRange _).any fun st => s.isOutlet st && (s.outlet st).full
def State.haltFlag (s : State) : Bool := s.zones.causes.rows.any HaltCauses.present
def State.downFlag (s : State) : Bool := (List.finRange _).any fun st => s.configured st && (s.linkOf st).state == .down
def State.untrFlag (s : State) : Bool := s.untracked.rows.any fun n => 0 < n

/-- The command slot is ANSWERED (R191). -/
def State.respFlag (s : State) : Bool :=
  match s.port.slot with
  | .answered _ => true
  | _ => false

/-- The command slot is IN_FLIGHT or ANSWERED (R185). -/
def State.busy (s : State) : Bool := s.port.slot != .free

/-- The summary flags: bit 0 EXC, 1 JAM, 2 FULL, 3 HALT, 4 DOWN, 5 UNTR, 6 RESP (R191, R199). -/
def State.summary (s : State) : BitVec 7 :=
  BitVec.ofBool s.respFlag ++ BitVec.ofBool s.untrFlag ++ BitVec.ofBool s.downFlag ++ BitVec.ofBool s.haltFlag
    ++ BitVec.ofBool s.fullFlag ++ BitVec.ofBool s.jamFlag ++ BitVec.ofBool s.excFlag

/-- /ATTN is asserted while any summary flag the mask enables is set (R192). -/
def State.attention (s : State) : Bool := s.summary &&& s.port.mask != 0

/-! ### Code values (R202) -/

def DeviceState.code : DeviceState → Byte
  | .setup => 0 | .validating => 1 | .running => 2

def StationType.code : StationType → Byte
  | .unused => 0 | .infeed => 1 | .transfer => 2 | .outlet => 3

def StationType.ofCode (b : Byte) : Option StationType :=
  match b.toNat with
  | 0 => some .unused | 1 => some .infeed | 2 => some .transfer | 3 => some .outlet | _ => none

def CheckLevel.code : CheckLevel → Byte
  | .off => 0 | .lenient => 1 | .strict => 2

def CheckLevel.ofCode (b : Byte) : Option CheckLevel :=
  match b.toNat with
  | 0 => some .off | 1 => some .lenient | 2 => some .strict | _ => none

def SegmentKind.code : SegmentKind → Byte
  | .conveyor => 0 | .staging => 1

def SegmentKind.ofCode (b : Byte) : Option SegmentKind :=
  match b.toNat with
  | 0 => some .conveyor | 1 => some .staging | _ => none

def TimerPolicy.ofCode (b : Byte) : Option TimerPolicy :=
  match b.toNat with
  | 0 => some .suspend | 1 => some .restart | _ => none

def CarrierState.code : CarrierState → Byte
  | .free => 0 | .staged => 1 | .inTransit => 2 | .atStation => 3 | .held => 4 | .lost => 5 | .delivered => 6

def ExceptionKind.code : ExceptionKind → Byte
  | .stranger => 1 | .stranded => 2 | .lostTimeout => 3 | .lostSkipped => 4 | .lostDeviated => 5 | .lostPurged => 6
  | .lostJam => 7 | .misdelivered => 8

def Origin.code : Origin → Byte
  | .inducted => 0 | .stranger => 1

/-- IDLE 0, OCCUPIED 1, HELD 2, JAMMED 3, HALTED 4 (R202). -/
def Custody.code : Custody → Byte
  | .idle => 0 | .occupied _ _ _ => 1 | .heldDwell _ _ | .heldBlocked _ => 2 | .jammed _ _ => 3 | .halted _ => 4

def SavedCustody.code : SavedCustody → Byte
  | .idle => 0 | .occupied _ _ => 1 | .heldDwell _ _ | .heldBlocked _ => 2 | .jammed _ _ => 3

def EndAction.code : EndAction → Byte
  | .advance => 0 | .loop => 1 | .finish => 2

def EndAction.ofCode (b : Byte) : Option EndAction :=
  match b.toNat with
  | 0 => some .advance | 1 => some .loop | 2 => some .finish | _ => none

def SlotState.code : SlotState → Byte
  | .empty => 0 | .draft _ => 1 | .active _ => 2 | .draining _ => 3

def LinkState.code : LinkState → Byte
  | .down => 0 | .up => 1

def ReportCode.code : ReportCode → Byte
  | .ok => 0x00 | .notRunning => 0x04 | .stationBusy => 0x20 | .halted => 0x21 | .unknownStation => 0x22
  | .noOccupant => 0x23

/-- PASS 1, DIVERT 2, HOLD 3, RELEASE 4, ACCEPT 5 (R201). -/
def DirectiveKind.code : DirectiveKind → Byte
  | .pass => 1 | .divert _ => 2 | .hold => 3 | .release _ => 4 | .accept => 5

/-- The exit byte of a directive: the exit of a DIVERT or RELEASE, 0 otherwise (R201). -/
def DirectiveKind.exitByte : DirectiveKind → Byte
  | .divert e | .release e => BitVec.ofNat 8 e.val
  | _ => 0

def DirectiveSlot.code : DirectiveSlot → Byte
  | .empty => 0 | .undelivered _ => 1 | .delivered _ => 2

def AnswerCode.code : AnswerCode → Byte
  | .ok => 0x00 | .busy => 0x01 | .frameError => 0x02 | .badParam => 0x03 | .notRunning => 0x04 | .notSetup => 0x05
  | .full => 0x06 | .duplicateTag => 0x07 | .noSuchCarrier => 0x08 | .wrongState => 0x09 | .inUse => 0x0A
  | .routeUnavailable => 0x0B | .classUnbound => 0x0C | .segmentFull => 0x0D | .zoneHalted => 0x0E
  | .zoneRunning => 0x0F | .lineActive => 0x10 | .validationFailed => 0x11 | .classReferenced => 0x12
  | .notHeld => 0x13

/-! ### The status byte (R185, R198) -/

/-- The status byte as it stands: 00h while ready is clear. -/
def State.statusByte (s : State) : Byte :=
  if s.port.ready then
    BitVec.ofBool true ++ BitVec.ofBool s.busy ++ BitVec.ofBool s.respFlag ++ BitVec.ofBool s.attention ++ (0 : BitVec 2)
      ++ s.map.device.code.setWidth 2
  else 0

end Sys2Proof.Machine
end

