-- ==== Sys2Proof/Machine/Operands.lean ====
section
/-! DEFINITION. The operand forms of host commands: parameter bytes as numbers in range, optional numbers with FFh for
*none*, the change mask (R197, R199), carrier references (R27); and the fields of response data (R197, R199, R200). -/

namespace Sys2Proof.Machine

/-! ### Parameters (R197, R199) -/

/-- FFh: *none* (R197). -/
def noneByte : Byte := 0xFF

/-- A number below `n`, or out of range. -/
def index? {w : Nat} (n : Nat) (b : BitVec w) : Option (Fin n) := if h : b.toNat < n then some ⟨b.toNat, h⟩ else none

/-- A number below `n` or FFh for *none*; out of range otherwise. -/
def optIndex? (n : Nat) (b : Byte) : Option (Option (Fin n)) :=
  if b = noneByte then some none else (index? n b).map some

/-- The change mask's bit for a field is 1: a new value is given (R199). -/
def given (mask : Byte) (bit : Nat) : Bool := mask.getLsbD bit

/-- The mask names no bit at or above the field count (R199). -/
def maskFits (mask : Byte) (fields : Nat) : Bool := mask >>> fields == 0

/-- The exits of STATION_SET: each a segment or *none*, without a gap (R199). Out of range, or a gap: none. -/
def exitList? (e0 e1 e2 : Byte) : Option (List Segment) :=
  match optIndex? Config.segments e0, optIndex? Config.segments e1, optIndex? Config.segments e2 with
  | some none, some none, some none => some []
  | some (some a), some none, some none => some [a]
  | some (some a), some (some b), some none => some [a, b]
  | some (some a), some (some b), some (some c) => some [a, b, c]
  | _, _, _ => none

/-- What a carrier reference names (R27). -/
inductive RefCheck where
  | live (h : Handle)
  | badParam
  | noSuchCarrier
deriving DecidableEq, Repr

/-- The Carrier Table's check of a reference (R27). -/
def State.checkRef (s : State) (ref : CarrierRef) : RefCheck :=
  match index? Config.handles ref.handle with
  | none => .badParam
  | some h =>
    let r := s.record h
    if r.live && r.generation == ref.generation then .live h else .noSuchCarrier

/-! ### Response fields (R197, R199, R200) -/

def byteNat (n : Nat) : Byte := BitVec.ofNat 8 n
def wordNat (n : Nat) : List Byte := leBytes 2 (BitVec.ofNat 16 n)

/-- A number, or FFh for *none*. -/
def indexByte {n : Nat} (x : Option (Fin n)) : Byte :=
  match x with
  | some i => byteNat i.val
  | none => noneByte

/-- handle.generation (R197). -/
def State.carrierBytes (s : State) (h : Handle) : List Byte := wordNat h.val ++ [(s.record h).generation]

/-- A carrier, or FFh in every byte where there is none: the occupant of STATION_READ (R200), and by the model's choice the
head and tail of SEGMENT_READ (DESIGN CHOICE, notes/assumptions/26.md). -/
def State.optCarrierBytes (s : State) (h : Option Handle) : List Byte :=
  match h with
  | some h => s.carrierBytes h
  | none => List.replicate 3 noneByte

/-- The inbound of an outlet: the depth of the segment at its port 0 (R148). -/
def State.inbound (s : State) (st : Station) : Nat :=
  match (s.station st).port0 with
  | some g => s.depth g
  | none => 0

/-- An outlet account, 6 bytes (R200). The inbound reads 0 where the station is not an OUTLET. -/
def State.accountBytes (s : State) (st : Station) : List Byte :=
  let a := s.outlet st
  wordNat a.capacity ++ wordNat a.delivered ++ [byteNat (if s.isOutlet st then s.inbound st else 0),
    (BitVec.ofBool a.autoRetire ++ BitVec.ofBool a.full ++ BitVec.ofBool a.closed).setWidth 8]

/-- A zone's state and causes, 2 bytes (R200, R202). -/
def State.zoneBytes (s : State) (z : Zone) : List Byte :=
  let c := s.zones.causes.get z
  [if c.present then 1 else 0, (c.lines ++ BitVec.ofBool c.host).setWidth 8]

/-! ### Custody readers (R87) -/

def SavedCustody.occupant? : SavedCustody → Option Handle
  | .idle => none
  | .occupied c _ | .heldDwell c _ | .heldBlocked c | .jammed c _ => some c

def Custody.occupant? : Custody → Option Handle
  | .idle => none
  | .occupied c _ _ | .heldDwell c _ | .heldBlocked c | .jammed c _ => some c
  | .halted v => v.occupant?

/-- DWELL 0, BLOCKED 1, FFh where not HELD (R202). -/
def Custody.holdByte : Custody → Byte
  | .heldDwell _ _ => 0 | .heldBlocked _ => 1 | _ => noneByte

def SavedCustody.holdByte : SavedCustody → Byte
  | .heldDwell _ _ => 0 | .heldBlocked _ => 1 | _ => noneByte

def Custody.exit? : Custody → Option Exit
  | .occupied _ e _ | .jammed _ e => some e
  | _ => none

def SavedCustody.exit? : SavedCustody → Option Exit
  | .occupied _ e | .jammed _ e => some e
  | _ => none

def Custody.saved? : Custody → Option SavedCustody
  | .halted v => some v
  | _ => none

def Custody.isHalted : Custody → Bool
  | .halted _ => true
  | _ => false

/-! ### Images (R19, R199, R200) -/

/-- The presence byte of the record image (R199). -/
def CarrierRecord.presence (r : CarrierRecord) : Byte :=
  BitVec.ofBool r.window.isSome ++ BitVec.ofBool r.exception.isSome ++ BitVec.ofBool r.sighting.isSome
    ++ BitVec.ofBool r.lastSegment.isSome ++ BitVec.ofBool r.pendingRoute.isSome ++ BitVec.ofBool r.route.isSome
    ++ BitVec.ofBool r.cls.isSome ++ BitVec.ofBool r.tag.isSome

/-- A present number's byte; 00h where absent, as record images show it (R199). -/
def presentByte {n : Nat} (x : Option (Fin n)) : Byte :=
  match x with
  | some i => byteNat i.val
  | none => 0

/-- Location kind and location number (R199). A location *none* has no number, and the manual gives it no byte: it reads
00h (DESIGN CHOICE, notes/assumptions/25.md). -/
def Location.bytes : Location → List Byte
  | .nowhere => [0, 0]
  | .onSegment g => [1, byteNat g.val]
  | .atStation st => [2, byteNat st.val]

/-- Window form, earliest and deadline, or the remaining pair in the low 2 bytes of each (R199). -/
def windowBytes : Option Window → List Byte
  | none => List.replicate 9 0
  | some (.timed e d) => [0] ++ leBytes 4 e ++ leBytes 4 d
  | some (.remaining e r) => [1] ++ leBytes 2 e ++ [0, 0] ++ leBytes 2 r ++ [0, 0]

/-- The position of a handle in a queue, 0 for the head (R45). -/
def State.position? (s : State) (g : Segment) (h : Handle) : Option Nat := (s.queue g).idxOf? h

/-- The last four items of the record image (R37, R199, R200). -/
def State.whereaboutsBytes (s : State) (h : Handle) : List Byte :=
  let r := s.record h
  match r.location, r.state with
  | .onSegment g, .staged | .onSegment g, .inTransit =>
    [match s.position? g h with | some j => byteNat j | none => noneByte, noneByte, noneByte, noneByte]
  | .atStation st, .atStation | .atStation st, .held =>
    let c := s.custodyOf st
    match c.saved? with
    | some v => [noneByte, c.code, v.holdByte, indexByte v.exit?]
    | none => [noneByte, c.code, c.holdByte, indexByte c.exit?]
  | _, _ => List.replicate 4 noneByte

/-- The 41-byte record image of QUERY (R37, R199). -/
def State.recordImage (s : State) (h : Handle) : List Byte :=
  let r := s.record h
  s.carrierBytes h ++ [r.state.code, r.origin.code, r.presence] ++ leBytes 6 (r.tag.getD 0) ++ [presentByte r.cls]
    ++ (match r.route with | some q => [byteNat q.slot.val, byteNat q.stage.val, byteNat q.laps] | none => [0, 0, 0])
    ++ [presentByte r.pendingRoute] ++ r.location.bytes ++ [presentByte r.lastSegment]
    ++ (match r.sighting with | some v => byteNat v.station.val :: leBytes 4 v.time | none => List.replicate 5 0)
    ++ windowBytes r.window ++ leBytes 2 r.flags.word
    ++ [match r.exception with | some k => k.code | none => 0] ++ s.whereaboutsBytes h

/-- The directive slot's items of STATION_READ: state, then kind, exit and number as in a poll frame (R200). -/
def DirectiveSlot.bytes (slot : DirectiveSlot) : List Byte :=
  match slot with
  | .empty => [slot.code, 0, 0, 0]
  | .undelivered d | .delivered d => [slot.code, d.kind.code, d.kind.exitByte, d.number]

def DirectiveSlot.answering? : DirectiveSlot → Option Byte
  | .empty => none
  | .undelivered d | .delivered d => d.answering

def seqCodeBytes : Option SeqCode → List Byte
  | some a => [a.seq, a.code.code]
  | none => [0, 0]

/-- The link record's items of STATION_READ, offsets 32 to 43 (R182, R200). -/
def LinkRecord.bytes (l : LinkRecord) : List Byte :=
  [byteNat l.missCount, (BitVec.ofBool l.slot.answering?.isSome ++ BitVec.ofBool l.acknowledgement.isSome
      ++ BitVec.ofBool l.accepted.isSome).setWidth 8] ++ seqCodeBytes l.accepted ++ seqCodeBytes l.acknowledgement
    ++ l.slot.bytes ++ [l.slot.answering?.getD 0, l.lastNumber]

/-- The custody items of STATION_READ, offsets 13 to 23 (R19, R200). -/
def State.custodyBytes (s : State) (st : Station) : List Byte :=
  let c := s.custodyOf st
  [c.code, c.holdByte]
    ++ (match c.saved? with | some v => [v.code, v.holdByte] | none => [noneByte, noneByte])
    ++ s.optCarrierBytes c.occupant? ++ [indexByte c.exit?, indexByte (c.saved?.bind SavedCustody.exit?)]
    ++ (match c with | .halted (.heldDwell _ d) => leBytes 2 d | _ => [0, 0])

/-- The 44-byte snapshot of STATION_READ (R19, R147, R182, R200). -/
def State.stationImage (s : State) (st : Station) : List Byte :=
  let r := s.station st
  [r.type.code, byteNat r.zone.val, indexByte r.port0, indexByte r.port1, indexByte (r.exitSegment 0),
      indexByte (r.exitSegment 1), indexByte (r.exitSegment 2), r.checkLevel.code, byteNat r.skipLimit]
    ++ leBytes 2 r.occupancyLimit ++ [byteNat r.defaultExit.val, indexByte r.rejectExit] ++ s.custodyBytes st
    ++ [(s.linkOf st).state.code, byteNat (s.untracked.get st)] ++ s.accountBytes st ++ (s.linkOf st).bytes

/-- The snapshot of SEGMENT_READ: the record's fields, its zone, queue length, reserved count, waiters, head and tail, in
the order R5 and R19 name them (R199). That the queue length, the reserved count and the number of waiters are one byte
each, and that the head and the tail of an empty queue keep their places and read FFh in every byte, the manual does not
give (DESIGN CHOICE, notes/assumptions/26.md). -/
def State.segmentImage (s : State) (g : Segment) : List Byte :=
  let r := s.segment g
  [r.kind.code, indexByte (r.upstream.map Prod.fst), indexByte (r.upstream.map Prod.snd),
      indexByte (r.downstream.map Prod.fst), indexByte (r.downstream.map Prod.snd), byteNat r.capacity]
    ++ leBytes 2 r.minTransit ++ leBytes 2 r.maxTransit ++ [indexByte (s.segmentZone g), byteNat (s.queue g).length,
      byteNat (s.reservedCount g), byteNat (s.waiterList g).length]
    ++ s.optCarrierBytes (s.queue g).head? ++ s.optCarrierBytes (s.queue g).getLast?

/-- One stage of ROUTE_READ: an unwritten stage reads FFh in its set byte and 00h in the rest (R200). -/
def stageBytes : Option Stage → List Byte
  | some st => [byteNat st.set.val, byteNat st.boundary.val, st.endAction.code] ++ leBytes 2 st.dwell
  | none => [noneByte, 0, 0, 0, 0]

/-- The classes bound to a slot: bit n of the field set when class n is (R200). -/
def State.classBits (s : State) (q : Slot) : BitVec 64 :=
  (List.finRange Config.classes).foldl (init := 0) fun acc c =>
    if s.routes.classes.get c = some q then acc ||| (1 <<< c.val) else acc

/-- The 60-byte snapshot of ROUTE_READ (R125, R200). -/
def State.routeImage (s : State) (q : Slot) : List Byte :=
  let r := s.slotOf q
  [r.state.code] ++ wordNat r.bound
    ++ (match r.state.program? with
        | none => List.replicate 49 0
        | some p => [byteNat p.stageCount, indexByte p.loopBase, byteNat p.lapLimit, indexByte p.exhaustStage]
            ++ p.stages.rows.flatMap stageBytes)
    ++ leBytes 8 (s.classBits q)

/-- One decision-set entry as sent, 4 bytes; a FIXED entry has no exit b (R199, R200). -/
def DecisionEntry.bytes (e : DecisionEntry) : List Byte :=
  match e.preference with
  | .fixed a => [byteNat e.station.val, 1, byteNat a.val, noneByte]
  | .balance a b => [byteNat e.station.val, 2, byteNat a.val, byteNat b.val]

/-- A set's entry for a station (R109). -/
def DecisionSet.entryFor (d : DecisionSet) (st : Station) : Option Preference :=
  (d.entries.find? fun e => e.station = st).map DecisionEntry.preference

/-- A set's entries in ascending station order (R111). -/
def DecisionSet.ascending (d : DecisionSet) : List DecisionEntry :=
  (List.finRange Config.stations).filterMap fun st => d.entries.find? fun e => e.station = st

/-- The snapshot of STATUS (R194, R199, R200). The device state is one byte, of the values R198 gives its two bits in the
status byte (DESIGN CHOICE, notes/assumptions/29.md). -/
def State.statusImage (s : State) : List Byte :=
  [s.map.device.code, s.summary.setWidth 8, s.port.mask.setWidth 8] ++ wordNat s.carriers.exceptionCount
    ++ wordNat s.liveCount ++ (List.finRange Config.zones).flatMap s.zoneBytes ++ [s.zones.levels.setWidth 8]
    ++ leBytes 4 s.lineTime

/-- A response frame: code echo, answer code, data length, data, CRC-8 (R190, R198). -/
def Response.frame (r : Response) : List Byte :=
  let head := r.echo :: r.code.code :: byteNat r.data.length :: r.data
  head ++ [crc8 head]

end Sys2Proof.Machine
end

