-- ==== Sys2Proof/Machine/Port.lean ====
section
/-! DEFINITION. The Host Port: how a command reaches its block and its answer the buffer (R184 to R190), and the read
transaction. -/

namespace Sys2Proof.Machine

/-- A block's answer to a command (R188). -/
structure Reply where
  code : AnswerCode
  data : List Byte := []
deriving DecidableEq, Repr

/-- A refusal: the code alone, nothing changed (R193, R198). -/
def refuse (s : State) (code : AnswerCode) : State × Reply := (s, { code })

/-- OK with data, from the state after the command (R188). -/
def accept (s : State) (data : List Byte := []) : State × Reply := (s, { code := .ok, data })

/-- A response placed in the buffer: the slot becomes ANSWERED (R188, R189). -/
def State.respond (s : State) (echo : Byte) (r : Reply) : State :=
  s.withPort { s.port with slot := .answered { echo, code := r.code, data := r.data } }

/-- A transaction that begins now: the status byte and the slot of this moment (R185, R190). -/
def State.transactionNow (s : State) : OpenTransaction := { status := s.statusByte, waiting := s.port.slot }

/-- /SCS falls: a transaction begins. Transactions do not overlap (R186), so with /SCS low already nothing begins. -/
def State.fallScs (s : State) : State :=
  match s.port.transaction with
  | .none => s.withPort { s.port with transaction := .underWay s.transactionNow }
  | .underWay _ | .abandoned => s

/-- The transaction that the rise of /SCS ends: the open one; with none open, one whose fall was just now. An abandoned one
stands as one begun while ready was clear, with no response waiting: it takes nothing (R184). -/
def State.atFall (s : State) : OpenTransaction :=
  match s.port.transaction with
  | .none => s.transactionNow
  | .underWay o => o
  | .abandoned => { status := 0, waiting := .free }

/-- /SCS rises: the transaction is over, with these bytes shifted out in it (R185). Of an abandoned one nothing is
recorded. -/
def State.shiftOut (s : State) (bytes : List Byte) : State :=
  s.withPort
    { s.port with transaction := .none, sdo := if s.port.transaction = .abandoned then s.port.sdo else bytes }

/-- The bytes shifted out in a transaction that carries no response: the status byte of its fall, then `n` fill bytes (R185,
R186, R198). -/
def State.shiftFill (s : State) (n : Nat) : State := s.shiftOut (s.atFall.status :: List.replicate n 0)

/-- The part was ready at the fall of /SCS: bit 7 of the status byte (R185, R198). -/
def OpenTransaction.ready (o : OpenTransaction) : Bool := o.status.msb

/-- The part takes the frame of the transaction that ends now: its status byte showed READY (R185), and the slot is FREE
at the rise (R186). -/
def State.takesCommand (s : State) : Bool := s.atFall.ready && s.port.slot == .free

/-- A command transaction with a sound frame of `len` parameter bytes. The status byte goes out, then fill. While ready
is clear it is a status transaction (R185); while the slot is not FREE the frame is discarded (R186); otherwise the block
takes the command and its answer is placed in the same event (R188). -/
def hostCommand (code : Byte) (len : Nat) (block : State → State × Reply) (s : State) : StepOutcome :=
  let u := s.shiftFill (len + 3)
  if s.takesCommand then
    let (t, reply) := block u
    .next (t.respond code reply)
  else .next u

/-- The same for a long operation: the block either refuses at once, or starts the operation and no response is produced
(R189). -/
def longCommand (code : Byte) (len : Nat) (block : State → State × Option Reply) (s : State) : StepOutcome :=
  let u := s.shiftFill (len + 3)
  if s.takesCommand then
    match block u with
    | (t, some reply) => .next (t.respond code reply)
    | (t, none) => .next t
  else .next u

/-- A long operation is in flight: the slot is IN_FLIGHT (R189). -/
def State.beginLong (s : State) (op : LongOperation) : State := s.withPort { s.port with slot := .inFlight op }

/-- The command code of a long operation (R190). -/
def LongOperation.code : LongOperation → Byte
  | .validation => 0x01
  | .scan _ => 0x35

/-- The frame a read transaction shifts out: the response waiting, or the placeholder with answer code BUSY (R190). -/
def CommandSlot.readFrame : CommandSlot → List Byte
  | .free => Response.frame { echo := 0, code := .busy, data := [] }
  | .inFlight op => Response.frame { echo := op.code, code := .busy, data := [] }
  | .answered r => r.frame

/-- A read of `bits` bits that shifts out this slot is complete: the last CRC bit of a waiting response is out (R190). -/
def CommandSlot.readWhole (waiting : CommandSlot) (bits : Nat) : Bool :=
  match waiting with
  | .answered r => 8 * r.frame.length ≤ bits
  | _ => false

/-- A read transaction (R190): the whole bytes shifted out are the status byte of the fall of /SCS, the frame waiting
then, and fill after it. A response placed since waits for the next read. Where the status byte showed READY clear it
is a status transaction (R185). -/
def State.readResponse (s : State) (bits : Nat) : State :=
  let o := s.atFall
  if o.ready then
    let out := (o.waiting.readFrame ++ List.replicate (bits / 8) 0).take (bits / 8)
    let t := s.shiftOut (o.status :: out)
    if o.waiting.readWhole bits then t.withPort { t.port with slot := .free } else t
  else s.shiftFill (bits / 8)

/-- READ_TRANSACTION (R190). -/
def execReadTransaction (bits : Nat) (s : State) : StepOutcome := .next (s.readResponse bits)

end Sys2Proof.Machine
end

