-- ==== Sys2Proof/Machine/RouteEngine.lean ====
section
/-! DEFINITION. The Route Engine: the dwell test, the preferred exit, outlet availability, room (R127 to R135), stage
transitions (R136 to R141), and the change of a route (R143, R144). -/

namespace Sys2Proof.Machine

/-! ### Outlets ahead (R132) -/

/-- The account refuses a segment's next carrier: closed, full, or delivered plus inbound at or above capacity (R132). -/
def OutletAccount.unavailable (a : OutletAccount) (inbound : Nat) : Bool :=
  a.closed || a.full || a.capacity ≤ a.delivered + inbound

/-- A segment leads to an OUTLET that is unavailable (R132). -/
def State.leadsToUnavailable (s : State) (g : Segment) : Bool :=
  match (s.segment g).downstream with
  | some (d, _) => s.isOutlet d && (s.outlet d).unavailable (s.depth g)
  | none => false

/-- An exit of a station is unavailable (R132). -/
def State.exitUnavailable (s : State) (st : Station) (e : Exit) : Bool :=
  match (s.station st).exitSegment e.val with
  | some g => s.leadsToUnavailable g
  | none => false

/-- The depth of the segment an exit feeds (R131). -/
def State.exitDepth (s : State) (st : Station) (e : Exit) : Nat :=
  match (s.station st).exitSegment e.val with
  | some g => s.depth g
  | none => 0

/-- The segment an exit feeds has room (R134); an exit with no segment has none (R95). -/
def State.exitHasRoom (s : State) (st : Station) (e : Exit) : Bool :=
  match (s.station st).exitSegment e.val with
  | some g => s.hasRoom g
  | none => false

/-! ### The preferred exit (R130, R131) -/

/-- A preferred exit, and whether choosing it flips the station's balance toggle. -/
structure Preferred where
  exit : Exit
  flips : Bool
deriving DecidableEq, Repr

/-- The choice of a BALANCE entry (R131). -/
def State.balance (s : State) (st : Station) (a b : Exit) : Preferred :=
  match !s.exitUnavailable st a, !s.exitUnavailable st b with
  | true, true =>
    if s.exitDepth st a < s.exitDepth st b then ⟨a, false⟩
    else if s.exitDepth st b < s.exitDepth st a then ⟨b, false⟩
    else ⟨if s.toggles.get st then b else a, true⟩
  | true, false => ⟨a, false⟩
  | false, true => ⟨b, false⟩
  | false, false => ⟨a, false⟩

/-- The entry for a station in the set of a route's current stage (R130). -/
def State.routeEntry (s : State) (r : RouteRef) (st : Station) : Option Preference :=
  (s.stageOf r).bind fun stage => (s.setOf stage.set).entryFor st

/-- The preferred exit of a carrier at a station (R130). -/
def State.preferredExit (s : State) (st : Station) (c : Handle) : Preferred :=
  if (s.station st).exits.length = 1 then ⟨0, false⟩
  else
    match (s.record c).route with
    | none => ⟨(s.station st).defaultExit, false⟩
    | some r =>
      match s.routeEntry r st with
      | some (.fixed a) => ⟨a, false⟩
      | some (.balance a b) => s.balance st a b
      | none => ⟨0, false⟩

/-! ### The decision (R128, R133, R134) -/

/-- A decision's result once dwell is excluded: an exit, or blocked on a segment (R128). -/
inductive Choice where
  | toExit (e : Exit)
  | blocked (g : Option Segment)
deriving DecidableEq, Repr

/-- A choice with what it leaves besides: MISSED on the carrier (R133), the toggle flipped (R131). -/
structure Decision where
  choice : Choice
  missed : Bool
  flips : Bool
deriving DecidableEq, Repr

/-- The room test on the exit reached (R134). -/
def State.roomTest (s : State) (st : Station) (e : Exit) : Choice :=
  if s.exitHasRoom st e then .toExit e else .blocked ((s.station st).exitSegment e.val)

/-- Steps 2 to 4 of the decision (R128, R130 to R134). -/
def State.decide (s : State) (st : Station) (c : Handle) : Decision :=
  let p := s.preferredExit st c
  if s.exitUnavailable st p.exit then
    if p.exit ≠ 0 ∧ ¬ s.exitUnavailable st 0 then ⟨s.roomTest st 0, true, p.flips⟩
    else ⟨.blocked ((s.station st).exitSegment 0), true, p.flips⟩
  else ⟨s.roomTest st p.exit, false, p.flips⟩

/-- The dwell test of an arrival: the dwell ticks where the decision gives dwell (R129). -/
def State.dwellTest (s : State) (st : Station) (c : Handle) : Option Ticks :=
  match (s.record c).route.bind s.stageOf with
  | some stage =>
    if stage.boundary = st ∧ stage.dwell ≠ 0 ∧ ¬ (s.record c).flags.dwelt then some stage.dwell else none
  | none => none

/-- What a decision leaves in the carrier and the station's toggle (R131, R133). -/
def State.markDecision (s : State) (st : Station) (c : Handle) (d : Decision) : State :=
  let s := if d.missed then s.modRecord c fun r => { r with flags := { r.flags with missed := true } } else s
  if d.flips then s.withToggle st (!s.toggles.get st) else s

/-! ### Binding and dropping routes (R29, R137, R141) -/

/-- A route newly bound: the slot with stage 0 and laps 0, every flag but TAG_LEARNED cleared (R29). -/
def CarrierRecord.newRoute (r : CarrierRecord) (q : Slot) : CarrierRecord :=
  { r with route := some { slot := q, stage := 0, laps := 0 }, flags := r.flags.newlyBound }

/-- A pending route applied at a clear (R137). -/
def State.applyPending (s : State) (c : Handle) (q : Slot) : State :=
  let s := s.unbindSlot? ((s.record c).route.map RouteRef.slot)
  s.modRecord c fun r => { r.newRoute q with pendingRoute := none }

/-- A carrier stranded: route dropped, DWELT cleared, exception STRANDED (R141). -/
def State.strand (s : State) (c : Handle) : State :=
  let s := s.unbindSlot? ((s.record c).route.map RouteRef.slot)
  (s.modRecord c fun r => { r with route := none, flags := { r.flags with dwelt := false } }).setException c .stranded

/-- The stage set, DWELT cleared (R138, R139). -/
def State.enterStage (s : State) (c : Handle) (r : RouteRef) : State :=
  s.modRecord c fun rec => { rec with route := some r, flags := { rec.flags with dwelt := false } }

/-- A LOOP boundary, or a FINISH missed (R139, R140). -/
def State.takeLoop (s : State) (c : Handle) (r : RouteRef) (p : Program) : State :=
  match p.loopBase with
  | none => s.strand c
  | some base =>
    if (s.record c).flags.exhausted then s.strand c
    else if r.laps + 1 < p.lapLimit then s.enterStage c { r with stage := base, laps := r.laps + 1 }
    else
      let s := s.modRecord c fun rec => { rec with flags := { rec.flags with exhausted := true } }
      match p.exhaustStage with
      | some x => s.enterStage c { r with stage := x, laps := p.lapLimit }
      | none => s.strand c

/-- An ADVANCE boundary: the stage rises by one (R138). On a validated slot the new stage is below the stage count. -/
def State.takeAdvance (s : State) (c : Handle) (r : RouteRef) : State :=
  if h : r.stage.val + 1 < Config.stages then s.enterStage c { r with stage := ⟨r.stage.val + 1, h⟩ } else s

/-- A FINISH stage's approach: the upstream station and exit of the segment feeding its boundary outlet (R136). -/
def State.approach (s : State) (boundary : Station) : Option (Station × Exit) :=
  ((s.station boundary).port0).bind fun g => (s.segment g).upstream

/-- The end action of a stage at a clear from station `st` by exit `e` (R136, R138 to R140). -/
def State.endAction (s : State) (st : Station) (e : Byte) (c : Handle) (r : RouteRef) (p : Program) (stage : Stage) :
    State :=
  match stage.endAction with
  | .advance => if stage.boundary = st then s.takeAdvance c r else s
  | .loop => if stage.boundary = st then s.takeLoop c r p else s
  | .finish =>
    match s.approach stage.boundary with
    | some (ast, ae) => if ast = st ∧ e.toNat ≠ ae.val then s.takeLoop c r p else s
    | none => s

/-- The stage transition of a clear (R136): the first case that holds. -/
def State.stageTransition (s : State) (st : Station) (e : Byte) (c : Handle) : State :=
  match (s.record c).pendingRoute, (s.record c).route with
  | some q, _ => s.applyPending c q
  | none, none => s
  | none, some r =>
    match s.programOf r.slot with
    | none => s
    | some p =>
      match p.stages.get r.stage with
      | none => s
      | some stage => s.endAction st e c r p stage

/-! ### Changing a carrier's route (R143, R144) -/

/-- STRANGER or STRANDED cleared, as REROUTE does (R30). -/
def State.clearForReroute (s : State) (c : Handle) : State :=
  match (s.record c).exception with
  | some .stranger | some .stranded => s.clearException c
  | _ => s

/-- REROUTE of a queued carrier: applied at once (R143). -/
def State.rerouteNow (s : State) (c : Handle) (q : Slot) : State :=
  let s := s.bindSlot q
  let s := s.unbindSlot? ((s.record c).route.map RouteRef.slot)
  (s.modRecord c fun r => r.newRoute q).clearForReroute c

/-- REROUTE of a carrier in custody: stored as pending (R144). -/
def State.rerouteLater (s : State) (c : Handle) (q : Slot) : State :=
  let s := s.bindSlot q
  let s := s.unbindSlot? (s.record c).pendingRoute
  (s.modRecord c fun r => { r with pendingRoute := some q }).clearForReroute c

end Sys2Proof.Machine
end

