-- ==== Sys2Proof/Machine/Carriers.lean ====
section
/-! DEFINITION. The Carrier Table's commands: INDUCT (R35, R36), QUERY (R37), LOOKUP_TAG (R34), RETIRE (R38), REROUTE
(R142), and the exception scan (R40, R41). -/

namespace Sys2Proof.Machine

/-! ### INDUCT (R35, R36) -/

/-- The route selector: a class or a slot (R35). -/
inductive Selector where
  | cls (c : Class)
  | slot (q : Slot)
deriving DecidableEq, Repr

/-- The selector of INDUCT's parameters: kind 1 a class, kind 2 a slot (R199). -/
def selector? (kind number : Byte) : Option Selector :=
  match kind.toNat with
  | 1 => (index? Config.classes number).map .cls
  | 2 => (index? Config.slots number).map .slot
  | _ => none

/-- The slot a selector names; none for an unbound class (R36, R123). -/
def State.selected (s : State) : Selector → Option Slot
  | .cls c => s.routes.classes.get c
  | .slot q => some q

/-- The class recorded: the class given, absent when the selector was a slot (R36). -/
def Selector.cls? : Selector → Option Class
  | .cls c => some c
  | .slot _ => none

/-- The record INDUCT fills; the transit pair and location come with the append (R36). -/
def CarrierRecord.inducted (generation : Byte) (tag : Option Tag) (cls : Option Class) (q : Slot) : CarrierRecord :=
  { CarrierRecord.free generation with
    state := .staged, tag, cls, route := some { slot := q, stage := 0, laps := 0 } }

/-- The effects of an accepted INDUCT, one event (R36). -/
def State.induct (s : State) (g : Segment) (h : Handle) (t : Tag) (cls : Option Class) (q : Slot) : State :=
  let tag := if t = 0 then none else some t
  let s := s.modRecord h fun r => .inducted r.generation tag cls q
  let s := s.append g h .staged
  let s := if t = 0 then s else s.withTags (TagIndex.add t h s.tags)
  s.bindSlot q

/-- The staging segment of the infeed a command names: port 0 of an INFEED (R3, R35). -/
def State.infeed? (s : State) (station : Byte) : Option Segment :=
  match index? Config.stations station with
  | some st => if (s.station st).type = .infeed then (s.station st).port0 else none
  | none => none

/-- INDUCT at its block, the checks in R35's order. -/
def State.inductCommand (s : State) (p : InductParams) : State × Reply :=
  if s.map.device ≠ .running then refuse s .notRunning
  else
    match s.infeed? p.station, selector? p.selector p.number with
    | some g, some sel =>
      if p.tag ≠ 0 ∧ (TagIndex.lookup p.tag s.tags).isSome then refuse s .duplicateTag
      else
        match s.selected sel with
        | none => refuse s .classUnbound
        | some q =>
          match (s.slotOf q).state, s.lowestFree with
          | .active _, some h =>
            if s.hasRoom g then
              let t := s.induct g h p.tag sel.cls? q
              accept t (t.carrierBytes h)
            else refuse s .segmentFull
          | .active _, none => refuse s .full
          | _, _ => refuse s .routeUnavailable
    | _, _ => refuse s .badParam

/-! ### QUERY, LOOKUP_TAG (R37, R34) -/

/-- QUERY at its block (R37). -/
def State.queryCommand (s : State) (ref : CarrierRef) : State × Reply :=
  match s.checkRef ref with
  | .badParam => refuse s .badParam
  | .noSuchCarrier => refuse s .noSuchCarrier
  | .live h => accept s (s.recordImage h)

/-- LOOKUP_TAG at its block: *found* with the carrier and its state, or *unknown* (R34, R200). -/
def State.lookupTagCommand (s : State) (t : Tag) : State × Reply :=
  if t = 0 then refuse s .badParam
  else
    match TagIndex.lookup t s.tags with
    | some h => accept s (1 :: s.carrierBytes h ++ [(s.record h).state.code])
    | none => accept s (0 :: List.replicate 4 noneByte)

/-! ### RETIRE (R38) -/

/-- The states RETIRE frees a carrier from (R38). -/
def CarrierState.retirable : CarrierState → Bool
  | .lost | .delivered | .staged => true
  | _ => false

/-- RETIRE at its block; the answer opens with the carrier named (R38, R199). -/
def State.retireCommand (s : State) (ref : CarrierRef) : State × Reply :=
  match s.checkRef ref with
  | .badParam => refuse s .badParam
  | .noSuchCarrier => refuse s .noSuchCarrier
  | .live h =>
    if (s.record h).state.retirable then accept (s.freeRecord h) (s.carrierBytes h) else refuse s .wrongState

/-! ### REROUTE (R142) -/

/-- REROUTE at its block, the checks in R142's order. -/
def State.rerouteCommand (s : State) (ref : CarrierRef) (slot : Byte) : State × Reply :=
  match index? Config.slots slot, s.checkRef ref with
  | none, _ => refuse s .badParam
  | _, .badParam => refuse s .badParam
  | _, .noSuchCarrier => refuse s .noSuchCarrier
  | some q, .live c =>
    match (s.record c).state with
    | .lost | .delivered | .free => refuse s .wrongState
    | .staged | .inTransit =>
      if (s.slotOf q).state.isActive then accept (s.rerouteNow c q) (s.carrierBytes c ++ [0])
      else refuse s .routeUnavailable
    | .atStation | .held =>
      if (s.slotOf q).state.isActive then accept (s.rerouteLater c q) (s.carrierBytes c ++ [1])
      else refuse s .routeUnavailable

/-! ### The exception scan (R40, R41) -/

/-- FIND_EXCEPTION at its block: the scan begins at the start handle (R40). -/
def State.findExceptionCommand (s : State) (start : BitVec 16) : State × Option Reply :=
  match index? Config.handles start with
  | none => (s, some { code := .badParam })
  | some h => (s.beginLong (.scan h), none)

/-- What an examined record ends the scan with: a live record that holds an exception (R40, R41). -/
def State.scanFound (s : State) (h : Handle) : Option Reply :=
  let r := s.record h
  match r.exception with
  | some k => if r.live then some { code := .ok, data := 1 :: s.carrierBytes h ++ [r.state.code, k.code] } else none
  | none => none

/-- The scan's answer *none* (R41, R200). -/
def scanNone : Reply := { code := .ok, data := 0 :: List.replicate 5 noneByte }

/-- SCAN_EXAMINE: one record examined, then the next; the scan ends at a record found or after handle 1023 (R40, R41). -/
def State.examine (s : State) : State :=
  match s.port.slot with
  | .inFlight (.scan h) =>
    match s.scanFound h with
    | some reply => s.respond 0x35 reply
    | none =>
      if next : h.val + 1 < Config.handles then s.beginLong (.scan ⟨h.val + 1, next⟩) else s.respond 0x35 scanNone
  | _ => s

def execInduct (p : InductParams) (s : State) : StepOutcome := hostCommand 0x30 9 (·.inductCommand p) s
def execQuery (ref : CarrierRef) (s : State) : StepOutcome := hostCommand 0x31 3 (·.queryCommand ref) s
def execLookupTag (tag : Tag) (s : State) : StepOutcome := hostCommand 0x32 6 (·.lookupTagCommand tag) s
def execReroute (ref : CarrierRef) (slot : Byte) (s : State) : StepOutcome :=
  hostCommand 0x33 4 (·.rerouteCommand ref slot) s
def execRetire (ref : CarrierRef) (s : State) : StepOutcome := hostCommand 0x34 3 (·.retireCommand ref) s
def execFindException (start : BitVec 16) (s : State) : StepOutcome :=
  longCommand 0x35 2 (·.findExceptionCommand start) s
def execScanExamine (s : State) : StepOutcome := .next s.examine

end Sys2Proof.Machine
end

