-- ==== Sys2Proof/Machine/Zones.lean ====
section
/-! DEFINITION. The Zone Controller: entering and leaving HALTED (R160, R161, R164 to R166), the halt inputs (R157), and
HALT and RESUME (R158, R159). -/

namespace Sys2Proof.Machine

/-! ### Custody across a halt (R160, R164) -/

/-- A custody record saved as its station becomes HALTED (R160). -/
def Custody.save (now : Time) : Custody → Custody
  | .idle => .halted .idle
  | .occupied c e _ => .halted (.occupied c e)
  | .heldDwell c expiry => .halted (.heldDwell c (Time.left now expiry))
  | .heldBlocked c => .halted (.heldBlocked c)
  | .jammed c e => .halted (.jammed c e)
  | .halted v => .halted v

/-- A saved custody record restored as its station's zone resumes; `limit` is the occupancy limit read now (R164). -/
def SavedCustody.restore (now : Time) (limit : Ticks) : SavedCustody → Custody
  | .idle => .idle
  | .occupied c e => .occupied c e (if limit = 0 then none else some (now + limit.asTime))
  | .heldDwell c d => .heldDwell c (now + d.asTime)
  | .heldBlocked c => .heldBlocked c
  | .jammed c e => .jammed c e

/-- A configured station of the zone. -/
def State.inZone (s : State) (z : Zone) (st : Station) : Bool := s.configured st && (s.station st).zone == z

/-! ### Windows across a halt (R161, R165) -/

/-- A window in its suspended form: ticks left, 0 where already reached (R161). -/
def Window.suspend (now : Time) : Window → Window
  | .timed e d => .remaining (Time.left now e) (Time.left now d)
  | w => w

/-- A suspended window running on from now (R165). -/
def Window.runOn (now : Time) : Window → Window
  | .remaining e r => .timed (now + e.asTime) (now + r.asTime)
  | w => w

/-- A fresh window from a segment's transit times (R165). -/
def SegmentRecord.freshWindow (g : SegmentRecord) (now : Time) : Window :=
  .timed (now + g.minTransit.asTime) (now + g.maxTransit.asTime)

/-- The segments of a zone: used, with a configured downstream station of the zone (R5, R160). -/
def State.zoneSegment (s : State) (z : Zone) (g : Segment) : Bool :=
  match (s.segment g).downstream with
  | some (d, _) => s.inZone z d
  | none => false

/-- The handles queued on the segments of a zone, each with its segment. -/
def State.zoneQueued (s : State) (z : Zone) : List (Handle × Segment) :=
  (List.finRange Config.segments).flatMap fun g => if s.zoneSegment z g then (s.queue g).map fun h => (h, g) else []

/-- The windows of every carrier queued in a zone changed, each by the segment it is queued on. -/
def State.mapWindows (s : State) (z : Zone) (f : Segment → Option Window → Option Window) : State :=
  let queued := s.zoneQueued z
  s.withCarriers { s.carriers with
    records := s.carriers.records.mapRows fun h r =>
      match queued.find? fun p => p.1 = h with
      | some (_, g) => { r with window := f g r.window }
      | none => r }

/-! ### Entering HALTED (R160, R161) -/

/-- The entry of a zone into HALTED: custody saved, windows in the form of the policy; the cause is the caller's. -/
def State.enterHalted (s : State) (z : Zone) : State :=
  let now := s.lineTime
  let custody := s.custody.mapRows fun st c => if s.inZone z st then c.save now else c
  let t := if s.map.policies.get z = .suspend then s.mapWindows z fun _ w => w.map (Window.suspend now) else s
  t.withCustodies custody

/-! ### Leaving HALTED (R164 to R166) -/

/-- The RELEASE re-placed for a station restored to OCCUPIED (R164). -/
def Custody.rereleased (c : Custody) (l : LinkRecord) : LinkRecord :=
  match c with
  | .halted (.occupied _ e) => l.place (.release e) none
  | _ => l

/-- A station's custody as its zone resumes (R164). -/
def State.resumedCustody (s : State) (st : Station) (c : Custody) : Custody :=
  match c with
  | .halted v => v.restore s.lineTime (s.station st).occupancyLimit
  | _ => c

/-- A station of the zone that the resume restores to HELD BLOCKED (R164, R166). -/
def State.restoredBlocked (s : State) (z : Zone) (st : Station) : Bool :=
  s.inZone z st && (match s.custodyOf st with | .halted (.heldBlocked _) => true | _ => false)

/-- The segments a resume raises a room event on, one each (R166). -/
def State.resumeEvents (s : State) (z : Zone) : List Segment :=
  (List.finRange Config.segments).filter fun g => (s.waiterList g).any (s.restoredBlocked z)

/-- The return of a zone to RUNNING: windows, custody, directives, room events; the causes are the caller's. -/
def State.leaveHalted (s : State) (z : Zone) : State :=
  let now := s.lineTime
  let custody := s.custody.mapRows fun st c => if s.inZone z st then s.resumedCustody st c else c
  let links := s.link.records.mapRows fun st l => if s.inZone z st then (s.custodyOf st).rereleased l else l
  let events := s.tracker.roomEvents ++ s.resumeEvents z
  let t :=
    match s.map.policies.get z with
    | .suspend => s.mapWindows z fun _ w => w.map (Window.runOn now)
    | .restart => s.mapWindows z fun g w => w.map fun _ => (s.segment g).freshWindow now
  ((t.withCustodies custody).withLink { t.link with records := links }).withRoomEvents events

/-! ### Causes (R156) -/

/-- A zone's causes replaced, with the entry into or the return from HALTED that this makes (R156). -/
def State.withCauses (s : State) (z : Zone) (c : HaltCauses) : State :=
  let was := s.zoneHalted z
  let t := s.withZones { s.zones with causes := s.zones.causes.set z c }
  if !was && c.present then t.enterHalted z
  else if was && !c.present then t.leaveHalted z
  else t

/-- A line's latch. -/
def latchBit (n : HaltLine) : BitVec 4 := 1 <<< n.val

/-- The latch of a line set in a zone (R157). -/
def State.latch (s : State) (n : HaltLine) (z : Zone) : State :=
  let c := s.zones.causes.get z
  s.withCauses z { c with lines := c.lines ||| latchBit n }

/-- The latch of a line set in every zone of a mask (R157, R8). -/
def State.latchMask (s : State) (n : HaltLine) (mask : Byte) : State :=
  (List.finRange Config.zones).foldl (fun s z => if mask.getLsbD z.val then s.latch n z else s) s

/-! ### Halt inputs (R157) -/

/-- An input is asserted, as last taken. -/
def State.lineAsserted (s : State) (n : HaltLine) : Bool := s.zones.levels.getLsbD n.val

/-- The last two samples of an input agree on a level (R157). -/
def State.samplesAgree (s : State) (n : HaltLine) (level : Bool) : Bool :=
  s.zones.lastSample.getLsbD n.val == level && s.zones.priorSample.getLsbD n.val == level

/-- An input's level taken. -/
def State.withLevel (s : State) (n : HaltLine) (level : Bool) : State :=
  s.withZones { s.zones with
    levels := if level then s.zones.levels ||| latchBit n else s.zones.levels &&& ~~~ latchBit n }

/-- HALT_INPUT_ASSERTED (R157): taken where two consecutive samples agree on the new level, asserted. -/
def State.takeAssertion (s : State) (n : HaltLine) : State :=
  if !s.lineAsserted n && s.samplesAgree n true then (s.withLevel n true).latchMask n (s.map.haltMap.get n) else s

/-- HALT_INPUT_DEASSERTED (R157): no latch is cleared and no zone changes state. -/
def State.takeDeassertion (s : State) (n : HaltLine) : State :=
  if s.lineAsserted n && s.samplesAgree n false then s.withLevel n false else s

def execHaltInputAsserted (n : HaltLine) (s : State) : StepOutcome := .next (s.takeAssertion n)

def execHaltInputDeasserted (n : HaltLine) (s : State) : StepOutcome := .next (s.takeDeassertion n)

/-! ### HALT and RESUME (R158, R159) -/

/-- HALT at its block (R158). -/
def State.haltCommand (s : State) (zone : Byte) : State × Reply :=
  match index? Config.zones zone with
  | none => refuse s .badParam
  | some z =>
    let t := s.withCauses z { s.zones.causes.get z with host := true }
    accept t (t.zoneBytes z)

/-- The lowest-numbered asserted input whose mask holds the zone (R159). -/
def State.activeLine (s : State) (z : Zone) : Option HaltLine :=
  (List.finRange Config.haltLines).find? fun n => s.lineAsserted n && (s.map.haltMap.get n).getLsbD z.val

/-- RESUME at its block, the checks in R159's order. -/
def State.resumeCommand (s : State) (zone : Byte) : State × Reply :=
  match index? Config.zones zone with
  | none => refuse s .badParam
  | some z =>
    match s.activeLine z with
    | some n => (s, { code := .lineActive, data := [byteNat n.val] })
    | none =>
      let t := s.withCauses z { host := false, lines := 0 }
      accept t (t.zoneBytes z)

def execHalt (zone : Byte) (s : State) : StepOutcome := hostCommand 0x50 1 (·.haltCommand zone) s
def execResume (zone : Byte) (s : State) : StepOutcome := hostCommand 0x51 1 (·.resumeCommand zone) s

end Sys2Proof.Machine
end

