-- ==== Sys2Proof/Machine/LineMap.lean ====
section
/-! DEFINITION. The Line Map's commands: STATION_SET, SEGMENT_SET, ZONE_SET, HALT_MAP (R4 to R8), the tuning commands
(R17, R18), and the reads (R19, R20). -/

namespace Sys2Proof.Machine

/-! ### Writing records -/

def State.withStation (s : State) (st : Station) (r : StationRecord) : State :=
  s.withMap { s.map with stations := s.map.stations.set st r }

def State.withSegment (s : State) (g : Segment) (r : SegmentRecord) : State :=
  s.withMap { s.map with segments := s.map.segments.set g r }

def State.withDevice (s : State) (d : DeviceState) : State := s.withMap { s.map with device := d }

/-! ### STATION_SET (R4, R181, R199) -/

/-- Two exits name one segment (R4). -/
def repeats (l : List Segment) : Bool := !decide l.Nodup

/-- The record a STATION_SET of a configured type writes; none where R4 refuses it BAD_PARAM. -/
def stationSetRecord? (p : StationSetParams) (type : StationType) : Option StationRecord := do
  let zone ← index? Config.zones p.zone
  let port0 ← index? Config.segments p.port0
  let port1 ← optIndex? Config.segments p.port1
  let exits ← exitList? p.exit0 p.exit1 p.exit2
  let checkLevel ← CheckLevel.ofCode p.checkLevel
  let skip ← index? 8 p.skipLimit
  let defaultExit ← index? Config.exits p.defaultExit
  let rejectExit ← optIndex? Config.exits p.rejectExit
  if port1 = some port0 ∨ repeats exits then none
  if ¬ (defaultExit.val < exits.length ∨ (exits = [] ∧ defaultExit = 0)) then none
  if ∃ e ∈ rejectExit, exits.length ≤ e.val then none
  if type = .outlet ∧ p.occupancyLimit ≠ 0 then none
  return { type, zone, port0 := some port0, port1, exits, checkLevel, skipLimit := skip.val,
           occupancyLimit := p.occupancyLimit, defaultExit, rejectExit }

/-- The whole record a STATION_SET writes: type UNUSED gives the power-on record, the other parameters ignored (R4). -/
def stationWritten? (p : StationSetParams) : Option StationRecord :=
  match StationType.ofCode p.type with
  | none => none
  | some .unused => some .powerOn
  | some type => stationSetRecord? p type

/-- The custody a STATION_SET gives its station (R4). -/
def State.freshCustody (s : State) (r : StationRecord) : Custody :=
  if r.configured ∧ s.zoneHalted r.zone then .halted .idle else .idle

/-- The link record as a station joins or leaves the polling, or keeps its place (R4, R181). -/
def LinkRecord.reconfigure (l : LinkRecord) (was is : Bool) : LinkRecord :=
  if was = is then l else { l with state := .down, missCount := 0, accepted := none, slot := .empty }

/-- A station record written whole, with the effects of R4 beyond it. -/
def State.setStation (s : State) (st : Station) (r : StationRecord) : State :=
  let link := (s.linkOf st).reconfigure (s.configured st) r.configured
  ((s.withStation st r).withCustody st (s.freshCustody r)).withLinkOf st link

/-- STATION_SET at its block (R4). -/
def State.stationSetCommand (s : State) (p : StationSetParams) : State × Reply :=
  if s.map.device ≠ .setup then refuse s .notSetup
  else
    match index? Config.stations p.station, stationWritten? p with
    | some st, some r => accept (s.setStation st r)
    | _, _ => refuse s .badParam

/-! ### SEGMENT_SET (R6, R199) -/

/-- The record a SEGMENT_SET with use choice *used* writes; none where R6 refuses it BAD_PARAM. -/
def segmentSetRecord? (p : SegmentSetParams) : Option SegmentRecord := do
  let kind ← SegmentKind.ofCode p.kind
  let upStation ← optIndex? Config.stations p.upStation
  let upExit ← optIndex? Config.exits p.upExit
  let downStation ← index? Config.stations p.downStation
  let downPort ← index? Config.ports p.downPort
  let upstream ← match upStation, upExit with
    | some st, some e => some (some (st, e))
    | none, none => some none
    | _, _ => none
  if upstream.isSome ≠ (kind = .conveyor) then none
  if p.capacity = 0 ∨ 64 < p.capacity.toNat ∨ p.maxTransit = 0 then none
  return { kind, upstream, downstream := some (downStation, downPort), capacity := p.capacity.toNat,
           minTransit := if kind = .staging then 0 else p.minTransit, maxTransit := p.maxTransit }

/-- The whole record a SEGMENT_SET writes: *unused* gives the power-on record, the other parameters ignored (R6). -/
def segmentWritten? (p : SegmentSetParams) : Option SegmentRecord :=
  match p.use.toNat with
  | 0 => some .powerOn
  | 1 => segmentSetRecord? p
  | _ => none

/-- SEGMENT_SET at its block (R6). -/
def State.segmentSetCommand (s : State) (p : SegmentSetParams) : State × Reply :=
  if s.map.device ≠ .setup then refuse s .notSetup
  else
    match index? Config.segments p.segment, segmentWritten? p with
    | some g, some r => accept (s.withSegment g r)
    | _, _ => refuse s .badParam

/-! ### ZONE_SET and HALT_MAP (R7, R8) -/

/-- ZONE_SET at its block (R7). -/
def State.zoneSetCommand (s : State) (zone policy : Byte) : State × Reply :=
  if s.map.device ≠ .setup then refuse s .notSetup
  else
    match index? Config.zones zone, TimerPolicy.ofCode policy with
    | some z, some policy => accept (s.withMap { s.map with policies := s.map.policies.set z policy })
    | _, _ => refuse s .badParam

/-- A halt line's mask replaced; the latch of an asserted line is set in each zone added (R8). -/
def State.mapLine (s : State) (n : HaltLine) (mask : Byte) : State :=
  let added := mask &&& ~~~ s.map.haltMap.get n
  let t := s.withMap { s.map with haltMap := s.map.haltMap.set n mask }
  if s.lineAsserted n then t.latchMask n added else t

/-- HALT_MAP at its block (R8). Bit z of the mask byte stands for zone z (DESIGN CHOICE, notes/assumptions/23.md). -/
def State.haltMapCommand (s : State) (line mask : Byte) : State × Reply :=
  if s.map.device ≠ .setup then refuse s .notSetup
  else
    match index? Config.haltLines line with
    | some n => accept (s.mapLine n mask)
    | none => refuse s .badParam

/-! ### STATION_TUNE (R17, R199) -/

/-- A tuned field: the new value where its mask bit is 1, out of range where that value is, the old one where 0. -/
def tuned {α : Type} (isGiven : Bool) (new : Option α) (old : α) : Option α := if isGiven then new else some old

/-- An exit below a station's exit count (R17). -/
def belowCount (r : StationRecord) (e : Exit) : Bool := e.val < r.exits.length

/-- The record after a STATION_TUNE; none where R17 refuses it BAD_PARAM. -/
def stationTuneRecord? (p : StationTuneParams) (r : StationRecord) : Option StationRecord := do
  if ¬ maskFits p.mask 5 ∨ ¬ r.configured then none
  let checkLevel ← tuned (given p.mask 0) (CheckLevel.ofCode p.checkLevel) r.checkLevel
  let skipLimit ← tuned (given p.mask 1) ((index? 8 p.skipLimit).map Fin.val) r.skipLimit
  let occupancyLimit ← tuned (given p.mask 2) (some p.occupancyLimit) r.occupancyLimit
  let defaultExit ← tuned (given p.mask 3) ((index? Config.exits p.defaultExit).filter (belowCount r)) r.defaultExit
  let rejectExit ← tuned (given p.mask 4)
    ((optIndex? Config.exits p.rejectExit).filter fun e => e.all (belowCount r)) r.rejectExit
  if r.type = .outlet ∧ (given p.mask 3 ∨ given p.mask 4 ∨ (given p.mask 2 ∧ p.occupancyLimit ≠ 0)) then none
  return { r with checkLevel, skipLimit, occupancyLimit, defaultExit, rejectExit }

/-- STATION_TUNE at its block (R17). -/
def State.stationTuneCommand (s : State) (p : StationTuneParams) : State × Reply :=
  match index? Config.stations p.station with
  | none => refuse s .badParam
  | some st =>
    match stationTuneRecord? p (s.station st) with
    | some r => accept (s.withStation st r)
    | none => refuse s .badParam

/-! ### SEGMENT_TUNE (R18, R199) -/

/-- The record after a SEGMENT_TUNE, for a segment whose length plus reserved count is `depth`; none where R18 refuses it
BAD_PARAM. A new min transit of a STAGING segment is ignored. -/
def segmentTuneRecord? (p : SegmentTuneParams) (r : SegmentRecord) (depth : Nat) : Option SegmentRecord := do
  if ¬ maskFits p.mask 3 ∨ ¬ r.used then none
  if given p.mask 0 ∧ (p.capacity = 0 ∨ 64 < p.capacity.toNat ∨ p.capacity.toNat < depth) then none
  if given p.mask 2 ∧ p.maxTransit = 0 then none
  let capacity := if given p.mask 0 then p.capacity.toNat else r.capacity
  let minTransit := if given p.mask 1 ∧ r.kind = .conveyor then p.minTransit else r.minTransit
  let maxTransit := if given p.mask 2 then p.maxTransit else r.maxTransit
  if r.kind = .conveyor ∧ maxTransit.toNat < minTransit.toNat then none
  return { r with capacity, minTransit, maxTransit }

/-- A segment record tuned; a rise in capacity is a room event (R18, R61). -/
def State.tuneSegment (s : State) (g : Segment) (r : SegmentRecord) : State :=
  let t := s.withSegment g r
  if (s.segment g).capacity < r.capacity then t.raiseRoomEvent g else t

/-- SEGMENT_TUNE at its block (R18). -/
def State.segmentTuneCommand (s : State) (p : SegmentTuneParams) : State × Reply :=
  match index? Config.segments p.segment with
  | none => refuse s .badParam
  | some g =>
    match segmentTuneRecord? p (s.segment g) (s.depth g) with
    | some r => accept (s.tuneSegment g r)
    | none => refuse s .badParam

/-! ### Reads (R19, R20) -/

/-- STATION_READ at its block (R19, R147, R182). -/
def State.stationReadCommand (s : State) (station : Byte) : State × Reply :=
  match index? Config.stations station with
  | none => refuse s .badParam
  | some st => accept s (s.stationImage st)

/-- SEGMENT_READ at its block (R19). -/
def State.segmentReadCommand (s : State) (segment : Byte) : State × Reply :=
  match index? Config.segments segment with
  | none => refuse s .badParam
  | some g => accept s (s.segmentImage g)

/-- SEGMENT_LIST at its block: at most 8 carriers from the start position, then the queue length (R20). -/
def State.segmentListCommand (s : State) (segment start : Byte) : State × Reply :=
  match index? Config.segments segment with
  | none => refuse s .badParam
  | some g =>
    if 63 < start.toNat then refuse s .badParam
    else accept s ((((s.queue g).drop start.toNat).take 8).flatMap s.carrierBytes ++ [byteNat (s.queue g).length])

def execStationSet (p : StationSetParams) (s : State) : StepOutcome := hostCommand 0x10 14 (·.stationSetCommand p) s
def execSegmentSet (p : SegmentSetParams) (s : State) : StepOutcome := hostCommand 0x11 12 (·.segmentSetCommand p) s
def execZoneSet (zone policy : Byte) (s : State) : StepOutcome := hostCommand 0x12 2 (·.zoneSetCommand zone policy) s
def execHaltMap (line mask : Byte) (s : State) : StepOutcome := hostCommand 0x13 2 (·.haltMapCommand line mask) s
def execStationTune (p : StationTuneParams) (s : State) : StepOutcome := hostCommand 0x14 8 (·.stationTuneCommand p) s
def execSegmentTune (p : SegmentTuneParams) (s : State) : StepOutcome := hostCommand 0x15 7 (·.segmentTuneCommand p) s
def execStationRead (station : Byte) (s : State) : StepOutcome := hostCommand 0x18 1 (·.stationReadCommand station) s
def execSegmentRead (segment : Byte) (s : State) : StepOutcome := hostCommand 0x19 1 (·.segmentReadCommand segment) s
def execSegmentList (segment start : Byte) (s : State) : StepOutcome :=
  hostCommand 0x1A 2 (·.segmentListCommand segment start) s

end Sys2Proof.Machine
end

