-- ==== Sys2Proof/Machine/Routes.lean ====
section
/-! DEFINITION. The Route Store's commands: decision sets (R110, R111), the slot lifecycle (R114 to R118, R120), the class
table (R124), and ROUTE_READ (R125); the activation checks, which START's validation shares (R14, R117). -/

namespace Sys2Proof.Machine

/-! ### Decision sets (R110, R111) -/

/-- The entry an entry place gives; none where R110 refuses it BAD_PARAM. The exit b of a FIXED entry is not read (R199). -/
def entryOfPlace (p : EntryPlace) : Option DecisionEntry := do
  let station ← index? Config.stations p.station
  let a ← index? Config.exits p.exitA
  match p.kind.toNat with
  | 1 => return { station, preference := .fixed a }
  | 2 =>
    let b ← index? Config.exits p.exitB
    if a = b then none
    return { station, preference := .balance a b }
  | _ => none

/-- The entries of a DECISION_WRITE; none where R110 refuses it BAD_PARAM. Places at and beyond the count are not read. -/
def writtenEntries? (count : Byte) (places : List EntryPlace) : Option (List DecisionEntry) := do
  if Config.entryPlaces < count.toNat then none
  let entries ← (places.take count.toNat).mapM entryOfPlace
  if ¬ (entries.map DecisionEntry.station).Nodup then none
  return entries

/-- DECISION_WRITE at its block, the checks in R110's order. -/
def State.decisionWriteCommand (s : State) (set count : Byte) (places : List EntryPlace) : State × Reply :=
  match index? Config.sets set, writtenEntries? count places with
  | some i, some entries =>
    if 0 < (s.setOf i).references then refuse s .inUse
    else accept (s.withSets (s.routes.sets.modify i fun d => { d with entries }))
  | _, _ => refuse s .badParam

/-- DECISION_READ at its block: the entries in ascending station order, then the reference count (R111). -/
def State.decisionReadCommand (s : State) (set : Byte) : State × Reply :=
  match index? Config.sets set with
  | none => refuse s .badParam
  | some i => accept s ((s.setOf i).ascending.flatMap DecisionEntry.bytes ++ wordNat (s.setOf i).references)

/-! ### Building a slot (R114 to R116) -/

def SlotState.draft? : SlotState → Option Program
  | .draft p => some p
  | _ => none

/-- A slot's state replaced, its bound count kept. -/
def State.withSlotState (s : State) (q : Slot) (state : SlotState) : State :=
  s.withSlot q { s.slotOf q with state }

/-- ROUTE_OPEN at its block (R114). -/
def State.routeOpenCommand (s : State) (slot : Byte) : State × Reply :=
  match index? Config.slots slot with
  | none => refuse s .badParam
  | some q =>
    match (s.slotOf q).state with
    | .empty => accept (s.withSlotState q (.draft .cleared))
    | _ => refuse s .wrongState

/-- ROUTE_DISCARD at its block (R114). -/
def State.routeDiscardCommand (s : State) (slot : Byte) : State × Reply :=
  match index? Config.slots slot with
  | none => refuse s .badParam
  | some q =>
    match (s.slotOf q).state with
    | .draft _ => accept (s.withSlotState q .empty)
    | _ => refuse s .wrongState

/-- The stage a ROUTE_STAGE writes; none where R115 refuses it BAD_PARAM. -/
def stageWritten? (p : RouteStageParams) : Option Stage := do
  let set ← index? Config.sets p.set
  let boundary ← index? Config.stations p.boundary
  let endAction ← EndAction.ofCode p.endAction
  return { set, boundary, endAction, dwell := p.dwell }

/-- ROUTE_STAGE at its block, the checks in R115's order. -/
def State.routeStageCommand (s : State) (p : RouteStageParams) : State × Reply :=
  match index? Config.slots p.slot, index? Config.stages p.stage, stageWritten? p with
  | some q, some k, some stage =>
    match (s.slotOf q).state.draft? with
    | some program =>
      accept (s.withSlotState q (.draft { program with stages := program.stages.set k (some stage) }))
    | none => refuse s .wrongState
  | _, _, _ => refuse s .badParam

/-- A stage number below the stage count, or *none* (R116). -/
def stageBelow? (count : Nat) (b : Byte) : Option (Option StageNo) :=
  (optIndex? Config.stages b).filter fun k => k.all fun k => k.val < count

/-- The program with a ROUTE_PARAMS's four items; none where R116 refuses it BAD_PARAM. -/
def paramsWritten? (p : RouteParamsParams) (program : Program) : Option Program := do
  if p.stageCount = 0 ∨ Config.stages < p.stageCount.toNat ∨ p.lapLimit = 0 then none
  let loopBase ← stageBelow? p.stageCount.toNat p.loopBase
  let exhaustStage ← stageBelow? p.stageCount.toNat p.exhaustStage
  return { program with stageCount := p.stageCount.toNat, loopBase, lapLimit := p.lapLimit.toNat, exhaustStage }

/-- ROUTE_PARAMS at its block, the checks in R116's order. -/
def State.routeParamsCommand (s : State) (p : RouteParamsParams) : State × Reply :=
  match index? Config.slots p.slot, paramsWritten? p .cleared with
  | some q, some _ =>
    match (s.slotOf q).state.draft?.bind (paramsWritten? p) with
    | some program => accept (s.withSlotState q (.draft program))
    | none => refuse s .wrongState
  | _, _ => refuse s .badParam

/-! ### Activation (R117, R118) -/

/-- The reasons of a failed activation (R117), with their values (R199). -/
inductive StageFault where
  | stageUnwritten | boundary | entry | endAction | boundaryType | loopBase
deriving DecidableEq, Repr

def StageFault.code : StageFault → Byte
  | .stageUnwritten => 0x10 | .boundary => 0x11 | .entry => 0x12 | .endAction => 0x13 | .boundaryType => 0x14
  | .loopBase => 0x15

/-- An entry names a configured station, not an OUTLET, and exits below its exit count (R117). -/
def State.entryFits (s : State) (e : DecisionEntry) : Bool :=
  let n := (s.station e.station).exits.length
  s.configured e.station && !s.isOutlet e.station && (match e.preference with
    | .fixed a => a.val < n
    | .balance a b => a.val < n && b.val < n)

/-- The first check of R117 that stage `k` of a program fails. -/
def State.stageFault (s : State) (p : Program) (k : StageNo) : Option StageFault :=
  match p.stages.get k with
  | none => some .stageUnwritten
  | some stage =>
    if ¬ s.configured stage.boundary then some .boundary
    else if ¬ (s.setOf stage.set).entries.all s.entryFits then some .entry
    else if stage.endAction = .advance ∧ k.val + 1 = p.stageCount then some .endAction
    else if (stage.endAction = .finish) ≠ (s.isOutlet stage.boundary = true) then some .boundaryType
    else if stage.endAction = .loop ∧ p.loopBase = none then some .loopBase
    else none

/-- The first failing stage of a program with its reason, stages 0 to stage count - 1 in ascending order (R117). -/
def State.activationFault (s : State) (p : Program) : Option (StageNo × StageFault) :=
  (List.finRange Config.stages).findSome? fun k =>
    if k.val < p.stageCount then (s.stageFault p k).map fun f => (k, f) else none

/-- ROUTE_ACTIVATE at its block (R117, R118). A failure report names object SLOT, the slot, the reason and the stage. -/
def State.routeActivateCommand (s : State) (slot : Byte) : State × Reply :=
  match index? Config.slots slot with
  | none => refuse s .badParam
  | some q =>
    match (s.slotOf q).state.draft? with
    | none => refuse s .wrongState
    | some p =>
      match s.activationFault p with
      | some (k, f) => (s, { code := .validationFailed, data := [3, byteNat q.val, f.code, byteNat k.val] })
      | none => accept ((s.withSlot q { state := .active p, bound := 0 }).countReferences p)

/-! ### Withdrawal, classes, reading (R120, R124, R125) -/

/-- A class is bound to the slot (R120). -/
def State.classBoundTo (s : State) (q : Slot) : Bool := s.routes.classes.rows.any fun c => c = some q

/-- ROUTE_WITHDRAW at its block, the checks in R120's order. -/
def State.routeWithdrawCommand (s : State) (slot : Byte) : State × Reply :=
  match index? Config.slots slot with
  | none => refuse s .badParam
  | some q =>
    match (s.slotOf q).state with
    | .active p =>
      if s.classBoundTo q then refuse s .classReferenced
      else if (s.slotOf q).bound = 0 then
        accept ((s.withSlot q { state := .empty, bound := 0 }).releaseReferences p) [0, noneByte, noneByte]
      else accept (s.withSlotState q (.draining p)) (1 :: wordNat (s.slotOf q).bound)
    | _ => refuse s .wrongState

/-- CLASS_BIND at its block, the checks in R124's order; FFh unbinds (R199). -/
def State.classBindCommand (s : State) (cls slot : Byte) : State × Reply :=
  match index? Config.classes cls, optIndex? Config.slots slot with
  | some c, some binding =>
    if binding.all fun q => (s.slotOf q).state.isActive then
      accept (s.withRoutes { s.routes with classes := s.routes.classes.set c binding })
    else refuse s .routeUnavailable
  | _, _ => refuse s .badParam

/-- ROUTE_READ at its block (R125). -/
def State.routeReadCommand (s : State) (slot : Byte) : State × Reply :=
  match index? Config.slots slot with
  | none => refuse s .badParam
  | some q => accept s (s.routeImage q)

/-- DECISION_WRITE (R110). With a number of places other than 8 its frame has the wrong length: FRAME_ERROR (R187). -/
def execDecisionWrite (set count : Byte) (places : List EntryPlace) (s : State) : StepOutcome :=
  hostCommand 0x20 (2 + 4 * places.length)
    (fun s => if places.length = Config.entryPlaces then s.decisionWriteCommand set count places else refuse s .frameError) s

def execDecisionRead (set : Byte) (s : State) : StepOutcome := hostCommand 0x21 1 (·.decisionReadCommand set) s
def execRouteOpen (slot : Byte) (s : State) : StepOutcome := hostCommand 0x22 1 (·.routeOpenCommand slot) s
def execRouteStage (p : RouteStageParams) (s : State) : StepOutcome := hostCommand 0x23 7 (·.routeStageCommand p) s
def execRouteParams (p : RouteParamsParams) (s : State) : StepOutcome := hostCommand 0x24 5 (·.routeParamsCommand p) s
def execRouteActivate (slot : Byte) (s : State) : StepOutcome := hostCommand 0x25 1 (·.routeActivateCommand slot) s
def execRouteWithdraw (slot : Byte) (s : State) : StepOutcome := hostCommand 0x26 1 (·.routeWithdrawCommand slot) s
def execRouteDiscard (slot : Byte) (s : State) : StepOutcome := hostCommand 0x27 1 (·.routeDiscardCommand slot) s
def execRouteRead (slot : Byte) (s : State) : StepOutcome := hostCommand 0x28 1 (·.routeReadCommand slot) s
def execClassBind (cls slot : Byte) (s : State) : StepOutcome := hostCommand 0x29 2 (·.classBindCommand cls slot) s

end Sys2Proof.Machine
end

