-- ==== Sys2Proof/Machine/Device.lean ====
section
/-! DEFINITION. Power-on and the Line Timer (R1, R9, R184), START and its validation (R11 to R15), STOP (R16),
RESET_TRACKING (R43), STATUS, SET_ATTN_MASK, READ_TIME (R192, R194, R195). -/

namespace Sys2Proof.Machine

/-! ### Power-on and time -/

/-- POWER_ON: every table at its power-on value, a transaction under way abandoned; the commands waiting outside the part
are kept (R9, R184). -/
def State.powerOn (s : State) : State :=
  { State.reset with
    port := { State.reset.port with transaction := s.port.transaction.afterPowerOn }
    pending := s.pending }

def execPowerOn (s : State) : StepOutcome := .next s.powerOn

/-- READY_SET (R184). -/
def State.setReady (s : State) : State := s.withPort { s.port with ready := true }

def execReadySet (s : State) : StepOutcome := .next s.setReady

/-- LINE_TIME_TICK: line time advances, wrapping (R1), and each halt input is sampled (R157). -/
def State.tick (s : State) (samples : BitVec 4) : State :=
  (s.withLineTime (s.lineTime + 1)).withZones
    { s.zones with lastSample := samples, priorSample := s.zones.lastSample }

def execLineTimeTick (samples : BitVec 4) (s : State) : StepOutcome := .next (s.tick samples)

/-! ### Validation (R12 to R14) -/

/-- The objects of a failure report, LINE 0, STATION 1, SEGMENT 2, SLOT 3, with the object's number (R15, R199). -/
inductive MapObject where
  | line
  | station (st : Station)
  | segment (g : Segment)
  | slot (q : Slot)
deriving DecidableEq, Repr

/-- The reasons of START's validation with their details (R12 to R14). -/
inductive MapFault where
  | noStations
  | shape
  | entryMismatch (port : Nat)
  | stagingMisplaced (port : Nat)
  | exitMismatch (e : Nat)
  | segmentOrphan (side : Nat)
  | window
  | routeInvalid (stage : StageNo)
deriving DecidableEq, Repr

/-- What a failed validation reports (R15). -/
structure Failure where
  object : MapObject
  fault : MapFault
deriving DecidableEq, Repr

/-- Check 1 of R12. -/
def StationRecord.shapeFits (r : StationRecord) : Bool :=
  if r.type = .outlet then r.port1.isNone && r.exits.isEmpty else !r.exits.isEmpty

/-- The entry segment at a port is used and its downstream is this station at this port; a port with none passes. -/
def State.entryAgrees (s : State) (st : Station) (port : Port) : Bool :=
  match (s.station st).entrySegment port.val with
  | some g => (s.segment g).downstream == some (st, port)
  | none => true

/-- The kind an entry port's segment must have: STAGING at an INFEED's port 0, CONVEYOR elsewhere (R12 check 3). -/
def StationRecord.entryKind (r : StationRecord) (port : Port) : SegmentKind :=
  if r.type = .infeed ∧ port = 0 then .staging else .conveyor

/-- Check 3 of R12 at a port. -/
def State.entryKindFits (s : State) (st : Station) (port : Port) : Bool :=
  match (s.station st).entrySegment port.val with
  | some g => (s.segment g).kind == (s.station st).entryKind port
  | none => true

/-- Check 4 of R12 at an exit. -/
def State.exitAgrees (s : State) (st : Station) (e : Exit) : Bool :=
  match (s.station st).exitSegment e.val with
  | some g => (s.segment g).used && (s.segment g).kind == .conveyor && (s.segment g).upstream == some (st, e)
  | none => true

/-- The first check of R12 a configured station fails. -/
def State.stationFault (s : State) (st : Station) : Option MapFault :=
  if ¬ (s.station st).shapeFits then some .shape
  else
    match (List.finRange Config.ports).find? fun p => !s.entryAgrees st p with
    | some p => some (.entryMismatch p.val)
    | none =>
      match (List.finRange Config.ports).find? fun p => !s.entryKindFits st p with
      | some p => some (.stagingMisplaced p.val)
      | none => ((List.finRange Config.exits).find? fun e => !s.exitAgrees st e).map fun e => .exitMismatch e.val

/-- The first check of R13 a used segment fails. -/
def State.segmentFault (s : State) (g : Segment) : Option MapFault :=
  let r := s.segment g
  let downstream : Bool :=
    match r.downstream with
    | some (d, p) => s.configured d && (s.station d).entrySegment p.val == some g
    | none => false
  let upstream : Bool :=
    match r.upstream with
    | some (u, e) => s.configured u && (s.station u).exitSegment e.val == some g
    | none => false
  if ¬ downstream then some (.segmentOrphan 0)
  else if r.kind = .conveyor ∧ ¬ upstream then some (.segmentOrphan 1)
  else if r.kind = .conveyor ∧ r.maxTransit.toNat < r.minTransit.toNat then some .window
  else none

/-- A slot that is ACTIVE or DRAINING, checked as ROUTE_ACTIVATE checks it (R14). -/
def State.slotFault (s : State) (q : Slot) : Option MapFault :=
  match (s.slotOf q).state with
  | .active p | .draining p => (s.activationFault p).map fun f => .routeInvalid f.1
  | _ => none

/-- The first failure of the validation: the line, then stations, segments and slots in ascending number (R12 to R14). -/
def State.validate (s : State) : Option Failure :=
  if (List.finRange Config.stations).all fun st => !s.configured st then some ⟨.line, .noStations⟩
  else
    match (List.finRange Config.stations).findSome? fun st =>
        if s.configured st then (s.stationFault st).map (Failure.mk (.station st)) else none with
    | some f => some f
    | none =>
      match (List.finRange Config.segments).findSome? fun g =>
          if (s.segment g).used then (s.segmentFault g).map (Failure.mk (.segment g)) else none with
      | some f => some f
      | none => (List.finRange Config.slots).findSome? fun q => (s.slotFault q).map (Failure.mk (.slot q))

def MapObject.bytes : MapObject → List Byte
  | .line => [0, 0]
  | .station st => [1, byteNat st.val]
  | .segment g => [2, byteNat g.val]
  | .slot q => [3, byteNat q.val]

def MapFault.bytes : MapFault → List Byte
  | .noStations => [0x00, 0]
  | .shape => [0x01, 0]
  | .entryMismatch p => [0x02, byteNat p]
  | .stagingMisplaced p => [0x03, byteNat p]
  | .exitMismatch e => [0x04, byteNat e]
  | .segmentOrphan side => [0x05, byteNat side]
  | .window => [0x06, 0]
  | .routeInvalid k => [0x07, byteNat k.val]

/-- The failure report: object, number, reason, detail (R15, R199). -/
def Failure.bytes (f : Failure) : List Byte := f.object.bytes ++ f.fault.bytes

/-- START at its block (R11, R189). -/
def State.startCommand (s : State) : State × Option Reply :=
  if s.map.device = .setup then ((s.withDevice .validating).beginLong .validation, none)
  else (s, some { code := .notSetup })

def execStart (s : State) : StepOutcome := longCommand 0x01 0 State.startCommand s

/-- VALIDATION_COMPLETE: the device enters RUNNING, or returns to SETUP with the failure report (R15). -/
def State.completeValidation (s : State) : State :=
  if s.map.device = .validating then
    match s.validate with
    | none => (s.withDevice .running).respond 0x01 { code := .ok }
    | some f => (s.withDevice .setup).respond 0x01 { code := .validationFailed, data := f.bytes }
  else s

def execValidationComplete (s : State) : StepOutcome := .next s.completeValidation

/-! ### STOP (R16) -/

/-- STOP at its block (R16). -/
def State.stopCommand (s : State) : State × Reply :=
  if s.map.device ≠ .running then refuse s .notRunning
  else if s.anyLive then refuse s .inUse
  else accept (s.withDevice .setup)

def execStop (s : State) : StepOutcome := hostCommand 0x02 0 State.stopCommand s

/-! ### RESET_TRACKING (R43) -/

/-- Some zone that holds a configured station is RUNNING (R43). -/
def State.usedZoneRunning (s : State) : Bool :=
  (List.finRange Config.stations).any fun st => s.configured st && !s.zoneHalted (s.station st).zone

/-- A record at a tracking reset: a live one becomes FREE in its next generation (R28 step 5, R43). -/
def CarrierRecord.afterReset (r : CarrierRecord) : CarrierRecord := if r.live then .free (r.generation + 1) else r

/-- A slot at a tracking reset: bound count 0, a DRAINING one EMPTY (R43, R126). -/
def RouteSlot.afterReset (r : RouteSlot) : RouteSlot :=
  match r.state with
  | .draining _ => { state := .empty, bound := 0 }
  | state => { state, bound := 0 }

/-- The programs of the DRAINING slots, whose references a tracking reset releases (R43). -/
def State.drainingPrograms (s : State) : List Program :=
  s.routes.slots.rows.filterMap fun r => match r.state with | .draining p => some p | _ => none

/-- The Route Store at a tracking reset (R43, R112). -/
def State.routesAfterReset (s : State) : RouteStore :=
  { s.routes with
    slots := s.routes.slots.mapRows fun _ r => r.afterReset
    sets := s.routes.sets.mapRows fun i d =>
      { d with references := d.references - (s.drainingPrograms.map fun p => p.uses i).sum } }

/-- The effects of RESET_TRACKING, one event (R43). -/
def State.resetTracking (s : State) : State :=
  { s with
    carriers := { records := s.carriers.records.mapRows fun _ r => r.afterReset, exceptionCount := 0 }
    tags := []
    tracker := { queues := Table.fill _ [], reserved := Table.fill _ 0, waiters := Table.fill _ [], roomEvents := [] }
    custody := s.custody.mapRows fun st _ => if s.configured st then .halted .idle else .idle
    routes := s.routesAfterReset
    link := { s.link with records := s.link.records.mapRows fun _ l => { l with slot := .empty } } }

/-- RESET_TRACKING at its block (R43). -/
def State.resetTrackingCommand (s : State) : State × Reply :=
  if s.map.device ≠ .running then refuse s .notRunning
  else if s.usedZoneRunning then refuse s .zoneRunning
  else accept s.resetTracking

def execResetTracking (s : State) : StepOutcome := hostCommand 0x03 0 State.resetTrackingCommand s

/-! ### STATUS, SET_ATTN_MASK, READ_TIME (R192, R194, R195) -/

/-- STATUS at its block: the flags as they stand before the response is placed (R194). -/
def State.statusCommand (s : State) : State × Reply := accept s s.statusImage

def execStatus (s : State) : StepOutcome := hostCommand 0x04 0 State.statusCommand s

/-- SET_ATTN_MASK at its block (R192); bit 7 names no flag (R199). -/
def State.setAttnMaskCommand (s : State) (mask : Byte) : State × Reply :=
  if mask.msb then refuse s .badParam
  else accept (s.withPort { s.port with mask := mask.setWidth 7 }) [mask]

def execSetAttnMask (mask : Byte) (s : State) : StepOutcome := hostCommand 0x05 1 (·.setAttnMaskCommand mask) s

/-- READ_TIME at its block (R195). -/
def State.readTimeCommand (s : State) : State × Reply := accept s (leBytes 4 s.lineTime)

def execReadTime (s : State) : StepOutcome := hostCommand 0x06 0 State.readTimeCommand s

end Sys2Proof.Machine
end

