-- ==== Sys2Proof/Machine/Custody.lean ====
section
/-! DEFINITION. The Station Custody Unit: taking the occupant (R90 to R93), clearing the station (R94 to R97), holds and
their end (R98 to R101), occupancy and jams (R102 to R107); and the grant of a room event (R62), which wakes stations. -/

namespace Sys2Proof.Machine

/-! ### Results of a decision (R91 to R93, R98, R101) -/

/-- The occupancy timer started now: none where the limit is 0 (R102). -/
def State.occupancyTimer (s : State) (st : Station) : Option Time :=
  let limit := (s.station st).occupancyLimit
  if limit = 0 then none else some (s.lineTime + limit.asTime)

/-- A carrier put in custody at a station in a state, AT_STATION or HELD (R88). -/
def State.putInCustody (s : State) (st : Station) (c : Handle) (state : CarrierState) : State :=
  s.modRecord c fun r => { r with state, location := .atStation st, window := none }

/-- An exit directed: OCCUPIED with its reservation and timer, and the directive placed (R91, R98, R101). -/
def State.directTo (s : State) (st : Station) (c : Handle) (e : Exit) (kind : DirectiveKind) (answering : Option Byte) :
    State :=
  let timer := s.occupancyTimer st
  let s := s.putInCustody st c .atStation
  let s := s.reserve ((s.station st).exitSegment e.val)
  (s.withCustody st (.occupied c e timer)).placeDirective st kind answering

/-- A dwell begun at an arrival (R92). -/
def State.beginDwell (s : State) (st : Station) (c : Handle) (ticks : Ticks) (seq : Byte) : State :=
  let s := s.putInCustody st c .held
  let s := s.modRecord c fun r => { r with flags := { r.flags with dwelt := true } }
  (s.withCustody st (.heldDwell c (s.lineTime + ticks.asTime))).placeDirective st .hold (some seq)

/-- A carrier blocked on a segment: HELD BLOCKED, at the tail of its waiter list; the directive is the caller's (R93). -/
def State.block (s : State) (st : Station) (c : Handle) (g : Option Segment) : State :=
  let s := s.putInCustody st c .held
  (s.withCustody st (.heldBlocked c)).joinWaiters g st

/-- A carrier taken as the occupant of an IDLE transfer or infeed: the decision of the arrival, applied (R90 to R93). -/
def State.takeOccupant (s : State) (st : Station) (c : Handle) (seq : Byte) : State :=
  match s.dwellTest st c with
  | some ticks => s.beginDwell st c ticks seq
  | none =>
    let d := s.decide st c
    let s := s.markDecision st c d
    match d.choice with
    | .toExit e => s.directTo st c e (.toExit e) (some seq)
    | .blocked g => (s.block st c g).placeDirective st .hold (some seq)

/-- A fresh decision for a held occupant, dwell excluded: at a dwell's end (R98, R99) and at a wake (R101). -/
def State.redecide (s : State) (st : Station) (c : Handle) : State :=
  let d := s.decide st c
  let s := s.markDecision st c d
  match d.choice with
  | .toExit e => s.directTo st c e (.release e) none
  | .blocked g => s.block st c g

/-! ### The grant (R62) -/

/-- The oldest waiter that is not HALTED and not yet woken on this room event (R62). -/
def State.nextWaiter (s : State) (g : Segment) (woken : List Station) : Option Station :=
  (s.waiterList g).find? fun st => !(s.custodyOf st).isHalted && !woken.contains st

/-- One waiter taken off the list and woken (R62, R101). -/
def State.wake (s : State) (g : Segment) (st : Station) : State :=
  let s := s.withWaiters g ((s.waiterList g).erase st)
  match s.custodyOf st with
  | .heldBlocked c => s.redecide st c
  | _ => s

/-- The rounds of a grant: while the segment has room and an eligible waiter, the oldest is woken (R62). Each round wakes a
station not woken before, so 32 rounds are enough. -/
def State.grantRounds (g : Segment) : Nat → List Station → State → State
  | 0, _, s => s
  | n + 1, woken, s =>
    if s.hasRoom g then
      match s.nextWaiter g woken with
      | some st => State.grantRounds g n (st :: woken) (s.wake g st)
      | none => s
    else s

/-- A raised room event on a segment granted: the oldest one on it is taken (R62). -/
def State.grant (s : State) (g : Segment) : State :=
  if s.tracker.roomEvents.contains g then
    State.grantRounds g Config.stations [] (s.withRoomEvents (s.tracker.roomEvents.erase g))
  else s

/-- ROOM_EVENT_GRANT (R62). With no room event raised on the segment there is nothing to grant. -/
def execRoomEventGrant (g : Segment) (s : State) : StepOutcome := .next (s.grant g)

/-! ### Timers (R98, R103) -/

/-- DWELL_EXPIRY (R98): the dwell of a HELD DWELL station is reached while its zone is RUNNING. -/
def State.expireDwell (s : State) (st : Station) : State :=
  match s.custodyOf st with
  | .heldDwell c expiry =>
    if s.zoneHalted (s.station st).zone ∨ Time.isAfter s.lineTime expiry then s else s.redecide st c
  | _ => s

/-- OCCUPANCY_EXPIRY (R103): the occupancy timer of an OCCUPIED station is reached while its zone is RUNNING. -/
def State.expireOccupancy (s : State) (st : Station) : State :=
  match s.custodyOf st with
  | .occupied c e (some expiry) =>
    if s.zoneHalted (s.station st).zone ∨ Time.isAfter s.lineTime expiry then s else s.withCustody st (.jammed c e)
  | _ => s

def execDwellExpiry (st : Station) (s : State) : StepOutcome := .next (s.expireDwell st)

def execOccupancyExpiry (st : Station) (s : State) : StepOutcome := .next (s.expireOccupancy st)

/-! ### Clearing the station (R94 to R97) -/

/-- Step 1 of a clear: the reservation released, or the station taken off its waiter list; the timer goes with the custody
record (R94, R96). -/
def State.releaseHold (s : State) (st : Station) : State :=
  match s.custodyOf st with
  | .occupied _ d _ | .jammed _ d => s.unreserve ((s.station st).exitSegment d.val)
  | .heldBlocked _ => s.leaveWaiters st
  | _ => s

/-- The clear names an exit other than the directed one; a held occupant has none (R94, R96). -/
def Custody.deviates (c : Custody) (e : Byte) : Bool :=
  match c.exit? with
  | some d => e.toNat != d.val
  | none => true

/-- Step 4 of a clear: the carrier appended to the exit's segment, or LOST there (R94, R95). The Boolean tells whether it
was appended. -/
def State.leaveBy (s : State) (c : Handle) (g : Option Segment) : State × Bool :=
  match g with
  | some g =>
    if s.hasRoom g then (s.append g c .inTransit, true)
    else ((s.modRecord c fun r => { r with lastSegment := some g }).makeLost c .lostDeviated, false)
  | none => ((s.modRecord c fun r => { r with lastSegment := none }).makeLost c .lostDeviated, false)

/-- The room event of a clear: on the directed segment, unless the append filled the room the release gave (R61, R94). -/
def State.clearRoomEvent (s : State) (directed taken : Option Segment) (appended : Bool) : State :=
  match directed with
  | some g => if appended ∧ taken = some g then s else s.raiseRoomEvent g
  | none => s

/-- A clear of occupant `c` by exit `e`, the steps of R94 in order, with R95 and R96. -/
def State.clearOccupant (s : State) (st : Station) (c : Handle) (e : Byte) : State :=
  let custody := s.custodyOf st
  let directed := custody.exit?.bind fun d => (s.station st).exitSegment d.val
  let taken := (s.station st).exitSegment e.toNat
  let s := s.releaseHold st
  let s := if custody.deviates e then s.modRecord c fun r => { r with flags := { r.flags with deviated := true } } else s
  let s := s.stageTransition st e c
  let (s, appended) := s.leaveBy c taken
  let s := (s.withCustody st .idle).withdrawDirective st
  s.clearRoomEvent directed taken appended

/-! ### RELEASE (R99) -/

/-- The choice byte and item of RELEASE's answer: directed with the exit, or blocked with the segment waited on (R200). -/
def Choice.bytes : Choice → List Byte
  | .toExit e => [0, byteNat e.val]
  | .blocked g => [1, indexByte g]

/-- RELEASE at its block, the checks in R99's order. -/
def State.releaseCommand (s : State) (station : Byte) : State × Reply :=
  if s.map.device ≠ .running then refuse s .notRunning
  else
    match index? Config.stations station with
    | none => refuse s .badParam
    | some st =>
      if ¬ s.configured st then refuse s .badParam
      else
        match s.custodyOf st with
        | .halted _ => refuse s .zoneHalted
        | .heldBlocked _ => refuse s .wrongState
        | .heldDwell c _ =>
          let t := s.redecide st c
          accept t (t.carrierBytes c ++ (s.decide st c).choice.bytes)
        | _ => refuse s .notHeld

def execRelease (station : Byte) (s : State) : StepOutcome := hostCommand 0x53 1 (·.releaseCommand station) s

/-! ### CLEAR_JAM (R105, R106) -/

/-- A jammed carrier removed (R106). -/
def State.removeJammed (s : State) (st : Station) (c : Handle) (d : Exit) : State :=
  let g := (s.station st).exitSegment d.val
  let s := s.unreserve g
  let s := s.unbindSlot? (s.record c).pendingRoute
  let s := s.modRecord c fun r => { r with pendingRoute := none }
  let s := s.makeLost c .lostJam
  let s := (s.withCustody st .idle).withdrawDirective st
  match g with
  | some g => s.raiseRoomEvent g
  | none => s

/-- CLEAR_JAM at its block, the checks in R105's order. -/
def State.clearJamCommand (s : State) (station outcome : Byte) : State × Reply :=
  if s.map.device ≠ .running then refuse s .notRunning
  else
    match index? Config.stations station with
    | none => refuse s .badParam
    | some st =>
      if ¬ s.configured st ∨ (outcome ≠ noneByte ∧ (s.station st).exits.length ≤ outcome.toNat) then refuse s .badParam
      else
        match s.custodyOf st with
        | .halted _ => refuse s .zoneHalted
        | .jammed c d =>
          let t := if outcome = noneByte then s.removeJammed st c d else s.clearOccupant st c outcome
          accept t (t.carrierBytes c ++ [(t.record c).state.code])
        | _ => refuse s .wrongState

def execClearJam (station outcome : Byte) (s : State) : StepOutcome :=
  hostCommand 0x54 2 (·.clearJamCommand station outcome) s

end Sys2Proof.Machine
end

