-- ==== Sys2Proof/Machine/Outlets.lean ====
section
/-! DEFINITION. The Outlet Unit: delivery (R149 to R151) and the outlet commands (R152 to R154). -/

namespace Sys2Proof.Machine

/-- The full flag re-evaluated: set while the delivered count is at or above the capacity (R148). -/
def OutletAccount.reevaluated (a : OutletAccount) : OutletAccount := { a with full := a.capacity ≤ a.delivered }

/-- One delivery counted, saturating at 4095 (R149 steps 2 and 3). -/
def OutletAccount.deliver (a : OutletAccount) : OutletAccount :=
  { a with delivered := min (a.delivered + 1) 4095 }.reevaluated

/-- A delivery is correct when the current stage ends FINISH at this station (R150). -/
def State.deliveryCorrect (s : State) (st : Station) (c : Handle) : Bool :=
  match (s.record c).route.bind s.stageOf with
  | some stage => stage.endAction == .finish && stage.boundary == st
  | none => false

/-- A carrier delivered at an outlet, the steps of R149 in order. -/
def State.deliver (s : State) (st : Station) (c : Handle) (seq : Byte) : State :=
  let s := s.modRecord c fun r => { r with state := .delivered, location := .atStation st, window := none }
  let s := s.withOutlet st (s.outlet st).deliver
  let s := if s.deliveryCorrect st c then s else s.setException c .misdelivered
  let s := if (s.outlet st).autoRetire ∧ (s.record c).exception = none then s.freeRecord c else s
  s.placeDirective st .accept (some seq)

/-- The outlet a command names; none is refused BAD_PARAM (chapter 8, "Host commands"). -/
def State.outlet? (s : State) (station : Byte) : Option Station :=
  match index? Config.stations station with
  | some st => if s.isOutlet st then some st else none
  | none => none

/-- A room event on the outlet's entry segment (R61, R152, R153). -/
def State.raiseEntryEvent (s : State) (st : Station) : State :=
  match (s.station st).port0 with
  | some g => s.raiseRoomEvent g
  | none => s

/-- OUTLET_CLOSE at its block (R152). -/
def State.outletCloseCommand (s : State) (station : Byte) : State × Reply :=
  match s.outlet? station with
  | none => refuse s .badParam
  | some st =>
    let t := s.withOutlet st { s.outlet st with closed := true }
    accept t (t.accountBytes st)

/-- OUTLET_OPEN at its block: a room event also when the outlet was already open (R152). -/
def State.outletOpenCommand (s : State) (station : Byte) : State × Reply :=
  match s.outlet? station with
  | none => refuse s .badParam
  | some st =>
    let t := (s.withOutlet st { s.outlet st with closed := false }).raiseEntryEvent st
    accept t (t.accountBytes st)

/-- OUTLET_EMPTIED at its block; the answer also carries the count cleared (R153, R200). -/
def State.outletEmptiedCommand (s : State) (station : Byte) : State × Reply :=
  match s.outlet? station with
  | none => refuse s .badParam
  | some st =>
    let t := (s.withOutlet st { s.outlet st with delivered := 0, full := false }).raiseEntryEvent st
    accept t (t.accountBytes st ++ wordNat (s.outlet st).delivered)

/-- A value that is one of two: 0 or 1. READ_UNTRACKED's choice is so encoded (R199: 1 to read and clear). OUTLET_SET's
auto-retire value has no encoding in the manual: 0 is off, 1 is on, every other value undefined (DESIGN CHOICE,
notes/assumptions/24.md). -/
def boolOfCode (b : Byte) : Option Bool :=
  match b.toNat with
  | 0 => some false
  | 1 => some true
  | _ => none

/-- The checks of OUTLET_SET on the values given (R154, R199). -/
def State.outletSetAllowed (s : State) (st : Station) (p : OutletSetParams) : Bool :=
  maskFits p.mask 2
    && (!given p.mask 0 || (1 ≤ p.capacity.toNat && p.capacity.toNat ≤ 4095
        && (s.outlet st).delivered + s.inbound st ≤ p.capacity.toNat))
    && (!given p.mask 1 || (boolOfCode p.autoRetire).isSome)

/-- OUTLET_SET at its block (R154). It raises no room event. -/
def State.outletSetCommand (s : State) (p : OutletSetParams) : State × Reply :=
  match s.outlet? p.station with
  | none => refuse s .badParam
  | some st =>
    if s.outletSetAllowed st p then
      let a := s.outlet st
      let capacity := if given p.mask 0 then p.capacity.toNat else a.capacity
      let autoRetire := if given p.mask 1 then (boolOfCode p.autoRetire).getD a.autoRetire else a.autoRetire
      let t := s.withOutlet st { a with capacity, autoRetire }.reevaluated
      accept t (t.accountBytes st)
    else refuse s .badParam

def execOutletClose (station : Byte) (s : State) : StepOutcome := hostCommand 0x55 1 (·.outletCloseCommand station) s
def execOutletOpen (station : Byte) (s : State) : StepOutcome := hostCommand 0x56 1 (·.outletOpenCommand station) s
def execOutletEmptied (station : Byte) (s : State) : StepOutcome := hostCommand 0x57 1 (·.outletEmptiedCommand station) s
def execOutletSet (p : OutletSetParams) (s : State) : StepOutcome := hostCommand 0x16 5 (·.outletSetCommand p) s

end Sys2Proof.Machine
end

