-- ==== Sys2Proof/Machine/Arrival.lean ====
section
/-! DEFINITION. The Arrival Resolver: how an accepted ARRIVAL is bound (R66 to R83), the untracked count (R84), and
READ_UNTRACKED. -/

namespace Sys2Proof.Machine

/-! ### Settling the outcome (R68 to R79) -/

/-- How a carrier is bound (chapter 4's table of outcomes). -/
inductive Binding where
  | position
  | tagMatch
  | tagLearning (t : Tag)
  | skip (j : Nat)
  | extraction
  | lateRecovery
  | misrouteTake
deriving DecidableEq, Repr

/-- The outcome of an arrival: a carrier bound, or a stranger with the tag its record is given. -/
inductive Resolution where
  | bind (c : Handle) (how : Binding)
  | stranger (tag : Option Tag)
deriving DecidableEq, Repr

/-- Now is before a queued carrier's earliest time (R69). -/
def State.early (s : State) (h : Handle) : Bool :=
  match (s.record h).window with
  | some (.timed e _) => Time.isAfter s.lineTime e
  | _ => false

/-- The head of the queue of a segment, where there is one (R45, R66). -/
def State.headOf (s : State) (g : Option Segment) : Option Handle := g.bind fun g => (s.queue g).head?

/-- The position path (R69). -/
def State.positionPath (s : State) (g : Option Segment) : Resolution :=
  match s.headOf g with
  | some h => if s.early h then .stranger none else .bind h .position
  | none => .stranger none

/-- The tag path for a tag the index gives to `x` (R71). -/
def State.knownTag (s : State) (st : Station) (g : Option Segment) (x : Handle) : Resolution :=
  match (s.record x).state with
  | .staged | .inTransit =>
    match g.bind fun g => s.position? g x with
    | some 0 => .bind x .tagMatch
    | some (j + 1) => if j + 1 ≤ (s.station st).skipLimit then .bind x (.skip (j + 1)) else .bind x .extraction
    | none => .bind x .misrouteTake
  | .lost => if g.isSome ∧ (s.record x).lastSegment = g then .bind x .lateRecovery else .bind x .misrouteTake
  | .atStation | .held | .delivered | .free => .stranger none

/-- The tag path for a tag the index does not hold (R71, R73, R79). -/
def State.unknownTag (s : State) (g : Option Segment) (t : Tag) : Resolution :=
  match s.headOf g with
  | some h => if (s.record h).tag = none ∧ ¬ s.early h then .bind h (.tagLearning t) else .stranger (some t)
  | none => .stranger (some t)

/-- The tag path (R71). -/
def State.tagPath (s : State) (st : Station) (g : Option Segment) (t : Tag) : Resolution :=
  match TagIndex.lookup t s.tags with
  | some x => s.knownTag st g x
  | none => s.unknownTag g t

/-- The path by check level and tag read (R68, R70); a tag field of 0 is no read (R2). -/
def State.resolve (s : State) (st : Station) (g : Option Segment) (t : Tag) : Resolution :=
  match (s.station st).checkLevel with
  | .off => s.positionPath g
  | .lenient => if t = 0 then s.positionPath g else s.tagPath st g t
  | .strict => if t = 0 then .stranger none else s.tagPath st g t

/-! ### Removals and marks of each outcome (R72 to R77) -/

/-- A flag of a record set. -/
def State.mark (s : State) (h : Handle) (f : CarrierFlags → CarrierFlags) : State :=
  s.modRecord h fun r => { r with flags := f r.flags }

/-- EARLY set where now is before the carrier's earliest time (R72, R74, R75). -/
def State.markEarly (s : State) (h : Handle) : State :=
  if s.early h then s.mark h fun f => { f with early := true } else s

/-- The carriers at positions 0 to j - 1, then the one at j, removed; those ahead become LOST, head first (R54, R74). -/
def State.skipTo (s : State) (g : Segment) (j : Nat) : State :=
  let ahead := (s.queue g).take j
  let s := s.withQueue g ((s.queue g).drop (j + 1))
  (ahead.foldl (fun s h => s.makeLost h .lostSkipped) s).raiseRoomEvent g

/-- A carrier taken out of the entry segment's queue, with the room event of the removal (R53, R55, R61). -/
def State.takeFromEntry (s : State) (g : Option Segment) (c : Handle) : State :=
  match g with
  | some g => (s.dequeue g c).raiseRoomEvent g
  | none => s

/-- What the outcome removes and marks, before the binding is written (R67 steps 3 and 4). -/
def State.applyBinding (s : State) (g : Option Segment) (c : Handle) (how : Binding) : State :=
  match how with
  | .position => s.takeFromEntry g c
  | .tagMatch => (s.markEarly c).takeFromEntry g c
  | .tagLearning t =>
    let s := s.modRecord c fun r => { r with tag := some t, flags := { r.flags with tagLearned := true } }
    (s.withTags (TagIndex.add t c s.tags)).takeFromEntry g c
  | .skip j =>
    match g with
    | some g => (s.markEarly c).skipTo g j
    | none => s
  | .extraction => ((s.markEarly c).mark c fun f => { f with overtook := true }).takeFromEntry g c
  | .lateRecovery => (s.clearException c).mark c fun f => { f with late := true }
  | .misrouteTake => ((s.extract c).clearException c).mark c fun f => { f with misrouted := true }

/-- What every bound carrier receives: last station, last seen, last segment; its window is gone (R80). -/
def State.bindArrival (s : State) (st : Station) (g : Option Segment) (c : Handle) : State :=
  s.modRecord c fun r => { r with sighting := some ⟨st, s.lineTime⟩, lastSegment := g, window := none }

/-- A bound carrier handed on: to the outlet, or to custody (R80). -/
def State.handOn (s : State) (st : Station) (c : Handle) (seq : Byte) : State :=
  if s.isOutlet st then s.deliver st c seq else s.takeOccupant st c seq

/-! ### Strangers (R81 to R84) -/

/-- The untracked count raised, saturating at 255 (R84). -/
def State.countUntracked (s : State) (st : Station) : State := s.withUntracked st (min (s.untracked.get st + 1) 255)

/-- The record of a stranger (R81). -/
def CarrierRecord.stranger (generation : Byte) (st : Station) (g : Option Segment) (tag : Option Tag) (now : Time) :
    CarrierRecord :=
  { CarrierRecord.free generation with
    state := .atStation, origin := .stranger, tag, location := .atStation st, lastSegment := g
    sighting := some ⟨st, now⟩ }

/-- A stranger record made and handed to custody (R81). -/
def State.createStranger (s : State) (st : Station) (g : Option Segment) (tag : Option Tag) (h : Handle) (seq : Byte) :
    State :=
  let s := (s.modRecord h fun r => .stranger r.generation st g tag s.lineTime).setException h .stranger
  let s := match tag with | some t => s.withTags (TagIndex.add t h s.tags) | none => s
  s.takeOccupant st h seq

/-- An untracked arrival at a transfer or infeed: counted, and sent to the reject exit, or the default exit (R82). -/
def State.passUntracked (s : State) (st : Station) (seq : Byte) : State :=
  let r := s.station st
  (s.countUntracked st).placeDirective st (.toExit (r.rejectExit.getD r.defaultExit)) (some seq)

/-- A stranger: counted at an outlet (R83), made a record where one is FREE (R81), else untracked (R82). -/
def State.takeStranger (s : State) (st : Station) (g : Option Segment) (tag : Option Tag) (seq : Byte) : State :=
  if s.isOutlet st then (s.countUntracked st).placeDirective st .accept (some seq)
  else
    match s.lowestFree with
    | some h => s.createStranger st g tag h seq
    | none => s.passUntracked st seq

/-- The resolution of one ARRIVAL, one event (R67). -/
def State.resolveArrival (s : State) (st : Station) (port : Byte) (t : Tag) (seq : Byte) : State :=
  let g := (s.station st).entrySegment port.toNat
  match s.resolve st g t with
  | .bind c how => (((s.applyBinding g c how).bindArrival st g c)).handOn st c seq
  | .stranger tag => s.takeStranger st g tag seq

/-! ### READ_UNTRACKED (R84) -/

/-- READ_UNTRACKED at its block. -/
def State.readUntrackedCommand (s : State) (station choice : Byte) : State × Reply :=
  match index? Config.stations station with
  | none => refuse s .badParam
  | some st =>
    match boolOfCode choice with
    | none => refuse s .badParam
    | some clear => accept (if clear then s.withUntracked st 0 else s) [byteNat (s.untracked.get st)]

def execReadUntracked (station choice : Byte) (s : State) : StepOutcome :=
  hostCommand 0x58 2 (·.readUntrackedCommand station choice) s

end Sys2Proof.Machine
end

