-- ==== Sys2Proof/Machine/Link.lean ====
section
/-! DEFINITION. The Station Link Controller: the poll (R169, R170), the transaction's end (R171, R172), taking a report
(R173 to R176), directive acknowledgement and re-offering (R173, R175, R178). -/

namespace Sys2Proof.Machine

/-! ### Polling (R169, R170, R201) -/

/-- The configured stations, in ascending order. -/
def State.configuredStations (s : State) : List Station := (List.finRange Config.stations).filter s.configured

/-- The next station of the round: the lowest configured one above the last polled, else the lowest (R169). -/
def State.nextPolled (s : State) : Option Station :=
  match s.link.lastPolled with
  | none => s.configuredStations.head?
  | some k =>
    match s.configuredStations.find? fun st => k < st with
    | some st => some st
    | none => s.configuredStations.head?

/-- Bytes 1 and 2 of a poll: the acknowledgement, or none (R201). -/
def ackBytes : Option SeqCode → List Byte
  | some a => [a.seq, a.code.code]
  | none => [0, noneByte]

/-- Bytes 3 to 5 of a poll: the directive, while UNDELIVERED (R170, R201). -/
def DirectiveSlot.offer : DirectiveSlot → List Byte
  | .undelivered d => [d.kind.code, d.kind.exitByte, d.number]
  | _ => [0, 0, 0]

/-- The poll frame built for a station (R170, R201). -/
def State.pollFrame (s : State) (st : Station) : List Byte :=
  let l := s.linkOf st
  let body := [byteNat (0x80 + st.val)] ++ ackBytes l.acknowledgement ++ l.slot.offer
  body ++ [crc8 body]

/-- POLL_SENT (R169): one poll outstanding at a time, none while no station is configured. The next station is chosen as its
poll is sent, by the stations configured then (DESIGN CHOICE, notes/assumptions/27.md). -/
def State.sendPoll (s : State) : State :=
  match s.link.outstanding, s.nextPolled with
  | none, some st =>
    s.withLink { s.link with lastPolled := some st, outstanding := some st, pollFrame := s.pollFrame st }
  | _, _ => s

def execPollSent (s : State) : StepOutcome := .next s.sendPoll

/-! ### The end of a transaction (R171, R172) -/

/-- A transaction that drew no valid answer (R171). -/
def LinkRecord.missed (l : LinkRecord) : LinkRecord :=
  let n := min (l.missCount + 1) 3
  { l with missCount := n, state := if n = 3 then .down else l.state }

/-- A transaction that drew a valid answer: a DOWN station comes UP with no accepted sequence (R171, R172). -/
def LinkRecord.answered (l : LinkRecord) : LinkRecord :=
  match l.state with
  | .down => { l with missCount := 0, state := .up, accepted := none }
  | .up => { l with missCount := 0 }

/-- No poll outstanding. -/
def State.endTransaction (s : State) : State := s.withLink { s.link with outstanding := none }

/-- REPLY_WINDOW_CLOSED (R171). -/
def State.closeWindow (s : State) : State :=
  match s.link.outstanding with
  | some k => (s.endTransaction).withLinkOf k (s.linkOf k).missed
  | none => s

def execReplyWindowClosed (s : State) : StepOutcome := .next s.closeWindow

/-! ### Taking a report (R173 to R176) -/

/-- The report of a valid answer (R174). -/
inductive Report where
  | arrival (port : Byte) (tag : Tag)
  | clear (exit : Byte)
deriving DecidableEq, Repr

/-- A directive acknowledgement read against the slot (R173 step 1). -/
def LinkRecord.acknowledgeDirective (l : LinkRecord) (number : Option Byte) : LinkRecord :=
  match l.slot with
  | .undelivered d => if number = some d.number then { l with slot := .delivered d } else l
  | _ => l

/-- A duplicate: the answer it had, and its answering directive offered again (R175). -/
def LinkRecord.duplicate (l : LinkRecord) (a : SeqCode) : LinkRecord :=
  { l with
    acknowledgement := some a
    slot :=
      match l.slot with
      | .delivered d => if d.answering = some a.seq then .undelivered d else .delivered d
      | slot => slot }

/-- A report accepted: sequence and code recorded, and acknowledged (R175). -/
def LinkRecord.accept (l : LinkRecord) (a : SeqCode) : LinkRecord :=
  { l with accepted := some a, acknowledgement := some a }

/-- A report refused: acknowledged with the code, not recorded (R176). -/
def LinkRecord.refuse (l : LinkRecord) (a : SeqCode) : LinkRecord := { l with acknowledgement := some a }

/-- An ARRIVAL handed on: refused while the station holds an occupant, else resolved (R89, R174). -/
def State.takeArrival (s : State) (st : Station) (seq port : Byte) (t : Tag) : State × ReportCode :=
  match s.custodyOf st with
  | .idle => (s.resolveArrival st port t seq, .ok)
  | .halted _ => (s, .halted)
  | _ => (s, .stationBusy)

/-- A CLEAR handed on: taken in the station's state, NO_OCCUPANT where it holds none (R94 to R97). -/
def State.takeClear (s : State) (st : Station) (e : Byte) : State × ReportCode :=
  match s.custodyOf st with
  | .idle => (s, .noOccupant)
  | .halted _ => (s, .halted)
  | .occupied c _ _ | .heldDwell c _ | .heldBlocked c | .jammed c _ => (s.clearOccupant st c e, .ok)

/-- A report admitted by the link: the device and zone checks of R174, then custody. -/
def State.handOnReport (s : State) (st : Station) (seq : Byte) (r : Report) : State × ReportCode :=
  if s.map.device ≠ .running then (s, .notRunning)
  else
    match r with
    | .arrival port t => s.takeArrival st seq port t
    | .clear e => s.takeClear st e

/-- The codes that record a report as accepted (R175). -/
def ReportCode.accepts : ReportCode → Bool
  | .ok | .noOccupant => true
  | _ => false

/-- The code recorded in the link record of the station (R175, R176). -/
def State.acknowledge (s : State) (st : Station) (a : SeqCode) : State :=
  s.withLinkOf st (if a.code.accepts then (s.linkOf st).accept a else (s.linkOf st).refuse a)

/-- A report of a valid answer, the checks of R174 in order. -/
def State.takeReport (s : State) (st : Station) (seq : Byte) (r : Report) : State :=
  if ¬ s.configured st then s.acknowledge st ⟨seq, .unknownStation⟩
  else
    let fresh :=
      let (t, code) := s.handOnReport st seq r
      t.acknowledge st ⟨seq, code⟩
    match (s.linkOf st).accepted with
    | some a => if a.seq = seq then s.withLinkOf st ((s.linkOf st).duplicate a) else fresh
    | none => fresh

/-- The link record as the answer is taken: the transaction ends, then the directive acknowledgement is read (R171 to
R173). The miss count and link state of a station no longer configured are not touched (R174). -/
def State.beginAnswer (s : State) (k : Station) (directive : Option Byte) : State :=
  let l := s.linkOf k
  let l := if s.configured k then l.answered else l
  s.endTransaction.withLinkOf k (l.acknowledgeDirective directive)

/-- A valid answer is one from the station polled, with a poll outstanding (R171). -/
def State.polled (s : State) (head : AnswerHead) : Option Station :=
  match s.link.outstanding with
  | some k => if head.station.toNat = k.val then some k else none
  | none => none

/-- A valid answer taken, one event (R173). An answer from another station, or with no poll outstanding, is discarded. -/
def State.takeAnswer (s : State) (head : AnswerHead) (report : Option (Byte × Report)) : State :=
  match s.polled head with
  | none => s
  | some k =>
    let s := s.beginAnswer k head.directive
    match report with
    | none => s
    | some (seq, r) => s.takeReport k seq r

/-- ANSWER (R173). -/
def execAnswer (head : AnswerHead) (s : State) : StepOutcome := .next (s.takeAnswer head none)

/-- ARRIVAL (R67, R174). -/
def execArrival (head : AnswerHead) (seq port : Byte) (tag : Tag) (s : State) : StepOutcome :=
  .next (s.takeAnswer head (some (seq, .arrival port tag)))

/-- CLEAR (R94, R174). -/
def execClear (head : AnswerHead) (seq exit : Byte) (s : State) : StepOutcome :=
  .next (s.takeAnswer head (some (seq, .clear exit)))

/-- A frame as received on the link: discarded whole where it is not a valid answer of the station polled (R171, R201);
one that is valid is taken as the answer it spells. -/
def State.receiveFrame (s : State) (bytes : List Byte) : State :=
  match s.link.outstanding.bind fun k => parseAnswer k bytes with
  | some (.answer head) => s.takeAnswer head none
  | some (.arrival head seq port tag) => s.takeAnswer head (some (seq, .arrival port tag))
  | some (.clear head seq exit) => s.takeAnswer head (some (seq, .clear exit))
  | _ => s

/-- ANSWER_DISCARDED (R171). -/
def execAnswerDiscarded (bytes : List Byte) (s : State) : StepOutcome := .next (s.receiveFrame bytes)

end Sys2Proof.Machine
end

