-- ==== Sys2Proof/Machine/Segments.lean ====
section
/-! DEFINITION. The Segment Tracker's own events: transit expiry (R56) and PURGE_SEGMENT (R58). -/

namespace Sys2Proof.Machine

/-- A segment's zone is RUNNING and the deadline of its head is reached: the head that expires (R56). -/
def State.expiredHead (s : State) (g : Segment) : Option Handle :=
  if s.segmentHalted g then none
  else
    match (s.queue g).head? with
    | some h =>
      match (s.record h).window with
      | some (.timed _ d) => if Time.isAfter s.lineTime d then none else some h
      | _ => none
    | none => none

/-- TRANSIT_EXPIRY: the head is removed and LOST with LOST_TIMEOUT; a room event follows (R56, R61). -/
def State.expireHead (s : State) (g : Segment) : State :=
  match s.expiredHead g with
  | some h => ((s.dequeue g h).makeLost h .lostTimeout).raiseRoomEvent g
  | none => s

def execTransitExpiry (g : Segment) (s : State) : StepOutcome := .next (s.expireHead g)

/-- Every carrier of a queue removed, head first, each LOST with LOST_PURGED; a room event where there was one (R58). -/
def State.purge (s : State) (g : Segment) : State :=
  let queue := s.queue g
  let t := queue.foldl (fun s h => s.makeLost h .lostPurged) (s.withQueue g [])
  if queue = [] then t else t.raiseRoomEvent g

/-- PURGE_SEGMENT at its block, the checks in R58's order. -/
def State.purgeCommand (s : State) (segment : Byte) : State × Reply :=
  if s.map.device ≠ .running then refuse s .notRunning
  else
    match index? Config.segments segment with
    | none => refuse s .badParam
    | some g =>
      if ¬ (s.segment g).used ∨ (s.segment g).kind = .staging then refuse s .badParam
      else if ¬ s.segmentHalted g then refuse s .zoneRunning
      else accept (s.purge g) [byteNat (s.queue g).length]

def execPurgeSegment (segment : Byte) (s : State) : StepOutcome := hostCommand 0x52 1 (·.purgeCommand segment) s

end Sys2Proof.Machine
end

