-- ==== Sys2Proof/Machine/Transaction.lean ====
section
/-! DEFINITION. COMMAND_TRANSACTION at the pins (R185 to R187, R198): the selector, the frame check, and the command of a
frame that passes, which goes to its block. -/

namespace Sys2Proof.Machine

/-- The host command a frame spells, taken. An event of the line is no host command. -/
def runHostCommand (i : Instr) (s : State) : StepOutcome :=
  match i with
  | .start => execStart s
  | .stop => execStop s
  | .resetTracking => execResetTracking s
  | .status => execStatus s
  | .setAttnMask m => execSetAttnMask m s
  | .readTime => execReadTime s
  | .stationSet p => execStationSet p s
  | .segmentSet p => execSegmentSet p s
  | .zoneSet z p => execZoneSet z p s
  | .haltMap l m => execHaltMap l m s
  | .stationTune p => execStationTune p s
  | .segmentTune p => execSegmentTune p s
  | .outletSet p => execOutletSet p s
  | .stationRead st => execStationRead st s
  | .segmentRead g => execSegmentRead g s
  | .segmentList g k => execSegmentList g k s
  | .decisionWrite d n places => execDecisionWrite d n places s
  | .decisionRead d => execDecisionRead d s
  | .routeOpen q => execRouteOpen q s
  | .routeStage p => execRouteStage p s
  | .routeParams p => execRouteParams p s
  | .routeActivate q => execRouteActivate q s
  | .routeWithdraw q => execRouteWithdraw q s
  | .routeDiscard q => execRouteDiscard q s
  | .routeRead q => execRouteRead q s
  | .classBind c q => execClassBind c q s
  | .induct p => execInduct p s
  | .query ref => execQuery ref s
  | .lookupTag t => execLookupTag t s
  | .reroute ref q => execReroute ref q s
  | .retire ref => execRetire ref s
  | .findException k => execFindException k s
  | .halt z => execHalt z s
  | .resume z => execResume z s
  | .purgeSegment g => execPurgeSegment g s
  | .release st => execRelease st s
  | .clearJam st e => execClearJam st e s
  | .outletClose st => execOutletClose st s
  | .outletOpen st => execOutletOpen st s
  | .outletEmptied st => execOutletEmptied st s
  | .readUntracked st c => execReadUntracked st c s
  | .powerOn | .readySet | .haltInputAsserted _ | .haltInputDeasserted _ | .pollSent | .replyWindowClosed
  | .answerDiscarded _ | .answer _ | .arrival _ _ _ _ | .clear _ _ _ | .roomEventGrant _ | .transitExpiry _
  | .dwellExpiry _ | .occupancyExpiry _ | .validationComplete | .scanExamine | .commandTransaction _ _
  | .readTransaction _ | .lineTimeTick _ => .next s

/-- A step's next state with the bytes shifted out set to those of the whole transaction. -/
def withShifted (bytes : List Byte) : StepOutcome → StepOutcome
  | .next s => .next (s.shiftOut bytes)
  | other => other

/-- A COMMAND transaction with the given complete bytes after the selector (R186, R187). -/
def State.commandFrame (s : State) (bytes : List Byte) : StepOutcome :=
  let t := s.shiftFill bytes.length
  if s.takesCommand then
    match checkFrame bytes with
    | .passed i => withShifted t.port.sdo (runHostCommand i s)
    | .frameError echo => .next (t.respond echo { code := .frameError })
    | .badParam echo => .next (t.respond echo { code := .badParam })
  else .next t

/-- The selector that makes a transaction a READ transaction (R198). -/
def readSelector : Byte := 0xA5

/-- A transaction ended by the rise of /SCS: selector 5Ah is COMMAND, A5h READ, every other value NONE, a status
transaction (R185, R198). -/
def State.endScs (s : State) (selector : Byte) (bytes : List Byte) : StepOutcome :=
  if selector = commandSelector then s.commandFrame bytes
  else if selector = readSelector then .next (s.readResponse (8 * bytes.length))
  else .next (s.shiftFill bytes.length)

/-- COMMAND_TRANSACTION (R185, R186): an edge of /SCS. -/
def execCommandTransaction (edge : ScsEdge) (bytes : List Byte) (s : State) : StepOutcome :=
  match edge with
  | .falls => .next s.fallScs
  | .risesEarly => .next (s.shiftOut [])
  | .rises selector => s.endScs selector bytes

end Sys2Proof.Machine
end

