-- ==== Sys2Proof/Machine/Dispatch.lean ====
section
/-! DEFINITION. Every command's meaning, one arm per row of opcode_table.json. -/

namespace Sys2Proof.Machine

def exec (i : Instr) (s : State) : Host.Outcome State Fault Refusal :=
  match i with
  | .powerOn => Sys2Proof.Machine.execPowerOn s
  | .readySet => Sys2Proof.Machine.execReadySet s
  | .haltInputAsserted line => Sys2Proof.Machine.execHaltInputAsserted line s
  | .haltInputDeasserted line => Sys2Proof.Machine.execHaltInputDeasserted line s
  | .pollSent => Sys2Proof.Machine.execPollSent s
  | .replyWindowClosed => Sys2Proof.Machine.execReplyWindowClosed s
  | .answerDiscarded bytes => Sys2Proof.Machine.execAnswerDiscarded bytes s
  | .answer head => Sys2Proof.Machine.execAnswer head s
  | .arrival head seq port tag => Sys2Proof.Machine.execArrival head seq port tag s
  | .clear head seq exit => Sys2Proof.Machine.execClear head seq exit s
  | .roomEventGrant segment => Sys2Proof.Machine.execRoomEventGrant segment s
  | .transitExpiry segment => Sys2Proof.Machine.execTransitExpiry segment s
  | .dwellExpiry station => Sys2Proof.Machine.execDwellExpiry station s
  | .occupancyExpiry station => Sys2Proof.Machine.execOccupancyExpiry station s
  | .validationComplete => Sys2Proof.Machine.execValidationComplete s
  | .scanExamine => Sys2Proof.Machine.execScanExamine s
  | .commandTransaction edge bytes => Sys2Proof.Machine.execCommandTransaction edge bytes s
  | .readTransaction bits => Sys2Proof.Machine.execReadTransaction bits s
  | .start => Sys2Proof.Machine.execStart s
  | .stop => Sys2Proof.Machine.execStop s
  | .resetTracking => Sys2Proof.Machine.execResetTracking s
  | .status => Sys2Proof.Machine.execStatus s
  | .setAttnMask mask => Sys2Proof.Machine.execSetAttnMask mask s
  | .readTime => Sys2Proof.Machine.execReadTime s
  | .stationSet params => Sys2Proof.Machine.execStationSet params s
  | .segmentSet params => Sys2Proof.Machine.execSegmentSet params s
  | .zoneSet zone policy => Sys2Proof.Machine.execZoneSet zone policy s
  | .haltMap line mask => Sys2Proof.Machine.execHaltMap line mask s
  | .stationTune params => Sys2Proof.Machine.execStationTune params s
  | .segmentTune params => Sys2Proof.Machine.execSegmentTune params s
  | .outletSet params => Sys2Proof.Machine.execOutletSet params s
  | .stationRead station => Sys2Proof.Machine.execStationRead station s
  | .segmentRead segment => Sys2Proof.Machine.execSegmentRead segment s
  | .segmentList segment start => Sys2Proof.Machine.execSegmentList segment start s
  | .decisionWrite set count places => Sys2Proof.Machine.execDecisionWrite set count places s
  | .decisionRead set => Sys2Proof.Machine.execDecisionRead set s
  | .routeOpen slot => Sys2Proof.Machine.execRouteOpen slot s
  | .routeStage params => Sys2Proof.Machine.execRouteStage params s
  | .routeParams params => Sys2Proof.Machine.execRouteParams params s
  | .routeActivate slot => Sys2Proof.Machine.execRouteActivate slot s
  | .routeWithdraw slot => Sys2Proof.Machine.execRouteWithdraw slot s
  | .routeDiscard slot => Sys2Proof.Machine.execRouteDiscard slot s
  | .routeRead slot => Sys2Proof.Machine.execRouteRead slot s
  | .classBind cls slot => Sys2Proof.Machine.execClassBind cls slot s
  | .induct params => Sys2Proof.Machine.execInduct params s
  | .query ref => Sys2Proof.Machine.execQuery ref s
  | .lookupTag tag => Sys2Proof.Machine.execLookupTag tag s
  | .reroute ref slot => Sys2Proof.Machine.execReroute ref slot s
  | .retire ref => Sys2Proof.Machine.execRetire ref s
  | .findException start => Sys2Proof.Machine.execFindException start s
  | .halt zone => Sys2Proof.Machine.execHalt zone s
  | .resume zone => Sys2Proof.Machine.execResume zone s
  | .purgeSegment segment => Sys2Proof.Machine.execPurgeSegment segment s
  | .release station => Sys2Proof.Machine.execRelease station s
  | .clearJam station outcome => Sys2Proof.Machine.execClearJam station outcome s
  | .outletClose station => Sys2Proof.Machine.execOutletClose station s
  | .outletOpen station => Sys2Proof.Machine.execOutletOpen station s
  | .outletEmptied station => Sys2Proof.Machine.execOutletEmptied station s
  | .readUntracked station choice => Sys2Proof.Machine.execReadUntracked station choice s
  | .lineTimeTick samples => Sys2Proof.Machine.execLineTimeTick samples s

end Sys2Proof.Machine
end

