-- ==== Sys2Proof/Safety.lean ====
section
/-! DEFINITION. The laws of the device that the manual states of every moment between two steps (Laws 1 to 9, 11 and 12;
it gives no Law 10), and the words the statements use: what the port holds after a command, and when a line passes
START's validation. -/

namespace Sys2Proof.Machine

/-! ### Power-on values (R1, R9, R42, R64, R84, R87, R126, R127, R147, R156, R157, R168, R184) -/

/-- The Line Map at power-on (R9). -/
def LineMap.AtPowerOn (m : LineMap) : Prop :=
  m.device = .setup
    ∧ (∀ st, m.stations.get st =
        { type := .unused, zone := 0, port0 := none, port1 := none, exits := [], checkLevel := .off, skipLimit := 0,
          occupancyLimit := 0, defaultExit := 0, rejectExit := none })
    ∧ (∀ g, m.segments.get g =
        { kind := .conveyor, upstream := none, downstream := none, capacity := 1, minTransit := 0, maxTransit := 1 })
    ∧ (∀ z, m.policies.get z = .suspend) ∧ ∀ n, m.haltMap.get n = 0

/-- Every block at its power-on value, ready clear, no line input taken as asserted, no poll outstanding. What becomes of a
transaction under way is said apart (R184). -/
def State.AtPowerOn (s : State) : Prop :=
  s.lineTime = 0 ∧ s.map.AtPowerOn
    ∧ (∀ h, (s.record h).state = .free ∧ (s.record h).generation = 0) ∧ s.carriers.exceptionCount = 0 ∧ s.tags = []
    ∧ (∀ g, s.queue g = [] ∧ s.reservedCount g = 0 ∧ s.waiterList g = []) ∧ s.tracker.roomEvents = []
    ∧ (∀ st, s.untracked.get st = 0 ∧ s.custodyOf st = .idle ∧ s.toggles.get st = false
        ∧ s.outlet st = { capacity := 1, delivered := 0, closed := false, full := false, autoRetire := false }
        ∧ s.linkOf st =
          { state := .down, missCount := 0, accepted := none, acknowledgement := none, slot := .empty, lastNumber := 0 })
    ∧ (∀ i, s.setOf i = { entries := [], references := 0 }) ∧ (∀ q, s.slotOf q = { state := .empty, bound := 0 })
    ∧ (∀ c, s.routes.classes.get c = none)
    ∧ (∀ z, s.zones.causes.get z = { host := false, lines := 0 }) ∧ s.zones.levels = 0
    ∧ s.link.outstanding = none
    ∧ s.port.ready = false ∧ s.port.slot = .free ∧ s.port.mask = 0b1000000#7

/-! ### The port after a command (R186, R188, R198) -/

/-- The status byte a transaction that ends now opened with: that of the open transaction's fall, or, with none open (the
model's choice, notes/assumptions/6.md), the one of this moment (R185); 00h for an abandoned one, which takes nothing. -/
def State.openingByte (s : State) : Byte :=
  match s.port.transaction with
  | .underWay o => o.status
  | .none => s.statusByte
  | .abandoned => 0

/-- The command slot as it stood when the transaction that ends now opened: what a read shifts out (R190); of
an abandoned one, nothing. -/
def State.openingSlot (s : State) : CommandSlot :=
  match s.port.transaction with
  | .underWay o => o.waiting
  | .none => s.port.slot
  | .abandoned => .free

/-- The port after an immediate command of `len` parameter bytes was taken: ANSWERED, no transaction open, with the status
byte of its fall and fill shifted out; ready and the mask as they were. -/
def State.portAfter (s : State) (echo : Byte) (len : Nat) (code : AnswerCode) (data : List Byte) : HostPort :=
  { ready := s.port.ready, slot := .answered { echo, code, data }, mask := s.port.mask, transaction := .none
    sdo := s.openingByte :: List.replicate (len + 3) 0 }

/-- The port after a transaction that ends with nothing changed but what was shifted out; of an abandoned one no bytes are
recorded (R184). -/
def State.portEnded (s : State) (bytes : List Byte) : HostPort :=
  { s.port with transaction := .none, sdo := if s.port.transaction = .abandoned then s.port.sdo else bytes }

/-- The same where what was shifted out is the status byte of the fall and `n` fill bytes. -/
def State.portIdle (s : State) (n : Nat) : HostPort := s.portEnded (s.openingByte :: List.replicate n 0)

/-- A link record after a report was accepted: its sequence and code recorded and acknowledged (R175). -/
def LinkRecord.accepting (l : LinkRecord) (seq : Byte) (code : ReportCode) : LinkRecord :=
  { l with accepted := some ⟨seq, code⟩, acknowledgement := some ⟨seq, code⟩ }

/-- A link record after a directive was placed for the report `answering` (R177). -/
def LinkRecord.placed (l : LinkRecord) (kind : DirectiveKind) (answering : Option Byte) : LinkRecord :=
  { l with slot := .undelivered ⟨kind, l.lastNumber + 1, answering⟩, lastNumber := l.lastNumber + 1 }

/-- A link record as a valid answer naming directive number `d` is taken from a configured station: the transaction's end
(R171, R172), then the directive acknowledgement (R173 step 1). -/
def LinkRecord.heard (l : LinkRecord) (d : Option Byte) : LinkRecord :=
  { l with
    missCount := 0
    state := .up
    accepted := if l.state = .down then none else l.accepted
    slot :=
      match l.slot with
      | .undelivered x => if d = some x.number then .delivered x else .undelivered x
      | slot => slot }

/-- A link record after a CLEAR withdrew what was still undelivered (R94 step 5, R179). -/
def LinkRecord.withdrawn (l : LinkRecord) : LinkRecord :=
  { l with slot := match l.slot with | .undelivered _ => .empty | slot => slot }

/-- The answer head of station `k` naming directive number `d` (R201). -/
def headFrom (k : Station) (d : Option Byte) : AnswerHead := ⟨byteNat k.val, d⟩

/-- The link after a transaction with station `k` ended and its record became `l`. -/
def State.linkAfter (s : State) (k : Station) (l : LinkRecord) : StationLink :=
  { s.link with outstanding := none, records := s.link.records.set k l }

/-- Station `k` is the next of the round (R169): the lowest-numbered configured station above the one last polled; where
there is none, the lowest-numbered configured station. -/
def State.nextInRound (s : State) (k : Station) : Prop :=
  s.configured k = true ∧
    match s.link.lastPolled with
    | none => ∀ j < k, s.configured j = false
    | some l => (l < k ∧ ∀ j, l < j → j < k → s.configured j = false)
        ∨ ((∀ j, l < j → s.configured j = false) ∧ ∀ j < k, s.configured j = false)

/-- A report of sequence `seq` from station `k` reaches the Station Custody Unit: a poll of `k` is outstanding, `k` is
configured, the sequence is no duplicate, and the device is RUNNING (R174). -/
def State.HandsOn (s : State) (k : Station) (seq : Byte) : Prop :=
  s.link.outstanding = some k ∧ s.configured k = true ∧ s.map.device = .running
    ∧ ∀ a, (s.linkOf k).state = .up → (s.linkOf k).accepted = some a → a.seq ≠ seq

/-! ### Entering HALTED (R160, R161) -/

/-- What a station saves as it becomes HALTED now (R160): the dwell remaining is the expiry less now where it is still
pending, else 0. -/
def Custody.SavedAs (now : Time) : Custody → SavedCustody → Prop
  | .idle, .idle => True
  | .occupied c e _, .occupied c' e' => c' = c ∧ e' = e
  | .heldDwell c x, .heldDwell c' left =>
    c' = c ∧ (Time.isAfter now x = true → x = now + left.asTime) ∧ (Time.isAfter now x = false → left = 0)
  | .heldBlocked c, .heldBlocked c' => c' = c
  | .jammed c e, .jammed c' e' => c' = c ∧ e' = e
  | .halted v, v' => v' = v
  | _, _ => False

/-- The suspended form of a window (R161). -/
def Window.SuspendedAs (now : Time) : Window → Window → Prop
  | .timed e d, .remaining e' d' =>
    (Time.isAfter now e = true → e = now + e'.asTime) ∧ (Time.isAfter now e = false → e' = 0)
      ∧ (Time.isAfter now d = true → d = now + d'.asTime) ∧ (Time.isAfter now d = false → d' = 0)
  | .remaining e d, w => w = .remaining e d
  | _, _ => False

/-- A carrier stands in the queue of a used segment of zone `z`, whose policy is SUSPEND (R161). -/
def State.queuedUnderSuspend (s : State) (z : Zone) (h : Handle) : Prop :=
  ∃ g d p, h ∈ s.queue g ∧ (s.segment g).downstream = some (d, p) ∧ s.configured d = true ∧ (s.station d).zone = z
    ∧ s.map.policies.get z = .suspend

/-- From `s` to `t` the zones of `Z` enter HALTED: their configured stations save their custody, and the windows of the
carriers queued in them take the form of their zone's policy; every other station and record is as it was. -/
def State.EntersHalted (s t : State) (Z : Zone → Prop) : Prop :=
  (∀ st, s.configured st = true → Z (s.station st).zone →
      ∃ v, t.custodyOf st = .halted v ∧ (s.custodyOf st).SavedAs s.lineTime v)
    ∧ (∀ st, ¬ (s.configured st = true ∧ Z (s.station st).zone) → t.custodyOf st = s.custodyOf st)
    ∧ (∀ h z, Z z → s.queuedUnderSuspend z h → ∀ w, (s.record h).window = some w →
      ∃ w', w.SuspendedAs s.lineTime w' ∧ t.record h = { s.record h with window := some w' })
    ∧ ∀ h, (¬ ∃ z, Z z ∧ s.queuedUnderSuspend z h) ∨ (s.record h).window = none → t.record h = s.record h

/-! ### Leaving HALTED (R164 to R166) -/

/-- A station of zone `z` saved HELD BLOCKED. -/
def State.savedBlocked (s : State) (z : Zone) (st : Station) : Prop :=
  s.configured st = true ∧ (s.station st).zone = z ∧ ∃ c, s.custodyOf st = .halted (.heldBlocked c)

/-- A used segment of zone `z` (R5). -/
def State.inZoneSegment (s : State) (z : Zone) (g : Segment) : Prop :=
  ∃ d p, (s.segment g).downstream = some (d, p) ∧ s.configured d = true ∧ (s.station d).zone = z

/-- What a saved custody is restored to, with the occupancy limit read now (R164). -/
def SavedCustody.restored (now : Time) (limit : Ticks) : SavedCustody → Custody
  | .idle => .idle
  | .occupied c e => .occupied c e (if limit = 0 then none else some (now + limit.setWidth 32))
  | .heldDwell c left => .heldDwell c (now + left.setWidth 32)
  | .heldBlocked c => .heldBlocked c
  | .jammed c e => .jammed c e

/-- The link record of a station restored: a RELEASE naming the saved exit where it was saved OCCUPIED (R164). -/
def LinkRecord.resumed (l : LinkRecord) : SavedCustody → LinkRecord
  | .occupied _ e => l.placed (.release e) none
  | _ => l

/-- The window of a queued carrier as its zone resumes (R165). -/
def SegmentRecord.resumedWindow (r : SegmentRecord) (policy : TimerPolicy) (now : Time) (w : Window) : Window :=
  match policy, w with
  | .restart, _ => .timed (now + r.minTransit.setWidth 32) (now + r.maxTransit.setWidth 32)
  | .suspend, .remaining e left => .timed (now + e.setWidth 32) (now + left.setWidth 32)
  | .suspend, .timed e d => .timed e d

/-- From `s` to `t` zone `z` leaves HALTED: its stations are restored, a RELEASE re-placed for those saved OCCUPIED, and
the carriers queued in it get running windows; every other station and record is as it was. -/
def State.LeavesHalted (s t : State) (z : Zone) : Prop :=
  (∀ st v, s.configured st = true → (s.station st).zone = z → s.custodyOf st = .halted v →
      t.custodyOf st = v.restored s.lineTime (s.station st).occupancyLimit
        ∧ t.linkOf st = (s.linkOf st).resumed v)
    ∧ (∀ st, ¬ (s.configured st = true ∧ (s.station st).zone = z ∧ ∃ v, s.custodyOf st = .halted v) →
      t.custodyOf st = s.custodyOf st ∧ t.linkOf st = s.linkOf st)
    ∧ (∀ g, s.inZoneSegment z g → ∀ h ∈ s.queue g,
      t.record h = { s.record h with
        window := (s.record h).window.map ((s.segment g).resumedWindow (s.map.policies.get z) s.lineTime) })
    ∧ ∀ h, (∀ g, s.inZoneSegment z g → h ∉ s.queue g) → t.record h = s.record h

/-- An asserted input, as last taken, maps zone `z` (R159). -/
def State.lineHolds (s : State) (z : Zone) (n : HaltLine) : Prop :=
  s.zones.levels.getLsbD n.val = true ∧ (s.map.haltMap.get n).getLsbD z.val = true

/-! ### Records, queues and custody (R23, R46, R88, R44) -/

/-- STAGED or IN_TRANSIT: the states of a queued carrier. -/
def CarrierState.queued : CarrierState → Bool
  | .staged | .inTransit => true
  | _ => false

/-- AT_STATION or HELD: the states of a carrier in custody. -/
def CarrierState.inCustody : CarrierState → Bool
  | .atStation | .held => true
  | _ => false

/-- The state of the occupant that a custody state goes with (R88). -/
def Custody.occupantState : Custody → CarrierState
  | .heldDwell _ _ | .heldBlocked _ | .halted (.heldDwell _ _) | .halted (.heldBlocked _) => .held
  | _ => .atStation

/-- Law 1 (R46): a record is in a queue if and only if it is STAGED or IN_TRANSIT, then in exactly one, the one its
location names, exactly once. -/
def State.QueueLaw (s : State) : Prop :=
  (∀ g, (s.queue g).Nodup)
    ∧ (∀ g, ∀ h ∈ s.queue g, (s.record h).state.queued = true ∧ (s.record h).location = .onSegment g)
    ∧ ∀ h, (s.record h).state.queued = true → ∃ g, h ∈ s.queue g

/-- Law 2 (R88): the occupant of a station is AT_STATION or HELD, as its custody state gives, and names the station; and
every carrier in those states is the occupant of the station it names. -/
def State.OccupantLaw (s : State) : Prop :=
  (∀ st c, (s.custodyOf st).occupant? = some c →
      (s.record c).state = (s.custodyOf st).occupantState ∧ (s.record c).location = .atStation st)
    ∧ ∀ c, (s.record c).state.inCustody = true → ∃ st, (s.custodyOf st).occupant? = some c

/-- Law 12 (R44): outside RUNNING every record is FREE. -/
def State.StillLaw (s : State) : Prop := s.map.device ≠ .running → ∀ h, (s.record h).state = .free

/-- Laws 1, 2 and 12 together: each is kept by way of the others. -/
def State.PlaceLaws (s : State) : Prop := s.QueueLaw ∧ s.OccupantLaw ∧ s.StillLaw

/-- A FREE record holds nothing but its generation (R23, R28). -/
def State.FreeLaw (s : State) : Prop :=
  ∀ h, (s.record h).state = .free → s.record h = CarrierRecord.free (s.record h).generation

/-- Law 3 (R32): the Tag Index, in its one form, holds the tags of live tagged records and no others; a tag is non-zero. -/
def State.TagLaw (s : State) : Prop :=
  TagIndex.canonical s.tags = true
    ∧ (∀ t h, TagIndex.lookup t s.tags = some h ↔ (s.record h).live = true ∧ (s.record h).tag = some t)
    ∧ ∀ h, (s.record h).tag ≠ some 0

/-- R31: the exception count is the number of live records that hold an exception. -/
def State.ExceptionLaw (s : State) : Prop :=
  s.carriers.exceptionCount = s.carriers.records.rows.countP fun r => r.live && r.exception.isSome

/-! ### Room (R47, R59) -/

/-- The exit a station's occupant is directed to, saved or not (R59). -/
def Custody.directedExit? (c : Custody) : Option Exit :=
  match c with
  | .halted v => v.exit?
  | c => c.exit?

/-- The segment a station's occupant is directed onto. -/
def State.directedSegment (s : State) (st : Station) : Option Segment :=
  (s.custodyOf st).directedExit?.bind fun e => (s.station st).exitSegment e.val

/-- Law 6 (R59): the reserved count of a segment is the number of stations whose occupant is directed onto it. -/
def State.ReservationLaw (s : State) : Prop :=
  ∀ g, s.reservedCount g = (List.finRange Config.stations).countP fun st => s.directedSegment st = some g

/-- Law 4 (R47): queue length plus reserved count never exceeds capacity. -/
def State.CapacityLaw (s : State) : Prop := ∀ g, s.depth g ≤ (s.segment g).capacity

/-! ### Route Store counts (R112, R119, R120) -/

/-- How often a record names a slot, as route and as pending route (R119). -/
def CarrierRecord.names (r : CarrierRecord) (q : Slot) : Nat :=
  (if r.route.map RouteRef.slot = some q then 1 else 0) + if r.pendingRoute = some q then 1 else 0

/-- Law 7 (R119, R113): a slot's bound count is the number of times live records name it; an EMPTY or DRAFT slot is bound
to none, a DRAINING one to one or more; a class is bound to ACTIVE slots only (R123). -/
def State.BoundLaw (s : State) : Prop :=
  (∀ q, (s.slotOf q).bound = (s.carriers.records.rows.map fun r => r.names q).sum)
    ∧ (∀ q, match (s.slotOf q).state with
        | .empty | .draft _ => (s.slotOf q).bound = 0
        | .active _ => True
        | .draining _ => 0 < (s.slotOf q).bound)
    ∧ ∀ c q, s.routes.classes.get c = some q → (s.slotOf q).state.isActive = true

/-- The ranges of a route program (R113, R116): its loop base and exhaust stage lie below its stage count. -/
def Program.InRange (p : Program) : Prop :=
  1 ≤ p.stageCount ∧ p.stageCount ≤ 9 ∧ 1 ≤ p.lapLimit ∧ p.lapLimit ≤ 255
    ∧ (∀ k, p.loopBase = some k → k.val < p.stageCount) ∧ ∀ k, p.exhaustStage = some k → k.val < p.stageCount

/-- The program whose stages hold references: that of an ACTIVE or DRAINING slot (R112). -/
def SlotState.counted? : SlotState → Option Program
  | .active p | .draining p => some p
  | _ => none

/-- Law 8's count (R112): a set's reference count is the number of stages of ACTIVE and DRAINING slots naming it. -/
def State.ReferenceLaw (s : State) : Prop :=
  ∀ i, (s.setOf i).references
    = (s.routes.slots.rows.map fun r => match r.state.counted? with | some p => p.uses i | none => 0).sum

/-- Law 9 (R139) with what it is kept by: programs are in range; every stage in use of an ACTIVE or DRAINING slot is
written, no ADVANCE stage is the last, a LOOP stage has a loop base (R117); a routed record's slot is ACTIVE or DRAINING,
its stage is below the stage count, and its laps do not exceed the lap limit. -/
def State.RouteLaw (s : State) : Prop :=
  (∀ q p, s.programOf q = some p → p.InRange)
    ∧ (∀ q p, (s.slotOf q).state.counted? = some p → ∀ k : StageNo, k.val < p.stageCount →
      ∃ stage, p.stages.get k = some stage ∧ (stage.endAction = .advance → k.val + 1 ≠ p.stageCount)
        ∧ (stage.endAction = .loop → p.loopBase ≠ none))
    ∧ ∀ h r, (s.record h).route = some r →
      ∃ p, (s.slotOf r.slot).state.counted? = some p ∧ r.stage.val < p.stageCount ∧ r.laps ≤ p.lapLimit

/-! ### Waiters and windows (R49, R50, R60) -/

/-- HELD BLOCKED, or HALTED with that state saved (R60). -/
def Custody.waits : Custody → Bool
  | .heldBlocked _ | .halted (.heldBlocked _) => true
  | _ => false

/-- Law 11 (R60): no station stands twice on waiter lists, on one or on two, and a station stands on one exactly while it is
HELD BLOCKED or HALTED with that state saved. -/
def State.WaiterLaw (s : State) : Prop :=
  (∀ g, (s.waiterList g).Nodup) ∧ (∀ g g' st, st ∈ s.waiterList g → st ∈ s.waiterList g' → g = g')
    ∧ ∀ st, (∃ g, st ∈ s.waiterList g) ↔ (s.custodyOf st).waits = true

/-- A window holds the remaining pair (R50). -/
def Window.isRemaining : Window → Bool
  | .remaining _ _ => true
  | .timed _ _ => false

/-- The window of a carrier ahead goes with the window of one behind (Law 5): while the deadline ahead is pending, the one
behind is pending and not earlier; a remaining time ahead is not above the one behind. -/
def Window.NotAfter (now : Time) : Window → Window → Prop
  | .timed _ d, .timed _ d' =>
    Time.isAfter now d = true → Time.isAfter now d' = true ∧ (d - now).toNat ≤ (d' - now).toNat
  | .remaining _ r, .remaining _ r' => r.toNat ≤ r'.toNat
  | _, _ => False

/-- Law 5 (R49, R50): every queued carrier holds a window, in the form its segment's zone calls for, and along a queue
deadlines, and remaining times, never decrease. -/
def State.WindowLaw (s : State) : Prop :=
  ∀ g, (∀ h ∈ s.queue g, ∃ w, (s.record h).window = some w ∧ w.isRemaining = s.segmentSuspended g)
    ∧ (s.queue g).Pairwise fun h h' => ∀ w w', (s.record h).window = some w → (s.record h').window = some w' →
      w.NotAfter s.lineTime w'

/-! ### Halts, outlets and ranges -/

/-- R156, R160, R164: a configured station is HALTED exactly while its zone is, an UNUSED one is IDLE (R4), and an OUTLET
holds no occupant (R87). -/
def State.HaltLaw (s : State) : Prop :=
  ∀ st, (if s.configured st then (s.custodyOf st).isHalted = s.zoneHalted (s.station st).zone
      else s.custodyOf st = .idle)
    ∧ (s.isOutlet st = true → (s.custodyOf st).occupant? = none)

/-- R147, R148: an account's capacity and count are in range, and its full flag is set exactly while the count is at or
above the capacity. -/
def State.AccountLaw (s : State) : Prop :=
  ∀ st, 1 ≤ (s.outlet st).capacity ∧ (s.outlet st).capacity ≤ 4095 ∧ (s.outlet st).delivered ≤ 4095
    ∧ ((s.outlet st).full = true ↔ (s.outlet st).capacity ≤ (s.outlet st).delivered)

/-- R168, R171, R177: a miss count is 0 to 3 and at 3 the station is DOWN; a directive in a slot has the number given
last. -/
def State.LinkLaw (s : State) : Prop :=
  ∀ st, (s.linkOf st).missCount ≤ 3 ∧ ((s.linkOf st).missCount = 3 → (s.linkOf st).state = .down)
    ∧ (match (s.linkOf st).slot with
      | .empty => True
      | .undelivered d | .delivered d => d.number = (s.linkOf st).lastNumber)

/-- The ranges of R3, R5, R84 and R109: skip limits, exit counts, default and reject exits, capacities, transit maxima,
untracked counts; a decision set names a station at most once and balances two different exits. -/
def State.RangeLaw (s : State) : Prop :=
  (∀ st, (s.station st).skipLimit ≤ 7 ∧ (s.station st).exits.length ≤ 3 ∧ s.untracked.get st ≤ 255
      ∧ ((s.station st).defaultExit.val < (s.station st).exits.length
        ∨ ((s.station st).exits = [] ∧ (s.station st).defaultExit = 0))
      ∧ ∀ e, (s.station st).rejectExit = some e → e.val < (s.station st).exits.length)
    ∧ (∀ g, 1 ≤ (s.segment g).capacity ∧ (s.segment g).capacity ≤ 64 ∧ (s.segment g).maxTransit ≠ 0)
    ∧ ∀ i, (s.setOf i).entries.length ≤ 8 ∧ ((s.setOf i).entries.map DecisionEntry.station).Nodup
      ∧ ∀ e a b, e ∈ (s.setOf i).entries → e.preference = .balance a b → a ≠ b

/-- R186, R189, R190: the device is VALIDATING exactly while START's validation is in flight; a transaction's status byte
shows BUSY as the slot stood at its fall, a slot that was FREE then is FREE still, and a response that waited then waits
still. -/
def State.PortLaw (s : State) : Prop :=
  (s.map.device = .validating ↔ s.port.slot = .inFlight .validation)
    ∧ ∀ o, s.port.transaction = .underWay o →
      (o.status.getLsbD 7 = true → (o.status.getLsbD 6 = true ↔ o.waiting ≠ .free))
      ∧ match o.waiting with
        | .free => s.port.slot = .free
        | .answered r => s.port.slot = .answered r
        | .inFlight _ => s.port.slot ≠ .free

/-- The laws that need no other: each is kept by every step on its own. -/
def State.StandingLaws (s : State) : Prop := s.HaltLaw ∧ s.AccountLaw ∧ s.LinkLaw ∧ s.RangeLaw ∧ s.PortLaw

/-! ### A line that passes START's validation (R12 to R14, R117) -/

/-- Segment `g` is used and its downstream is station `st` at port `p`. -/
def State.feeds (s : State) (g : Segment) (st : Station) (p : Port) : Prop := (s.segment g).downstream = some (st, p)

/-- A configured station's record agrees with the segments it names (R12). -/
def State.StationValid (s : State) (st : Station) : Prop :=
  let r := s.station st
  (if r.type = .outlet then r.port1 = none ∧ r.exits = [] else r.exits ≠ [])
    ∧ (∀ g, r.port0 = some g → s.feeds g st 0 ∧ ((s.segment g).kind = .staging ↔ r.type = .infeed))
    ∧ (∀ g, r.port1 = some g → s.feeds g st 1 ∧ (s.segment g).kind = .conveyor)
    ∧ ∀ (e : Exit) g, r.exits[e.val]? = some g →
        (s.segment g).downstream ≠ none ∧ (s.segment g).kind = .conveyor ∧ (s.segment g).upstream = some (st, e)

/-- A used segment's record agrees with the stations it names (R13). -/
def State.SegmentValid (s : State) (g : Segment) : Prop :=
  (∀ st p, (s.segment g).downstream = some (st, p) → s.configured st = true ∧
      (if p = 0 then (s.station st).port0 else (s.station st).port1) = some g)
    ∧ ((s.segment g).kind = .conveyor →
      (∃ st e, (s.segment g).upstream = some (st, e) ∧ s.configured st = true ∧ (s.station st).exits[e.val]? = some g)
        ∧ (s.segment g).minTransit.toNat ≤ (s.segment g).maxTransit.toNat)

/-- A decision-set entry passes the ENTRY check: a configured station that is no OUTLET, and exits below its exit count
(R117). -/
def State.EntryValid (s : State) (e : DecisionEntry) : Prop :=
  s.configured e.station = true ∧ (s.station e.station).type ≠ .outlet
    ∧ match e.preference with
      | .fixed a => a.val < (s.station e.station).exits.length
      | .balance a b => a.val < (s.station e.station).exits.length ∧ b.val < (s.station e.station).exits.length

/-- A stage of a program passes the activation checks (R117). -/
def State.StageValid (s : State) (p : Program) (k : StageNo) : Prop :=
  ∃ stage, p.stages.get k = some stage ∧ s.configured stage.boundary = true
    ∧ (∀ e ∈ (s.setOf stage.set).entries, s.EntryValid e)
    ∧ (stage.endAction = .advance → k.val + 1 ≠ p.stageCount)
    ∧ (stage.endAction = .finish ↔ (s.station stage.boundary).type = .outlet)
    ∧ (stage.endAction = .loop → p.loopBase ≠ none)

/-- The line passes every check of R12, R13 and R14. -/
def State.LineValid (s : State) : Prop :=
  (∃ st, s.configured st = true)
    ∧ (∀ st, s.configured st = true → s.StationValid st)
    ∧ (∀ g, (s.segment g).downstream ≠ none → s.SegmentValid g)
    ∧ ∀ q p, (s.slotOf q).state.counted? = some p → ∀ k : StageNo, k.val < p.stageCount → s.StageValid p k

/-- While the device is RUNNING the line passes every check (R10, R15, R118). -/
def State.ValidLaw (s : State) : Prop := s.map.device = .running → s.LineValid

/-! ### Which check fails first (R12 to R14, R117) -/

/-- Of a list of checks, each with what its failure reports, the first that fails reports `x`. -/
def firstFails {α : Type} (checks : List (Prop × α)) (x : α) : Prop :=
  ∃ before p after, checks = before ++ (p, x) :: after ∧ (∀ c ∈ before, c.1) ∧ ¬ p

/-- The checks of a configured station in the order of R12, each with its reason and detail. -/
def State.stationChecks (s : State) (st : Station) : List (Prop × List Byte) :=
  let r := s.station st
  let exitNames (e : Exit) : Prop := ∀ g, r.exits[e.val]? = some g →
    (s.segment g).downstream ≠ none ∧ (s.segment g).kind = .conveyor ∧ (s.segment g).upstream = some (st, e)
  [ (if r.type = .outlet then r.port1 = none ∧ r.exits = [] else r.exits ≠ [], [0x01, 0]),
    (∀ g, r.port0 = some g → s.feeds g st 0, [0x02, 0]),
    (∀ g, r.port1 = some g → s.feeds g st 1, [0x02, 1]),
    (∀ g, r.port0 = some g → ((s.segment g).kind = .staging ↔ r.type = .infeed), [0x03, 0]),
    (∀ g, r.port1 = some g → (s.segment g).kind = .conveyor, [0x03, 1]),
    (exitNames 0, [0x04, 0]), (exitNames 1, [0x04, 1]), (exitNames 2, [0x04, 2]) ]

/-- The checks of a used segment in the order of R13, each with its reason and detail. -/
def State.segmentChecks (s : State) (g : Segment) : List (Prop × List Byte) :=
  let r := s.segment g
  [ (∀ st p, r.downstream = some (st, p) → s.configured st = true ∧
      (if p = 0 then (s.station st).port0 else (s.station st).port1) = some g, [0x05, 0]),
    (r.kind = .conveyor → ∃ st e, r.upstream = some (st, e) ∧ s.configured st = true
      ∧ (s.station st).exits[e.val]? = some g, [0x05, 1]),
    (r.kind = .conveyor → r.minTransit.toNat ≤ r.maxTransit.toNat, [0x06, 0]) ]

/-- The checks of a stage in the order of R117, each with its reason. -/
def State.stageChecks (s : State) (p : Program) (k : StageNo) : List (Prop × Byte) :=
  let holds (check : Stage → Prop) : Prop := ∀ stage, p.stages.get k = some stage → check stage
  [ (p.stages.get k ≠ none, 0x10),
    (holds fun stage => s.configured stage.boundary = true, 0x11),
    (holds fun stage => ∀ e ∈ (s.setOf stage.set).entries, s.EntryValid e, 0x12),
    (holds fun stage => stage.endAction = .advance → k.val + 1 ≠ p.stageCount, 0x13),
    (holds fun stage => stage.endAction = .finish ↔ (s.station stage.boundary).type = .outlet, 0x14),
    (holds fun stage => stage.endAction = .loop → p.loopBase ≠ none, 0x15) ]

/-- Every check of START's validation in its order (R12 to R14), each with the failure report it gives: object, number,
reason, detail (R15, R199). -/
def State.lineChecks (s : State) : List (Prop × List Byte) :=
  [(∃ st, s.configured st = true, [0, 0, 0x00, 0])]
    ++ (List.finRange Config.stations).flatMap (fun st => (s.stationChecks st).map fun c =>
      (s.configured st = true → c.1, 1 :: byteNat st.val :: c.2))
    ++ (List.finRange Config.segments).flatMap (fun g => (s.segmentChecks g).map fun c =>
      ((s.segment g).downstream ≠ none → c.1, 2 :: byteNat g.val :: c.2))
    ++ (List.finRange Config.slots).flatMap fun q => (List.finRange Config.stages).map fun k =>
      (∀ p, (s.slotOf q).state.counted? = some p → k.val < p.stageCount → s.StageValid p k,
        [3, byteNat q.val, 0x07, byteNat k.val])

/-! ### Words for results -/

/-- A command refused: its code alone in the buffer, nothing else changed (R193, R198). -/
def State.refusedWith (s : State) (echo : Byte) (len : Nat) (code : AnswerCode) : State :=
  { s with port := s.portAfter echo len code [] }

/-- A command answered OK that changes nothing but the buffer: a read. -/
def State.readWith (s : State) (echo : Byte) (len : Nat) (data : List Byte) : State :=
  { s with port := s.portAfter echo len .ok data }

/-- The link with station `k`'s record made `l`. -/
def State.linkWith (s : State) (k : Station) (l : LinkRecord) : StationLink :=
  { s.link with records := s.link.records.set k l }

/-- The toggles after a decision at station `k` (R131). -/
def State.togglesAfter (s : State) (k : Station) (d : Decision) : Table Config.stations Bool :=
  if d.flips then s.toggles.set k (!s.toggles.get k) else s.toggles

/-- A record after a decision: MISSED set where the decision says so (R133), in custody at `k` in a state (R88). -/
def CarrierRecord.decided (r : CarrierRecord) (d : Decision) (k : Station) (state : CarrierState) : CarrierRecord :=
  { r with
    state, location := .atStation k, window := none
    flags := { r.flags with missed := r.flags.missed || d.missed } }

/-- `s` with carrier `c`, its record being `r`, directed from station `k` to exit `e`, which feeds segment `g`: AT_STATION,
OCCUPIED with the exit and the timer started, one reservation more (R59, R91, R98, R102). The link is the caller's. -/
def State.directed (s : State) (k : Station) (c : Handle) (r : CarrierRecord) (d : Decision) (e : Exit) (g : Segment)
    (link : StationLink) : State :=
  { s with
    carriers := { s.carriers with records := s.carriers.records.set c (r.decided d k .atStation) }
    tracker := { s.tracker with reserved := s.tracker.reserved.set g (s.reservedCount g + 1) }
    custody := s.custody.set k (.occupied c e
      (if (s.station k).occupancyLimit = 0 then none else some (s.lineTime + (s.station k).occupancyLimit.setWidth 32)))
    toggles := s.togglesAfter k d, link }

/-- `s` with carrier `c`, its record being `r`, blocked at station `k` on segment `g`: HELD BLOCKED, the station at the
tail of the waiter list (R60, R93, R101). The link is the caller's. -/
def State.blockedOn (s : State) (k : Station) (c : Handle) (r : CarrierRecord) (d : Decision) (g : Segment)
    (link : StationLink) : State :=
  { s with
    carriers := { s.carriers with records := s.carriers.records.set c (r.decided d k .held) }
    tracker := { s.tracker with waiters := s.tracker.waiters.set g (s.waiterList g ++ [k]) }
    custody := s.custody.set k (.heldBlocked c)
    toggles := s.togglesAfter k d, link }

/-- `s` with carrier `c` taken out of the queue of `g`, which leaves `rest`, and one room event raised on `g` (R52, R61). -/
def State.takenFrom (s : State) (g : Segment) (rest : List Handle) : State :=
  { s with
    tracker := { s.tracker with queues := s.tracker.queues.set g rest, roomEvents := s.tracker.roomEvents ++ [g] } }

/-- A record bound at station `k` through segment `g`: what every bound carrier receives (R80). -/
def CarrierRecord.boundAt (r : CarrierRecord) (k : Station) (g : Option Segment) (now : Time) : CarrierRecord :=
  { r with sighting := some ⟨k, now⟩, lastSegment := g, window := none }

/-- The record made LOST with an exception (R23, R24, R30). -/
def CarrierRecord.lostBy (r : CarrierRecord) (k : ExceptionKind) : CarrierRecord :=
  { r with state := .lost, location := .nowhere, window := none, exception := some k }

/-- The exception count once a record of this shape received an exception (R31). -/
def CarrierRecord.raised (r : CarrierRecord) (n : Nat) : Nat := if r.exception.isSome then n else n + 1

/-- The position path is taken: level OFF, or LENIENT with no tag read (R68). -/
def State.byPosition (s : State) (k : Station) (tag : Tag) : Prop :=
  (s.station k).checkLevel = .off ∨ (s.station k).checkLevel = .lenient ∧ tag = 0

/-- The head of the queue of entry segment `g` is `c`, with `rest` behind it, and now is not before its earliest time
(R66, R69). -/
def State.dueHead (s : State) (g : Segment) (c : Handle) (rest : List Handle) : Prop :=
  s.queue g = c :: rest ∧ ∀ e d, (s.record c).window = some (.timed e d) → Time.isAfter s.lineTime e = false

/-- An outlet account as answers carry it (R200): capacity, delivered count, inbound, and the bits closed, full,
auto-retire. -/
def OutletAccount.answer (a : OutletAccount) (inbound : Nat) : List Byte :=
  leBytes 2 (BitVec.ofNat 16 a.capacity) ++ leBytes 2 (BitVec.ofNat 16 a.delivered)
    ++ [BitVec.ofNat 8 inbound, BitVec.ofNat 8
      ((if a.closed then 1 else 0) + (if a.full then 2 else 0) + if a.autoRetire then 4 else 0)]

/-- An entry as DECISION_WRITE gives it (R199): kind 1 FIXED, 2 BALANCE; the exit b of a FIXED entry FFh. -/
def DecisionEntry.place (e : DecisionEntry) : EntryPlace :=
  match e.preference with
  | .fixed a => ⟨BitVec.ofNat 8 e.station.val, 1, BitVec.ofNat 8 a.val, 0xFF⟩
  | .balance a b => ⟨BitVec.ofNat 8 e.station.val, 2, BitVec.ofNat 8 a.val, BitVec.ofNat 8 b.val⟩

/-- An entry place spells an entry (R199); the exit b of a FIXED entry is not read. -/
def DecisionEntry.spelledBy (e : DecisionEntry) (p : EntryPlace) : Prop :=
  p.station = BitVec.ofNat 8 e.station.val
    ∧ match e.preference with
      | .fixed a => p.kind = 1 ∧ p.exitA = BitVec.ofNat 8 a.val
      | .balance a b => p.kind = 2 ∧ p.exitA = BitVec.ofNat 8 a.val ∧ p.exitB = BitVec.ofNat 8 b.val

/-- A carrier reference to handle `h` in the generation it has now (R27). -/
def State.refTo (s : State) (h : Handle) : CarrierRef := ⟨BitVec.ofNat 16 h.val, (s.record h).generation⟩

/-- handle.generation, three bytes, the handle's low byte first (R197). -/
def State.nameOf (s : State) (h : Handle) : List Byte :=
  [BitVec.ofNat 8 (h.val % 256), BitVec.ofNat 8 (h.val / 256), (s.record h).generation]

/-- The references two counts of a route rise and fall by: the routes after slot `q` is bound once more (R119). -/
def State.routesBinding (s : State) (q : Slot) : RouteStore :=
  { s.routes with slots := s.routes.slots.set q { s.slotOf q with bound := (s.slotOf q).bound + 1 } }

end Sys2Proof.Machine
end

