-- ==== Sys2Proof/Certificates/Slice0/Obligations.lean ====
section
/-! DEFINITION. The statements for the provers: what every command of the block does, and the laws of the device. -/

open Sys2Proof Sys2Proof.Machine

/-! ### The machine -/

/-- One step takes the command at the front of the queue and runs it with the queue's rest; with no command waiting the
block idles (the model's choice, notes/assumptions/1.md). -/
def Obligations.StepRunsTheFrontCommand : Prop :=
  (∀ (c : Instr) (rest : List Instr) (s : State), step { s with pending := c :: rest } = exec c { s with pending := rest })
    ∧ ∀ s : State, s.pending = [] → step s = .next s

/-- Every command and event is answered by a next state, and leaves the queue of commands alone: nothing stops the part. That
an event whose conditions do not hold is answered too is the model's choice, notes/assumptions/2.md; that states no run reaches
are, notes/assumptions/18.md; that POWER_ON leaves the queue alone, notes/assumptions/10.md. -/
def Obligations.EveryCommandCompletes : Prop :=
  ∀ (i : Instr) (s : State), ∃ t, exec i s = .next t ∧ t.pending = s.pending

/-- POWER_ON and State.reset put every block at the power-on value its rule gives; POWER_ON abandons a transaction under way.
The model's own list of room events is empty then, no transaction is open in State.reset, and the queue of commands is kept: the
model's choice, notes/assumptions/10.md. -/
def Obligations.PowerOnValues : Prop :=
  State.reset.AtPowerOn ∧ State.reset.port.transaction = .none
    ∧ ∀ s : State, ∃ t, exec .powerOn s = .next t ∧ t.AtPowerOn ∧ t.pending = s.pending
      ∧ (s.port.transaction = .none → t.port.transaction = .none)
      ∧ (s.port.transaction ≠ .none → t.port.transaction = .abandoned)

/-- READY_SET sets ready; a tick advances line time modulo 2^32 and samples the halt inputs; a deassertion agreed on by two
samples clears the input's level, no latch and no zone. Nothing else changes. That a tick carries the samples and that the last
two are kept is the model's reading, notes/assumptions/5.md; that no expiry is taken in a tick, notes/assumptions/22.md. -/
def Obligations.ReadyTickAndDeassertion : Prop :=
  (∀ s : State, exec .readySet s = .next { s with port := { s.port with ready := true } })
    ∧ (∀ (x : BitVec 4) (s : State), exec (.lineTimeTick x) s = .next
        { s with
          lineTime := s.lineTime + 1
          zones := { s.zones with lastSample := x, priorSample := s.zones.lastSample } })
    ∧ ∀ (n : HaltLine) (s : State), s.zones.levels.getLsbD n.val = true →
        s.zones.lastSample.getLsbD n.val = false → s.zones.priorSample.getLsbD n.val = false →
        exec (.haltInputDeasserted n) s = .next
          { s with zones := { s.zones with levels := s.zones.levels &&& ~~~(1#4 <<< n.val) } }

/-! ### The host port -/

/-- Every host command's frame passes the frame check as that command, whatever bytes follow it, and every station answer's 12-byte
frame is valid for the station it names and spells that answer: no field is dropped or read from another place. -/
def Obligations.FramesSpellTheirCommands : Prop :=
  (∀ (i : Instr) (code : Byte) (ps extra : List Byte), i.wellFormed = true → commandBytes i = some (code, ps) →
     checkFrame (frameOf code ps ++ extra) = .passed i)
    ∧ (∀ (k : Station) (d : Option Byte) (seq b : Byte) (tag : Tag) (i : Instr),
      (i = .answer (headFrom k d) ∨ i = .arrival (headFrom k d) seq b tag ∨ i = .clear (headFrom k d) seq b) →
      ∃ frame, answerFrame i = some frame ∧ frame.length = 12 ∧ parseAnswer k frame = some i)

/-- A COMMAND transaction with a passing frame does what the command does; bytes clocked after the CRC only draw fill. The
status byte shifted out is that of the fall of /SCS, which with no transaction open comes in the same step (the model's choice,
notes/assumptions/6.md). -/
def Obligations.CommandTransactionRunsItsCommand : Prop :=
  ∀ (i : Instr) (code : Byte) (ps extra : List Byte) (s : State), i.wellFormed = true →
    commandBytes i = some (code, ps) → s.takesCommand = true →
    ∃ t, exec i s = .next t
      ∧ exec (.commandTransaction (.rises 0x5A) (frameOf code ps ++ extra)) s = .next
        { t with port := { t.port with sdo := s.openingByte :: List.replicate (ps.length + 3 + extra.length) 0 } }

/-- A frame that fails is answered FRAME_ERROR, its code echoed where one arrived, except that a sound frame of an undefined
code is answered BAD_PARAM; nothing but the command slot, the transaction and the bytes shifted out changes. -/
def Obligations.FailingFramesAreAnswered : Prop :=
  ∀ (s : State), s.takesCommand = true →
    let answered (bytes : List Byte) (echo : Byte) (code : AnswerCode) : Prop :=
      exec (.commandTransaction (.rises 0x5A) bytes) s = .next
        { s with port := { s.portIdle bytes.length with slot := .answered ⟨echo, code, []⟩ } }
    answered [] 0 .frameError
    ∧ (∀ code, answered [code] code .frameError)
    ∧ (∀ code len rest, rest.length ≤ len.toNat → answered (code :: len :: rest) code .frameError)
    ∧ (∀ code len rest, 36 < len.toNat → answered (code :: len :: rest) code .frameError)
    ∧ ∀ code (ps : List Byte) crc extra, ps.length ≤ 36 →
      let bytes := code :: BitVec.ofNat 8 ps.length :: ps ++ crc :: extra
      (crc ≠ crc8 (code :: BitVec.ofNat 8 ps.length :: ps) → answered bytes code .frameError)
      ∧ (crc = crc8 (code :: BitVec.ofNat 8 ps.length :: ps) →
        (requiredLength code = none → answered bytes code .badParam)
        ∧ ∀ n, requiredLength code = some n → n ≠ ps.length → answered bytes code .frameError)

/-- Where the status byte of its fall showed READY clear, or the command slot is not FREE at its rise, a command is dropped, as
a command or as a transaction; a transaction whose selector is neither value is a status transaction. Only the transaction and the
bytes shifted out change. At the end of a transaction that a power-on abandoned, nothing is taken and nothing changes but that it
is over; a transaction that ends within its selector changes nothing (the model's choice, notes/assumptions/28.md). A
transaction whose status byte shows BUSY clear finds the slot FREE at its end: PortLaw, which StepsKeepStandingLaws keeps. That the status byte of the fall decides, and that with no transaction open the fall is in the same
step, is the model's choice, notes/assumptions/6.md. -/
def Obligations.CommandsAreDroppedWhileBusy : Prop :=
  ∀ (s : State),
    (s.takesCommand = true ↔ s.openingByte.getLsbD 7 = true ∧ s.port.slot = .free)
    ∧ (s.takesCommand = false →
      (∀ i code ps, commandBytes i = some (code, ps) → exec i s = .next { s with port := s.portIdle (ps.length + 3) })
      ∧ ∀ bytes, exec (.commandTransaction (.rises 0x5A) bytes) s = .next { s with port := s.portIdle bytes.length })
    ∧ (∀ selector bytes, selector ≠ 0x5A → selector ≠ 0xA5 →
      exec (.commandTransaction (.rises selector) bytes) s = .next { s with port := s.portIdle bytes.length })
    ∧ (s.port.transaction ≠ .abandoned → ∀ bytes, exec (.commandTransaction .risesEarly bytes) s = .next
      { s with port := { s.port with transaction := .none, sdo := [] } })
    ∧ (s.port.transaction = .abandoned →
      let ended : State := { s with port := { s.port with transaction := .none } }
      (∀ i code ps, commandBytes i = some (code, ps) → exec i s = .next ended)
      ∧ (∀ bits, exec (.readTransaction bits) s = .next ended)
      ∧ ∀ edge bytes, edge ≠ .falls → exec (.commandTransaction edge bytes) s = .next ended)

/-- A read shifts out the status byte, then the frame of the response that waited when /SCS fell and fill, and frees the slot once
its last CRC bit is out; with no response waiting then a placeholder of answer code BUSY, echoing the operation in flight, and
the slot stays, so that a response placed since the fall is kept. With no transaction open the fall is in the same step (the
model's choice, notes/assumptions/6.md). -/
def Obligations.ReadShiftsOutTheResponse : Prop :=
  ∀ (bits : Nat) (s : State),
    let framed (body : List Byte) : List Byte := body ++ [crc8 body]
    let shifted (body : List Byte) (slot : CommandSlot) : State :=
      { s with port := { s.port with
          slot, transaction := .none
          sdo := s.openingByte :: (framed body ++ List.replicate (bits / 8) 0).take (bits / 8) } }
    (∀ bytes, bits = 8 * bytes.length → exec (.commandTransaction (.rises 0xA5) bytes) s = exec (.readTransaction bits) s)
    ∧ (s.openingByte.getLsbD 7 = false → exec (.readTransaction bits) s = .next { s with port := s.portIdle (bits / 8) })
    ∧ (s.openingByte.getLsbD 7 = true →
      (∀ r, s.openingSlot = .answered r →
        let body := r.echo :: r.code.code :: BitVec.ofNat 8 r.data.length :: r.data
        (bits < 8 * (r.data.length + 4) → exec (.readTransaction bits) s = .next (shifted body s.port.slot))
        ∧ (8 * (r.data.length + 4) ≤ bits → exec (.readTransaction bits) s = .next (shifted body .free)))
      ∧ (s.openingSlot = .free → exec (.readTransaction bits) s = .next (shifted [0x00, 0x01, 0] s.port.slot))
      ∧ (s.openingSlot = .inFlight .validation →
        exec (.readTransaction bits) s = .next (shifted [0x01, 0x01, 0] s.port.slot))
      ∧ ∀ h, s.openingSlot = .inFlight (.scan h) →
        exec (.readTransaction bits) s = .next (shifted [0x35, 0x01, 0] s.port.slot))

/-- The status byte: 00h while ready is clear; else bit 7 set, bit 6 the slot not FREE, bit 5 a response waiting, bit 4 the
attention line, bits 3 and 2 clear, bits 1 and 0 the device state. The fall of /SCS takes it, and the slot, for the transaction it
begins, and changes nothing else; a fall with a transaction open, or abandoned and not yet over, is no event (the model's choice,
notes/assumptions/6.md). -/
def Obligations.StatusByteShowsThePart : Prop :=
  ∀ (s : State),
    (s.port.ready = false → s.statusByte = 0)
    ∧ (s.port.ready = true →
      s.statusByte.getLsbD 7 = true
      ∧ (s.statusByte.getLsbD 6 = true ↔ s.port.slot ≠ .free)
      ∧ (s.statusByte.getLsbD 5 = true ↔ ∃ r, s.port.slot = .answered r)
      ∧ (s.statusByte.getLsbD 4 = true ↔ ∃ n < 7, s.summary.getLsbD n = true ∧ s.port.mask.getLsbD n = true)
      ∧ s.statusByte.getLsbD 3 = false ∧ s.statusByte.getLsbD 2 = false
      ∧ (s.statusByte.extractLsb' 0 2).toNat = (match s.map.device with | .setup => 0 | .validating => 1 | .running => 2))
    ∧ ∀ bytes, (s.port.transaction = .none → exec (.commandTransaction .falls bytes) s = .next
        { s with port := { s.port with transaction := .underWay ⟨s.statusByte, s.port.slot⟩ } })
      ∧ (s.port.transaction ≠ .none → exec (.commandTransaction .falls bytes) s = .next s)

/-- STATUS reads 28 bytes and changes nothing else: device state, summary flags, mask, exception count, live records, the state
and causes of the eight zones, the input levels, line time. That the device state is one byte is the model's choice,
notes/assumptions/29.md. -/
def Obligations.StatusReadsTheSummary : Prop :=
  ∀ (s : State), s.takesCommand = true →
    ∃ flags : BitVec 7, ∃ zones : List Byte,
      exec .status s = .next (s.readWith 0x04 0
        ([s.map.device.code, flags.setWidth 8, s.port.mask.setWidth 8]
          ++ leBytes 2 (BitVec.ofNat 16 s.carriers.exceptionCount)
          ++ leBytes 2 (BitVec.ofNat 16 (s.carriers.records.rows.countP fun r => r.state != .free))
          ++ zones ++ [s.zones.levels.setWidth 8] ++ leBytes 4 s.lineTime))
      ∧ (flags.getLsbD 0 = true ↔ 0 < s.carriers.exceptionCount)
      ∧ (flags.getLsbD 1 = true ↔ ∃ st c e, s.custodyOf st = .jammed c e ∨ s.custodyOf st = .halted (.jammed c e))
      ∧ (flags.getLsbD 2 = true ↔ ∃ st, (s.station st).type = .outlet ∧ (s.outlet st).full = true)
      ∧ (flags.getLsbD 3 = true ↔ ∃ z, s.zoneHalted z = true)
      ∧ (flags.getLsbD 4 = true ↔ ∃ st, s.configured st = true ∧ (s.linkOf st).state = .down)
      ∧ (flags.getLsbD 5 = true ↔ ∃ st, 0 < s.untracked.get st)
      ∧ flags.getLsbD 6 = false
      ∧ zones.length = 16
      ∧ ∀ z : Zone, zones[2 * z.val]? = some (if s.zoneHalted z then 1 else 0)
        ∧ zones[2 * z.val + 1]?
          = some (BitVec.ofNat 8 ((if (s.zones.causes.get z).host then 1 else 0) + 2 * (s.zones.causes.get z).lines.toNat))

/-- READ_TIME answers line time, least significant byte first. SET_ATTN_MASK replaces the mask and answers it; bit 7 names no flag.
READ_UNTRACKED answers a station's count and clears it where asked; that the count is one byte is the model's reading,
notes/assumptions/15.md. -/
def Obligations.TimeMaskAndUntrackedCounts : Prop :=
  (∀ (s : State), s.takesCommand = true → exec .readTime s = .next
     (s.readWith 0x06 0 [s.lineTime.extractLsb' 0 8, s.lineTime.extractLsb' 8 8, s.lineTime.extractLsb' 16 8,
       s.lineTime.extractLsb' 24 8]))
    ∧ (∀ (s : State), s.takesCommand = true →
      (∀ m : Byte, m.msb = true → exec (.setAttnMask m) s = .next (s.refusedWith 0x05 1 .badParam))
      ∧ (∀ m : Byte, m.msb = false → exec (.setAttnMask m) s = .next
        { s with port := { s.portAfter 0x05 1 .ok [m] with mask := m.setWidth 7 } })
      ∧ (∀ k : Station, exec (.readUntracked (byteNat k.val) 0) s = .next
        (s.readWith 0x58 2 [byteNat (s.untracked.get k)]))
      ∧ (∀ k : Station, exec (.readUntracked (byteNat k.val) 1) s = .next
        { s with untracked := s.untracked.set k 0, port := s.portAfter 0x58 2 .ok [byteNat (s.untracked.get k)] })
      ∧ ∀ b choice : Byte, 32 ≤ b.toNat ∨ 2 ≤ choice.toNat →
        exec (.readUntracked b choice) s = .next (s.refusedWith 0x58 2 .badParam))

/-! ### The Line Map and the device state -/

/-- STATION_SET writes the whole record in SETUP, makes the station IDLE, or HALTED IDLE in a HALTED zone, and resets the link
record of a station that joins the polling; type 0 gives the power-on record. In SETUP it is refused BAD_PARAM in each of the
cases R4 and R199 list, and in no other. Outside SETUP it is refused NOT_SETUP whatever its parameters: that this check comes first
is the model's reading, notes/assumptions/13.md. -/
def Obligations.StationSetWritesTheRecord : Prop :=
  ∀ (k : Station) (s : State), s.takesCommand = true →
    let joined : LinkRecord := { s.linkOf k with state := .down, missCount := 0, accepted := none, slot := .empty }
    (s.map.device ≠ .setup → ∀ p, exec (.stationSet p) s = .next (s.refusedWith 0x10 14 .notSetup))
    ∧ (s.map.device = .setup →
      (∀ p : StationSetParams, 32 ≤ p.station.toNat ∨ 4 ≤ p.type.toNat →
        exec (.stationSet p) s = .next (s.refusedWith 0x10 14 .badParam))
      ∧ (∀ p : StationSetParams, 1 ≤ p.type.toNat → p.type.toNat ≤ 3 →
        let count := (if p.exit0 = 0xFF then 0 else 1) + (if p.exit1 = 0xFF then 0 else 1) + if p.exit2 = 0xFF then 0 else 1
        (8 ≤ p.zone.toNat ∨ 48 ≤ p.port0.toNat ∨ (p.port1 ≠ 0xFF ∧ 48 ≤ p.port1.toNat) ∨ p.port1 = p.port0
          ∨ (p.exit0 ≠ 0xFF ∧ 48 ≤ p.exit0.toNat) ∨ (p.exit1 ≠ 0xFF ∧ 48 ≤ p.exit1.toNat)
          ∨ (p.exit2 ≠ 0xFF ∧ 48 ≤ p.exit2.toNat)
          ∨ (p.exit0 = 0xFF ∧ (p.exit1 ≠ 0xFF ∨ p.exit2 ≠ 0xFF)) ∨ (p.exit1 = 0xFF ∧ p.exit2 ≠ 0xFF)
          ∨ (p.exit0 ≠ 0xFF ∧ (p.exit0 = p.exit1 ∨ p.exit0 = p.exit2)) ∨ (p.exit1 ≠ 0xFF ∧ p.exit1 = p.exit2)
          ∨ 3 ≤ p.checkLevel.toNat ∨ 8 ≤ p.skipLimit.toNat
          ∨ (count = 0 ∧ p.defaultExit ≠ 0) ∨ (0 < count ∧ count ≤ p.defaultExit.toNat)
          ∨ (p.rejectExit ≠ 0xFF ∧ count ≤ p.rejectExit.toNat) ∨ (p.type = 3 ∧ p.occupancyLimit ≠ 0)) →
        exec (.stationSet p) s = .next (s.refusedWith 0x10 14 .badParam))
      ∧ (∀ p : StationSetParams, p.station = byteNat k.val → p.type = 0 → exec (.stationSet p) s = .next
        { s with
          map := { s.map with
            stations := s.map.stations.set k
              { type := .unused, zone := 0, port0 := none, port1 := none, exits := [], checkLevel := .off, skipLimit := 0
                occupancyLimit := 0, defaultExit := 0, rejectExit := none } }
          custody := s.custody.set k .idle
          link := s.linkWith k (if s.configured k = true then joined else s.linkOf k)
          port := s.portAfter 0x10 14 .ok [] })
      ∧ ∀ (r : StationRecord) (g : Segment), r.type ≠ .unused → r.port0 = some g → r.port1 ≠ some g → r.exits.Nodup →
        r.exits.length ≤ 3 → r.skipLimit ≤ 7 →
        (r.defaultExit.val < r.exits.length ∨ (r.exits = [] ∧ r.defaultExit = 0)) →
        (∀ e, r.rejectExit = some e → e.val < r.exits.length) → (r.type = .outlet → r.occupancyLimit = 0) →
        exec (.stationSet
            { station := byteNat k.val, type := r.type.code, zone := byteNat r.zone.val, port0 := byteNat g.val
              port1 := indexByte r.port1, exit0 := indexByte r.exits[0]?, exit1 := indexByte r.exits[1]?
              exit2 := indexByte r.exits[2]?, checkLevel := r.checkLevel.code, skipLimit := byteNat r.skipLimit
              occupancyLimit := r.occupancyLimit, defaultExit := byteNat r.defaultExit.val
              rejectExit := indexByte r.rejectExit }) s = .next
          { s with
            map := { s.map with stations := s.map.stations.set k r }
            custody := s.custody.set k (if s.zoneHalted r.zone then .halted .idle else .idle)
            link := s.linkWith k (if s.configured k = true then s.linkOf k else joined)
            port := s.portAfter 0x10 14 .ok [] })

/-- SEGMENT_SET writes the whole record in SETUP, min transit 0 for a STAGING segment; *unused* gives the power-on record.
ZONE_SET writes the zone's timer policy. In SETUP both are refused BAD_PARAM in the cases R6 and R7 list. Outside SETUP both are
refused NOT_SETUP whatever their parameters: that this check comes first is the model's reading, notes/assumptions/13.md. That
*unused* of a segment above 47 is BAD_PARAM is its reading too, notes/assumptions/14.md. -/
def Obligations.SegmentAndZoneRecordsAreWritten : Prop :=
  ∀ (s : State), s.takesCommand = true →
    (s.map.device ≠ .setup → (∀ p, exec (.segmentSet p) s = .next (s.refusedWith 0x11 12 .notSetup))
      ∧ ∀ z b, exec (.zoneSet z b) s = .next (s.refusedWith 0x12 2 .notSetup))
    ∧ (s.map.device = .setup →
      (∀ p : SegmentSetParams, 48 ≤ p.segment.toNat ∨ 2 ≤ p.use.toNat →
        exec (.segmentSet p) s = .next (s.refusedWith 0x11 12 .badParam))
      ∧ (∀ p : SegmentSetParams, p.use = 1 →
        (2 ≤ p.kind.toNat ∨ (p.upStation ≠ 0xFF ∧ 32 ≤ p.upStation.toNat) ∨ (p.upExit ≠ 0xFF ∧ 3 ≤ p.upExit.toNat)
          ∨ 32 ≤ p.downStation.toNat ∨ 2 ≤ p.downPort.toNat
          ∨ (p.upStation = 0xFF ∧ p.upExit ≠ 0xFF) ∨ (p.upStation ≠ 0xFF ∧ p.upExit = 0xFF)
          ∨ (p.kind = 0 ∧ p.upStation = 0xFF) ∨ (p.kind = 1 ∧ p.upStation ≠ 0xFF)
          ∨ p.capacity = 0 ∨ 64 < p.capacity.toNat ∨ p.maxTransit = 0) →
        exec (.segmentSet p) s = .next (s.refusedWith 0x11 12 .badParam))
      ∧ (∀ (g : Segment) (p : SegmentSetParams), p.segment = byteNat g.val → p.use = 0 → exec (.segmentSet p) s = .next
        { s with
          map := { s.map with
            segments := s.map.segments.set g
              { kind := .conveyor, upstream := none, downstream := none, capacity := 1, minTransit := 0
                maxTransit := 1 } }
          port := s.portAfter 0x11 12 .ok [] })
      ∧ (∀ (g : Segment) (u : Station) (e : Exit) (d : Station) (p : Port) (r : SegmentRecord),
        r.upstream = (if r.kind = .conveyor then some (u, e) else none) → r.downstream = some (d, p) →
        1 ≤ r.capacity → r.capacity ≤ 64 → r.maxTransit ≠ 0 →
        exec (.segmentSet
            { segment := byteNat g.val, use := 1, kind := r.kind.code
              upStation := if r.kind = .conveyor then byteNat u.val else 0xFF
              upExit := if r.kind = .conveyor then byteNat e.val else 0xFF
              downStation := byteNat d.val, downPort := byteNat p.val, capacity := byteNat r.capacity
              minTransit := r.minTransit, maxTransit := r.maxTransit }) s = .next
          { s with
            map := { s.map with
              segments := s.map.segments.set g { r with minTransit := if r.kind = .staging then 0 else r.minTransit } }
            port := s.portAfter 0x11 12 .ok [] })
      ∧ (∀ z : Zone, exec (.zoneSet (byteNat z.val) 0) s = .next
          { s with map := { s.map with policies := s.map.policies.set z .suspend }, port := s.portAfter 0x12 2 .ok [] }
        ∧ exec (.zoneSet (byteNat z.val) 1) s = .next
          { s with map := { s.map with policies := s.map.policies.set z .restart }, port := s.portAfter 0x12 2 .ok [] })
      ∧ ∀ z b : Byte, 8 ≤ z.toNat ∨ 2 ≤ b.toNat → exec (.zoneSet z b) s = .next (s.refusedWith 0x12 2 .badParam))

/-- STATION_TUNE and SEGMENT_TUNE change the fields their masks name and no other, in any device state; the byte of a field kept is
not read, whatever it holds; a rise in a segment's capacity raises one room event. A new value out of its range, an OUTLET's exit or
occupancy limit, an UNUSED record, and a capacity below what the segment holds are refused. That an OUTLET given a default or
reject exit, *none* among them, is refused is the model's reading, notes/assumptions/14.md. -/
def Obligations.TunesChangeGivenFields : Prop :=
  (∀ (k : Station) (p : StationTuneParams) (s : State), s.takesCommand = true → p.station = byteNat k.val →
     let r := s.station k
     let m := p.mask
     (∀ (level : CheckLevel) (skip : Nat) (default : Exit) (reject : Option Exit),
       s.configured k = true → m.toNat < 32 →
       (m.getLsbD 0 = true → p.checkLevel = level.code) → (m.getLsbD 1 = true → p.skipLimit = byteNat skip ∧ skip ≤ 7) →
       (m.getLsbD 3 = true → p.defaultExit = byteNat default.val ∧ default.val < r.exits.length) →
       (m.getLsbD 4 = true → p.rejectExit = indexByte reject ∧ ∀ e, reject = some e → e.val < r.exits.length) →
       (r.type = .outlet → m.getLsbD 3 = false ∧ m.getLsbD 4 = false ∧ (m.getLsbD 2 = true → p.occupancyLimit = 0)) →
       exec (.stationTune p) s = .next
         { s with
           map := { s.map with
             stations := s.map.stations.set k
               { r with
                 checkLevel := if m.getLsbD 0 then level else r.checkLevel
                 skipLimit := if m.getLsbD 1 then skip else r.skipLimit
                 occupancyLimit := if m.getLsbD 2 then p.occupancyLimit else r.occupancyLimit
                 defaultExit := if m.getLsbD 3 then default else r.defaultExit
                 rejectExit := if m.getLsbD 4 then reject else r.rejectExit } }
           port := s.portAfter 0x14 8 .ok [] })
     ∧ ((s.configured k = false ∨ 32 ≤ m.toNat
         ∨ (m.getLsbD 0 = true ∧ 3 ≤ p.checkLevel.toNat) ∨ (m.getLsbD 1 = true ∧ 8 ≤ p.skipLimit.toNat)
         ∨ (m.getLsbD 3 = true ∧ r.exits.length ≤ p.defaultExit.toNat)
         ∨ (m.getLsbD 4 = true ∧ p.rejectExit ≠ 0xFF ∧ r.exits.length ≤ p.rejectExit.toNat)
         ∨ (r.type = .outlet ∧ (m.getLsbD 3 = true ∨ m.getLsbD 4 = true ∨ (m.getLsbD 2 = true ∧ p.occupancyLimit ≠ 0)))) →
       exec (.stationTune p) s = .next (s.refusedWith 0x14 8 .badParam)))
    ∧ (∀ s : State, s.takesCommand = true →
      (∀ p : StationTuneParams, 32 ≤ p.station.toNat → exec (.stationTune p) s = .next (s.refusedWith 0x14 8 .badParam))
      ∧ ∀ p : SegmentTuneParams, 48 ≤ p.segment.toNat → exec (.segmentTune p) s = .next (s.refusedWith 0x15 7 .badParam))
    ∧ (∀ (g : Segment) (m : Byte) (capacity : Nat) (low high : Ticks) (s : State), s.takesCommand = true → capacity ≤ 255 →
      let r := s.segment g
      let p : SegmentTuneParams :=
        { segment := byteNat g.val, mask := m, capacity := byteNat capacity, minTransit := low, maxTransit := high }
      let new : SegmentRecord :=
        { r with
          capacity := if m.getLsbD 0 then capacity else r.capacity
          minTransit := if m.getLsbD 1 = true ∧ r.kind = .conveyor then low else r.minTransit
          maxTransit := if m.getLsbD 2 then high else r.maxTransit }
      (r.downstream ≠ none → m.toNat < 8 →
        (m.getLsbD 0 = true → 1 ≤ capacity ∧ capacity ≤ 64 ∧ s.depth g ≤ capacity) →
        (m.getLsbD 2 = true → high ≠ 0) →
        (r.kind = .conveyor → new.minTransit.toNat ≤ new.maxTransit.toNat) →
        exec (.segmentTune p) s = .next
          { s with
            map := { s.map with segments := s.map.segments.set g new }
            tracker := { s.tracker with
              roomEvents := if r.capacity < new.capacity then s.tracker.roomEvents ++ [g] else s.tracker.roomEvents }
            port := s.portAfter 0x15 7 .ok [] })
      ∧ ((r.downstream = none ∨ 8 ≤ m.toNat
          ∨ (m.getLsbD 0 = true ∧ (capacity = 0 ∨ 64 < capacity ∨ capacity < s.depth g))
          ∨ (m.getLsbD 2 = true ∧ high = 0)
          ∨ (r.kind = .conveyor ∧ new.maxTransit.toNat < new.minTransit.toNat)) →
        exec (.segmentTune p) s = .next (s.refusedWith 0x15 7 .badParam)))

/-- STATION_READ answers 44 bytes, at the offsets of its layout table, and changes nothing else. That the kind, exit and number of an
EMPTY directive slot read 0 is the model's reading, notes/assumptions/15.md. -/
def Obligations.StationReadLayout : Prop :=
  ∀ (k : Station) (s : State), s.takesCommand = true →
    ∃ image : List Byte, exec (.stationRead (byteNat k.val)) s = .next (s.readWith 0x18 1 image)
      ∧ image.length = 44
      ∧ (let r := s.station k
        image.take 13 = [r.type.code, byteNat r.zone.val, indexByte r.port0, indexByte r.port1, indexByte r.exits[0]?,
          indexByte r.exits[1]?, indexByte r.exits[2]?, r.checkLevel.code, byteNat r.skipLimit, byteOf r.occupancyLimit 0,
          byteOf r.occupancyLimit 1, byteNat r.defaultExit.val, indexByte r.rejectExit])
      ∧ (image.drop 13).take 11 =
        (match s.custodyOf k with
          | .idle => [0, 0xFF, 0xFF, 0xFF, 0xFF, 0xFF, 0xFF, 0xFF, 0xFF, 0, 0]
          | .occupied c e _ => [1, 0xFF, 0xFF, 0xFF] ++ s.nameOf c ++ [byteNat e.val, 0xFF, 0, 0]
          | .heldDwell c _ => [2, 0, 0xFF, 0xFF] ++ s.nameOf c ++ [0xFF, 0xFF, 0, 0]
          | .heldBlocked c => [2, 1, 0xFF, 0xFF] ++ s.nameOf c ++ [0xFF, 0xFF, 0, 0]
          | .jammed c e => [3, 0xFF, 0xFF, 0xFF] ++ s.nameOf c ++ [byteNat e.val, 0xFF, 0, 0]
          | .halted .idle => [4, 0xFF, 0, 0xFF, 0xFF, 0xFF, 0xFF, 0xFF, 0xFF, 0, 0]
          | .halted (.occupied c e) => [4, 0xFF, 1, 0xFF] ++ s.nameOf c ++ [0xFF, byteNat e.val, 0, 0]
          | .halted (.heldDwell c d) => [4, 0xFF, 2, 0] ++ s.nameOf c ++ [0xFF, 0xFF, byteOf d 0, byteOf d 1]
          | .halted (.heldBlocked c) => [4, 0xFF, 2, 1] ++ s.nameOf c ++ [0xFF, 0xFF, 0, 0]
          | .halted (.jammed c e) => [4, 0xFF, 3, 0xFF] ++ s.nameOf c ++ [0xFF, byteNat e.val, 0, 0])
      ∧ (image.drop 24).take 8 =
        [(s.linkOf k).state.code, byteNat (s.untracked.get k)]
          ++ (s.outlet k).answer (if (s.station k).type = .outlet then s.inbound k else 0)
      ∧ (let l := s.linkOf k
        image[32]? = some (byteNat l.missCount)
        ∧ (image.drop 34).take 4 =
          (match l.accepted with | some a => [a.seq, a.code.code] | none => [0, 0])
            ++ (match l.acknowledgement with | some a => [a.seq, a.code.code] | none => [0, 0])
        ∧ (image.drop 38).take 4 =
          (match l.slot with
            | .empty => [0, 0, 0, 0]
            | .undelivered x => [1, x.kind.code, x.kind.exitByte, x.number]
            | .delivered x => [2, x.kind.code, x.kind.exitByte, x.number])
        ∧ image[43]? = some l.lastNumber
        ∧ image[42]? = some
          (match l.slot with | .undelivered x | .delivered x => x.answering.getD 0 | .empty => 0)
        ∧ image[33]? = some (BitVec.ofNat 8 ((if l.accepted.isSome then 1 else 0)
          + (if l.acknowledgement.isSome then 2 else 0)
          + match l.slot with | .undelivered x | .delivered x => if x.answering.isSome then 4 else 0 | .empty => 0)))

/-- SEGMENT_READ answers the record, its zone, the queue length, reserved count and waiters, head and tail; SEGMENT_LIST at most
8 carriers from a position, then the queue length; ROUTE_READ 60 bytes: slot state, bound count, the program's four items, nine
stages of five bytes, 00h in all of these for an EMPTY slot, and the classes bound to the slot as a bit field. None changes
anything else. The order of SEGMENT_LIST's items is the model's reading, notes/assumptions/15.md; the width of SEGMENT_READ's three
counts, and FFh for the head and tail of an empty queue, are its choice, notes/assumptions/26.md. -/
def Obligations.SegmentAndRouteReads : Prop :=
  (∀ (g : Segment) (s : State), s.takesCommand = true →
     let r := s.segment g
     let named (h : Option Handle) : List Byte := match h with | some h => s.nameOf h | none => [0xFF, 0xFF, 0xFF]
     exec (.segmentRead (byteNat g.val)) s = .next (s.readWith 0x19 1
       ([r.kind.code]
         ++ (match r.upstream with | some (u, e) => [byteNat u.val, byteNat e.val] | none => [0xFF, 0xFF])
         ++ (match r.downstream with | some (d, p) => [byteNat d.val, byteNat p.val] | none => [0xFF, 0xFF])
         ++ [byteNat r.capacity, byteOf r.minTransit 0, byteOf r.minTransit 1, byteOf r.maxTransit 0, byteOf r.maxTransit 1]
         ++ (match r.downstream with | some (d, _) => [byteNat (s.station d).zone.val] | none => [0xFF])
         ++ [byteNat (s.queue g).length, byteNat (s.reservedCount g), byteNat (s.waiterList g).length]
         ++ named (s.queue g).head? ++ named (s.queue g).getLast?))
     ∧ (∀ start : Byte, start.toNat ≤ 63 → exec (.segmentList (byteNat g.val) start) s = .next (s.readWith 0x1A 2
       ((((s.queue g).drop start.toNat).take 8).flatMap s.nameOf ++ [byteNat (s.queue g).length])))
     ∧ (∀ b start : Byte, 48 ≤ b.toNat ∨ 64 ≤ start.toNat →
       exec (.segmentList b start) s = .next (s.refusedWith 0x1A 2 .badParam))
     ∧ (∀ b : Byte, 48 ≤ b.toNat → exec (.segmentRead b) s = .next (s.refusedWith 0x19 1 .badParam))
     ∧ ∀ b : Byte, 32 ≤ b.toNat → exec (.stationRead b) s = .next (s.refusedWith 0x18 1 .badParam))
    ∧ (∀ (q : Slot) (s : State), s.takesCommand = true →
      ∃ image : List Byte, exec (.routeRead (byteNat q.val)) s = .next (s.readWith 0x28 1 image)
        ∧ image.length = 60
        ∧ image.take 3 = (match (s.slotOf q).state with | .empty => [0] | .draft _ => [1] | .active _ => [2] | .draining _ => [3])
          ++ leBytes 2 (BitVec.ofNat 16 (s.slotOf q).bound)
        ∧ (∀ p, (s.slotOf q).state.program? = some p →
          (image.drop 3).take 4 = [byteNat p.stageCount, indexByte p.loopBase, byteNat p.lapLimit, indexByte p.exhaustStage]
          ∧ ∀ i : StageNo, (image.drop (7 + 5 * i.val)).take 5 =
            match p.stages.get i with
            | some stage => [byteNat stage.set.val, byteNat stage.boundary.val, stage.endAction.code, byteOf stage.dwell 0,
                byteOf stage.dwell 1]
            | none => [0xFF, 0, 0, 0, 0])
        ∧ ((s.slotOf q).state = .empty → (image.drop 3).take 49 = List.replicate 49 0)
        ∧ (∃ field : BitVec 64, image.drop 52 = leBytes 8 field
          ∧ ∀ c : Sys2Proof.Class, field.getLsbD c.val = true ↔ s.routes.classes.get c = some q)
        ∧ ∀ b : Byte, 32 ≤ b.toNat → exec (.routeRead b) s = .next (s.refusedWith 0x28 1 .badParam))

/-- VALIDATION_COMPLETE: a valid line is RUNNING with answer OK; any other returns to SETUP with VALIDATION_FAILED and the report,
object, number, reason and detail, of the first check that fails in the order of R12 to R14. In no other device state does anything
happen (the model's choice, notes/assumptions/2.md). -/
def Obligations.ValidationDecidesTheDeviceState : Prop :=
  ∀ s : State,
    (s.map.device ≠ .validating → exec .validationComplete s = .next s)
    ∧ (s.map.device = .validating → s.LineValid → exec .validationComplete s = .next
      { s with
        map := { s.map with device := .running }
        port := { s.port with slot := .answered ⟨0x01, .ok, []⟩ } })
    ∧ (s.map.device = .validating → ¬ s.LineValid → ∃ object number reason detail : Byte,
      firstFails s.lineChecks [object, number, reason, detail])
    ∧ ∀ report, s.map.device = .validating → firstFails s.lineChecks report →
      exec .validationComplete s = .next
        { s with
          map := { s.map with device := .setup }
          port := { s.port with slot := .answered ⟨0x01, .validationFailed, report⟩ } }

/-- START moves SETUP to VALIDATING and STOP, with no live record, RUNNING to SETUP; FIND_EXCEPTION begins its scan at the
handle given. SCAN_EXAMINE reads one record and changes the command slot alone: a live record with an exception is the answer, any
other moves the scan to the next handle, and past handle 1023 the answer is none. With no scan in flight nothing happens (the
model's choice, notes/assumptions/2.md). -/
def Obligations.StartStopAndScan : Prop :=
  (∀ s : State, s.takesCommand = true →
     (s.map.device = .setup → exec .start s = .next
       { s with
         map := { s.map with device := .validating }
         port := { s.portIdle 3 with slot := .inFlight .validation } })
     ∧ (s.map.device ≠ .setup → exec .start s = .next (s.refusedWith 0x01 0 .notSetup))
     ∧ (s.map.device ≠ .running → exec .stop s = .next (s.refusedWith 0x02 0 .notRunning))
     ∧ (s.map.device = .running → (∃ h, (s.record h).state ≠ .free) → exec .stop s = .next (s.refusedWith 0x02 0 .inUse))
     ∧ (s.map.device = .running → (∀ h, (s.record h).state = .free) → exec .stop s = .next
       { s with map := { s.map with device := .setup }, port := s.portAfter 0x02 0 .ok [] })
     ∧ (∀ h : Handle, exec (.findException (BitVec.ofNat 16 h.val)) s = .next
       { s with port := { s.portIdle 5 with slot := .inFlight (.scan h) } })
     ∧ ∀ x : BitVec 16, 1024 ≤ x.toNat → exec (.findException x) s = .next (s.refusedWith 0x35 2 .badParam))
    ∧ (∀ s : State,
      ((∀ h, s.port.slot ≠ .inFlight (.scan h)) → exec .scanExamine s = .next s)
      ∧ ∀ h, s.port.slot = .inFlight (.scan h) →
        (∀ x, (s.record h).state ≠ .free → (s.record h).exception = some x →
          exec .scanExamine s = .next
            { s with port := { s.port with
                slot := .answered ⟨0x35, .ok, 1 :: s.carrierBytes h ++ [(s.record h).state.code, x.code]⟩ } })
        ∧ (((s.record h).state = .free ∨ (s.record h).exception = none) →
          (∀ n : Handle, n.val = h.val + 1 →
            exec .scanExamine s = .next { s with port := { s.port with slot := .inFlight (.scan n) } })
          ∧ (h.val = 1023 → exec .scanExamine s = .next
            { s with port := { s.port with slot := .answered ⟨0x35, .ok, 0 :: List.replicate 5 0xFF⟩ } })))

/-- RESET_TRACKING is refused NOT_RUNNING, then ZONE_RUNNING while a zone with a configured station runs; else it frees every
live record into its next generation, empties tags, queues, reservations, waiter lists and directive slots, leaves every
configured station HALTED IDLE, empties DRAINING slots and clears bound counts; a set loses one reference for each stage of a
DRAINING slot naming it; map, sets' entries, outlets, toggles, untracked counts, zones and the rest of each link record stay. That
the room events waiting go too is the model's choice, notes/assumptions/3.md, as is the origin a FREE record reads,
notes/assumptions/16.md. -/
def Obligations.ResetTrackingForgetsEveryCarrier : Prop :=
  ∀ s : State, s.takesCommand = true →
    (s.map.device ≠ .running → exec .resetTracking s = .next (s.refusedWith 0x03 0 .notRunning))
    ∧ (s.map.device = .running → (∃ st, s.configured st = true ∧ s.zoneHalted (s.station st).zone = false) →
      exec .resetTracking s = .next (s.refusedWith 0x03 0 .zoneRunning))
    ∧ (s.map.device = .running → (∀ st, s.configured st = true → s.zoneHalted (s.station st).zone = true) →
      ∃ t, exec .resetTracking s = .next t
        ∧ t = { s with
            carriers := t.carriers, tags := [], tracker := t.tracker, custody := t.custody
            routes := { t.routes with classes := s.routes.classes }
            link := { s.link with records := t.link.records }
            port := s.portAfter 0x03 0 .ok [] }
        ∧ (∀ h, t.record h = if (s.record h).state = .free then s.record h
            else { generation := (s.record h).generation + 1, state := .free, origin := .inducted, tag := none, cls := none
                   route := none, pendingRoute := none, location := .nowhere, lastSegment := none, window := none
                   sighting := none, flags := {}, exception := none })
        ∧ t.carriers.exceptionCount = 0
        ∧ (∀ g, t.queue g = [] ∧ t.reservedCount g = 0 ∧ t.waiterList g = []) ∧ t.tracker.roomEvents = []
        ∧ (∀ st, t.custodyOf st = if s.configured st then .halted .idle else .idle)
        ∧ (∀ st, t.linkOf st = { s.linkOf st with slot := .empty })
        ∧ (∀ q, t.slotOf q = match (s.slotOf q).state with
            | .draining _ => { state := .empty, bound := 0 }
            | state => { state, bound := 0 })
        ∧ ∀ i, t.setOf i = { s.setOf i with
            references := (s.setOf i).references - (s.routes.slots.rows.map fun r =>
              match r.state with | .draining p => p.uses i | _ => 0).sum })

/-! ### Carriers and tags -/

/-- INDUCT fills the lowest-numbered FREE record as R36 states, appends it STAGED at the tail of the staging queue with its
window, indexes its tag, and binds the slot once more; its refusals, in the order of its checks. -/
def Obligations.InductFillsARecord : Prop :=
  (∀ (k : Station) (g : Segment) (t : Tag) (c : Option Sys2Proof.Class) (q : Slot) (p : Program) (h : Handle) (s : State),
     s.takesCommand = true → s.map.device = .running → (s.station k).type = .infeed → (s.station k).port0 = some g →
     (t = 0 ∨ TagIndex.lookup t s.tags = none) → (∀ x, c = some x → s.routes.classes.get x = some q) →
     (s.slotOf q).state = .active p → (s.record h).state = .free → (∀ j < h, (s.record j).state ≠ .free) →
     h ∉ s.queue g → s.depth g < (s.segment g).capacity →
     exec (.induct ⟨byteNat k.val, t, if c.isSome then 1 else 2,
         match c with | some x => byteNat x.val | none => byteNat q.val⟩) s = .next
       { s with
         carriers := { s.carriers with
           records := s.carriers.records.set h
             { generation := (s.record h).generation, state := .staged, origin := .inducted
               tag := if t = 0 then none else some t, cls := c, route := some ⟨q, 0, 0⟩, pendingRoute := none
               location := .onSegment g, lastSegment := some g, window := some (s.appendWindow g), sighting := none
               flags := {}, exception := none } }
         tags := if t = 0 then s.tags else TagIndex.add t h s.tags
         tracker := { s.tracker with queues := s.tracker.queues.set g (s.queue g ++ [h]) }
         routes := s.routesBinding q
         port := s.portAfter 0x30 9 .ok (s.nameOf h) })
    ∧ (∀ (p : InductParams) (s : State), s.takesCommand = true →
      let refused (code : AnswerCode) : Prop := exec (.induct p) s = .next (s.refusedWith 0x30 9 code)
      (s.map.device ≠ .running → refused .notRunning)
      ∧ (s.map.device = .running →
        (32 ≤ p.station.toNat ∨ (p.selector ≠ 1 ∧ p.selector ≠ 2) ∨ (p.selector = 1 ∧ 64 ≤ p.number.toNat)
          ∨ (p.selector = 2 ∧ 32 ≤ p.number.toNat) → refused .badParam)
        ∧ ∀ k : Station, p.station = byteNat k.val →
          ((s.station k).type ≠ .infeed → refused .badParam)
          ∧ ∀ g, (s.station k).type = .infeed → (s.station k).port0 = some g →
            ∀ c : Option Sys2Proof.Class, ∀ q : Option Slot,
              (match c with
                | some x => p.selector = 1 ∧ p.number = byteNat x.val ∧ s.routes.classes.get x = q
                | none => p.selector = 2 ∧ ∃ x : Slot, p.number = byteNat x.val ∧ q = some x) →
              (p.tag ≠ 0 → (∃ h, TagIndex.lookup p.tag s.tags = some h) → refused .duplicateTag)
              ∧ ((p.tag = 0 ∨ TagIndex.lookup p.tag s.tags = none) →
                (q = none → refused .classUnbound)
                ∧ ∀ x, q = some x →
                  ((∀ program, (s.slotOf x).state ≠ .active program) → refused .routeUnavailable)
                  ∧ ∀ program, (s.slotOf x).state = .active program →
                    ((∀ h, (s.record h).state ≠ .free) → refused .full)
                    ∧ ((∃ h, (s.record h).state = .free) → (s.segment g).capacity ≤ s.depth g → refused .segmentFull))))

/-- QUERY answers the 41-byte record image of a live carrier named in its generation, at the offsets of the layout table; a
reference to a FREE record or another generation is answered NO_SUCH_CARRIER. LOOKUP_TAG answers the carrier and state a tag is
indexed to, or unknown; tag 0 is refused. Neither changes anything else. That the location number of a carrier that is nowhere reads
00h is the model's choice, notes/assumptions/25.md. -/
def Obligations.QueryAndLookupRead : Prop :=
  (∀ (s : State), s.takesCommand = true →
     (∀ h : Handle, (s.record h).state ≠ .free →
       ∃ image : List Byte, exec (.query (s.refTo h)) s = .next (s.readWith 0x31 3 image)
         ∧ image.length = 41
         ∧ (let r := s.record h
           image.take 5 = s.nameOf h ++ [r.state.code, r.origin.code]
           ∧ image[5]? = some (BitVec.ofNat 8 ((if r.tag.isSome then 1 else 0) + (if r.cls.isSome then 2 else 0)
             + (if r.route.isSome then 4 else 0) + (if r.pendingRoute.isSome then 8 else 0)
             + (if r.lastSegment.isSome then 16 else 0) + (if r.sighting.isSome then 32 else 0)
             + (if r.exception.isSome then 64 else 0) + if r.window.isSome then 128 else 0))
           ∧ (image.drop 6).take 6 = leBytes 6 (r.tag.getD 0)
           ∧ image[12]? = some (match r.cls with | some c => byteNat c.val | none => 0)
           ∧ (image.drop 13).take 3 =
             (match r.route with | some x => [byteNat x.slot.val, byteNat x.stage.val, byteNat x.laps] | none => [0, 0, 0])
           ∧ image[16]? = some (match r.pendingRoute with | some q => byteNat q.val | none => 0)
           ∧ (image.drop 17).take 2 =
             (match r.location with
               | .nowhere => [0, 0] | .onSegment g => [1, byteNat g.val] | .atStation st => [2, byteNat st.val])
           ∧ image[19]? = some (match r.lastSegment with | some g => byteNat g.val | none => 0)
           ∧ (image.drop 20).take 5 =
             (match r.sighting with | some x => byteNat x.station.val :: leBytes 4 x.time | none => [0, 0, 0, 0, 0])
           ∧ (image.drop 25).take 9 =
             (match r.window with
               | none => List.replicate 9 0
               | some (.timed e d) => 0 :: leBytes 4 e ++ leBytes 4 d
               | some (.remaining e d) => 1 :: leBytes 4 (e.setWidth 32) ++ leBytes 4 (d.setWidth 32))
           ∧ (image.drop 34).take 2 = leBytes 2 r.flags.word
           ∧ image[36]? = some (match r.exception with | some x => x.code | none => 0)
           ∧ (∀ g ahead behind, r.state.queued = true → r.location = .onSegment g → s.queue g = ahead ++ h :: behind →
             h ∉ ahead → image.drop 37 = [byteNat ahead.length, 0xFF, 0xFF, 0xFF])
           ∧ (r.state.queued = false → r.state.inCustody = false → image.drop 37 = [0xFF, 0xFF, 0xFF, 0xFF])
           ∧ ∀ k, r.state.inCustody = true → r.location = .atStation k → image.drop 37 = 0xFF ::
             (match s.custodyOf k with
               | .idle => [0, 0xFF, 0xFF]
               | .occupied _ e _ => [1, 0xFF, byteNat e.val]
               | .heldDwell _ _ => [2, 0, 0xFF]
               | .heldBlocked _ => [2, 1, 0xFF]
               | .jammed _ e => [3, 0xFF, byteNat e.val]
               | .halted .idle => [4, 0xFF, 0xFF]
               | .halted (.occupied _ e) | .halted (.jammed _ e) => [4, 0xFF, byteNat e.val]
               | .halted (.heldDwell _ _) => [4, 0, 0xFF]
               | .halted (.heldBlocked _) => [4, 1, 0xFF])))
     ∧ (∀ (h : Handle) (n : Byte), ((s.record h).state = .free ∨ n ≠ (s.record h).generation) →
       exec (.query ⟨BitVec.ofNat 16 h.val, n⟩) s = .next (s.refusedWith 0x31 3 .noSuchCarrier))
     ∧ ∀ (x : BitVec 16) (n : Byte), 1024 ≤ x.toNat → exec (.query ⟨x, n⟩) s = .next (s.refusedWith 0x31 3 .badParam))
    ∧ (∀ (t : Tag) (s : State), s.takesCommand = true →
      (t = 0 → exec (.lookupTag t) s = .next (s.refusedWith 0x32 6 .badParam))
      ∧ (∀ h, t ≠ 0 → TagIndex.lookup t s.tags = some h → exec (.lookupTag t) s = .next
        (s.readWith 0x32 6 (1 :: s.nameOf h ++ [(s.record h).state.code])))
      ∧ (t ≠ 0 → TagIndex.lookup t s.tags = none → exec (.lookupTag t) s = .next
        (s.readWith 0x32 6 [0, 0xFF, 0xFF, 0xFF, 0xFF])))

/-- REROUTE of a queued carrier binds the new slot at once, at stage 0 and laps 0, every flag but TAG_LEARNED cleared; of a
carrier in custody it stores the slot as pending. Either way a STRANGER or STRANDED exception is cleared, and the slot that was
replaced is unbound. Its refusals in order: BAD_PARAM, NO_SUCH_CARRIER, WRONG_STATE, ROUTE_UNAVAILABLE. -/
def Obligations.RerouteBindsOrPends : Prop :=
  (∀ (c : Handle) (q : Slot) (p : Program) (s : State), s.takesCommand = true → (s.slotOf q).state = .active p →
     let r := s.record c
     let mended (x : Option ExceptionKind) : Option ExceptionKind :=
       if x = some .stranger ∨ x = some .stranded then none else x
     let count := if r.exception = some .stranger ∨ r.exception = some .stranded then s.carriers.exceptionCount - 1
       else s.carriers.exceptionCount
     (r.state.queued = true → exec (.reroute (s.refTo c) (byteNat q.val)) s = .next
       { s with
         carriers :=
           { records := s.carriers.records.set c
               { r with
                 route := some ⟨q, 0, 0⟩, flags := { tagLearned := r.flags.tagLearned }, exception := mended r.exception }
             exceptionCount := count }
         routes := ((s.bindSlot q).unbindSlot? (r.route.map RouteRef.slot)).routes
         port := s.portAfter 0x33 4 .ok (s.nameOf c ++ [0]) })
     ∧ (r.state.inCustody = true → exec (.reroute (s.refTo c) (byteNat q.val)) s = .next
       { s with
         carriers :=
           { records := s.carriers.records.set c { r with pendingRoute := some q, exception := mended r.exception }
             exceptionCount := count }
         routes := ((s.bindSlot q).unbindSlot? r.pendingRoute).routes
         port := s.portAfter 0x33 4 .ok (s.nameOf c ++ [1]) }))
    ∧ (∀ (c : Handle) (s : State), s.takesCommand = true →
      (∀ (ref : CarrierRef) (b : Byte), 32 ≤ b.toNat ∨ 1024 ≤ ref.handle.toNat →
        exec (.reroute ref b) s = .next (s.refusedWith 0x33 4 .badParam))
      ∧ (∀ (q : Slot) (n : Byte), ((s.record c).state = .free ∨ n ≠ (s.record c).generation) →
        exec (.reroute ⟨BitVec.ofNat 16 c.val, n⟩ (byteNat q.val)) s = .next (s.refusedWith 0x33 4 .noSuchCarrier))
      ∧ (∀ q : Slot, ((s.record c).state = .lost ∨ (s.record c).state = .delivered) →
        exec (.reroute (s.refTo c) (byteNat q.val)) s = .next (s.refusedWith 0x33 4 .wrongState))
      ∧ ∀ q : Slot, (s.record c).state.queued = true ∨ (s.record c).state.inCustody = true →
        (∀ p, (s.slotOf q).state ≠ .active p) →
        exec (.reroute (s.refTo c) (byteNat q.val)) s = .next (s.refusedWith 0x33 4 .routeUnavailable))

/-- RETIRE frees a LOST, DELIVERED or STAGED carrier: its tag leaves the index, its slots are unbound, a held exception is
counted off, a STAGED one leaves its queue with one room event, and the record is FREE in its next generation, every other field
cleared. A carrier in any other live state is refused WRONG_STATE. That the answer carries handle.generation is the model's reading,
notes/assumptions/15.md; the origin a FREE record reads is its choice, notes/assumptions/16.md. -/
def Obligations.RetireFreesTheRecord : Prop :=
  ∀ (c : Handle) (s : State), s.takesCommand = true →
    let r := s.record c
    let u : State :=
      { s with
        carriers :=
          { records := s.carriers.records.set c
              { generation := r.generation + 1, state := .free, origin := .inducted, tag := none, cls := none
                route := none, pendingRoute := none, location := .nowhere, lastSegment := none, window := none
                sighting := none, flags := {}, exception := none }
            exceptionCount := if r.exception.isSome then s.carriers.exceptionCount - 1 else s.carriers.exceptionCount }
        tags := match r.tag with | some t => TagIndex.remove t s.tags | none => s.tags
        routes := ((s.unbindSlot? (r.route.map RouteRef.slot)).unbindSlot? r.pendingRoute).routes
        port := s.portAfter 0x34 3 .ok (s.nameOf c) }
    (r.state = .lost ∨ r.state = .delivered → exec (.retire (s.refTo c)) s = .next u)
    ∧ (∀ g, r.state = .staged → r.location = .onSegment g → exec (.retire (s.refTo c)) s = .next
      { u with
        tracker := { s.tracker with
          queues := s.tracker.queues.set g ((s.queue g).erase c), roomEvents := s.tracker.roomEvents ++ [g] } })
    ∧ (r.state = .inTransit ∨ r.state.inCustody = true →
      exec (.retire (s.refTo c)) s = .next (s.refusedWith 0x34 3 .wrongState))
    ∧ (∀ n : Byte, (r.state = .free ∨ n ≠ r.generation) →
      exec (.retire ⟨BitVec.ofNat 16 c.val, n⟩) s = .next (s.refusedWith 0x34 3 .noSuchCarrier))
    ∧ ∀ (x : BitVec 16) (n : Byte), 1024 ≤ x.toNat → exec (.retire ⟨x, n⟩) s = .next (s.refusedWith 0x34 3 .badParam)

/-! ### Queues, room and timers -/

/-- ROOM_EVENT_GRANT takes one raised room event of the segment. With no room, or no waiter that is not HALTED, nothing else
happens; a lone waiter is woken, and its fresh decision directs its occupant with a RELEASE or puts it on a waiter list again; with
room for one, the oldest waiter that is not HALTED is directed onto the segment and the others keep their places. With no room
event raised on the segment nothing happens (the model's choice, notes/assumptions/2.md); that the room events raised wait in a
list is its choice too, notes/assumptions/3.md. -/
def Obligations.GrantWakesTheWaiter : Prop :=
  (∀ (g : Segment) (s : State),
     (g ∉ s.tracker.roomEvents → exec (.roomEventGrant g) s = .next s)
     ∧ (g ∈ s.tracker.roomEvents →
       let u : State := { s with tracker := { s.tracker with roomEvents := s.tracker.roomEvents.erase g } }
       ((s.segment g).capacity ≤ s.depth g ∨ (∀ k ∈ s.waiterList g, (s.custodyOf k).isHalted = true) →
         exec (.roomEventGrant g) s = .next u)
       ∧ ∀ k c, s.waiterList g = [k] → s.custodyOf k = .heldBlocked c → s.depth g < (s.segment g).capacity →
         let v : State := { u with tracker := { u.tracker with waiters := s.tracker.waiters.set g [] } }
         let decision := s.decide k c
         (∀ e g', decision.choice = .toExit e → (s.station k).exitSegment e.val = some g' →
           exec (.roomEventGrant g) s = .next
             (v.directed k c (s.record c) decision e g' (s.linkWith k ((s.linkOf k).placed (.release e) none))))
         ∧ ∀ g', decision.choice = .blocked (some g') →
           exec (.roomEventGrant g) s = .next (v.blockedOn k c (s.record c) decision g' s.link)))
    ∧ (∀ (g : Segment) (ahead behind : List Station) (k : Station) (c : Handle) (e : Exit) (s : State),
      g ∈ s.tracker.roomEvents → s.waiterList g = ahead ++ k :: behind → k ∉ ahead →
      (∀ j ∈ ahead, (s.custodyOf j).isHalted = true) → s.custodyOf k = .heldBlocked c →
      s.depth g + 1 = (s.segment g).capacity → (s.decide k c).choice = .toExit e →
      (s.station k).exitSegment e.val = some g →
      exec (.roomEventGrant g) s = .next
        (State.directed
          { s with
            tracker := { s.tracker with
              roomEvents := s.tracker.roomEvents.erase g, waiters := s.tracker.waiters.set g (ahead ++ behind) } }
          k c (s.record c) (s.decide k c) e g (s.linkWith k ((s.linkOf k).placed (.release e) none))))

/-- TRANSIT_EXPIRY: the head of a queue whose deadline is reached, in a RUNNING zone, is removed, LOST_TIMEOUT, its last segment
kept, and one room event follows. Before the deadline, in a HALTED zone, and on an empty queue nothing happens (the model's choice,
notes/assumptions/2.md). -/
def Obligations.ReachedDeadlineLosesTheHead : Prop :=
  ∀ (g : Segment) (s : State),
    (∀ c rest e d, s.queue g = c :: rest → (s.record c).window = some (.timed e d) → s.segmentHalted g = false →
      Time.isAfter s.lineTime d = false →
      exec (.transitExpiry g) s = .next
        { s.takenFrom g rest with
          carriers :=
            { records := s.carriers.records.set c ((s.record c).lostBy .lostTimeout)
              exceptionCount := (s.record c).raised s.carriers.exceptionCount } })
    ∧ ((s.queue g = [] ∨ s.segmentHalted g = true
        ∨ ∃ c rest e d, s.queue g = c :: rest ∧ (s.record c).window = some (.timed e d) ∧ Time.isAfter s.lineTime d = true) →
      exec (.transitExpiry g) s = .next s)

/-- DWELL_EXPIRY: the reached dwell of a HELD DWELL station in a RUNNING zone ends in the fresh decision, with a RELEASE or on a
waiter list with no new directive. OCCUPANCY_EXPIRY: the reached occupancy timer of an OCCUPIED station in a RUNNING zone makes it
JAMMED, its occupant, directed exit and reservation as they were. Not reached, HALTED, or in another state nothing happens (the
model's choice, notes/assumptions/2.md). -/
def Obligations.StationTimersEndDwellsAndJam : Prop :=
  (∀ (k : Station) (s : State),
     (∀ c x, s.custodyOf k = .heldDwell c x → s.zoneHalted (s.station k).zone = false → Time.isAfter s.lineTime x = false →
       (∀ e g, (s.decide k c).choice = .toExit e → (s.station k).exitSegment e.val = some g →
         exec (.dwellExpiry k) s = .next
           (s.directed k c (s.record c) (s.decide k c) e g (s.linkWith k ((s.linkOf k).placed (.release e) none))))
       ∧ ∀ g, (s.decide k c).choice = .blocked (some g) →
         exec (.dwellExpiry k) s = .next (s.blockedOn k c (s.record c) (s.decide k c) g s.link))
     ∧ ((∀ c x, s.custodyOf k = .heldDwell c x →
         s.zoneHalted (s.station k).zone = true ∨ Time.isAfter s.lineTime x = true) → exec (.dwellExpiry k) s = .next s))
    ∧ (∀ (k : Station) (s : State),
      (∀ c e x, s.custodyOf k = .occupied c e (some x) → s.zoneHalted (s.station k).zone = false →
        Time.isAfter s.lineTime x = false →
        exec (.occupancyExpiry k) s = .next { s with custody := s.custody.set k (.jammed c e) })
      ∧ ((∀ c e x, s.custodyOf k = .occupied c e (some x) →
          s.zoneHalted (s.station k).zone = true ∨ Time.isAfter s.lineTime x = true) →
        exec (.occupancyExpiry k) s = .next s))

/-- RELEASE ends a dwell before its time by the same decision as at its end; its refusals in order. -/
def Obligations.ReleaseEndsADwell : Prop :=
  ∀ (k : Station) (s : State), s.takesCommand = true →
    (s.map.device ≠ .running → ∀ b, exec (.release b) s = .next (s.refusedWith 0x53 1 .notRunning))
    ∧ (s.map.device = .running →
      (∀ b : Byte, 32 ≤ b.toNat → exec (.release b) s = .next (s.refusedWith 0x53 1 .badParam))
      ∧ (s.configured k = false → exec (.release (byteNat k.val)) s = .next (s.refusedWith 0x53 1 .badParam))
      ∧ (s.configured k = true →
        ((s.custodyOf k).isHalted = true → exec (.release (byteNat k.val)) s = .next (s.refusedWith 0x53 1 .zoneHalted))
        ∧ (∀ c, s.custodyOf k = .heldBlocked c →
          exec (.release (byteNat k.val)) s = .next (s.refusedWith 0x53 1 .wrongState))
        ∧ ((s.custodyOf k = .idle ∨ (∃ c e x, s.custodyOf k = .occupied c e x) ∨ ∃ c e, s.custodyOf k = .jammed c e) →
          exec (.release (byteNat k.val)) s = .next (s.refusedWith 0x53 1 .notHeld))
        ∧ ∀ c x, s.custodyOf k = .heldDwell c x →
          (∀ e g, (s.decide k c).choice = .toExit e → (s.station k).exitSegment e.val = some g →
            exec (.release (byteNat k.val)) s = .next
              { s.directed k c (s.record c) (s.decide k c) e g (s.linkWith k ((s.linkOf k).placed (.release e) none)) with
                port := s.portAfter 0x53 1 .ok (s.carrierBytes c ++ [0, byteNat e.val]) })
          ∧ ∀ g, (s.decide k c).choice = .blocked (some g) →
            exec (.release (byteNat k.val)) s = .next
              { s.blockedOn k c (s.record c) (s.decide k c) g s.link with
                port := s.portAfter 0x53 1 .ok (s.carrierBytes c ++ [1, byteNat g.val]) }))

/-- PURGE_SEGMENT on a used CONVEYOR segment of a HALTED zone makes every queued carrier LOST_PURGED, empties the queue, raises
one room event where there was a carrier, and answers how many. That the count is one byte is the model's reading,
notes/assumptions/15.md. -/
def Obligations.PurgeLosesTheWholeQueue : Prop :=
  ∀ (g : Segment) (s : State), s.takesCommand = true →
    (s.map.device ≠ .running → ∀ b, exec (.purgeSegment b) s = .next (s.refusedWith 0x52 1 .notRunning))
    ∧ (s.map.device = .running →
      (∀ b : Byte, 48 ≤ b.toNat → exec (.purgeSegment b) s = .next (s.refusedWith 0x52 1 .badParam))
      ∧ ((s.segment g).downstream = none ∨ (s.segment g).kind = .staging →
        exec (.purgeSegment (byteNat g.val)) s = .next (s.refusedWith 0x52 1 .badParam))
      ∧ ∀ d x, (s.segment g).downstream = some (d, x) → (s.segment g).kind = .conveyor →
        (s.zoneHalted (s.station d).zone = false →
          exec (.purgeSegment (byteNat g.val)) s = .next (s.refusedWith 0x52 1 .zoneRunning))
        ∧ (s.zoneHalted (s.station d).zone = true → (s.queue g).Nodup →
          ∃ t, exec (.purgeSegment (byteNat g.val)) s = .next t
            ∧ t = { s with
                carriers := t.carriers
                tracker := { s.tracker with
                  queues := s.tracker.queues.set g []
                  roomEvents := if s.queue g = [] then s.tracker.roomEvents else s.tracker.roomEvents ++ [g] }
                port := s.portAfter 0x52 1 .ok [byteNat (s.queue g).length] }
            ∧ t.carriers.exceptionCount
              = s.carriers.exceptionCount + (s.queue g).countP (fun h => (s.record h).exception.isNone)
            ∧ ∀ h, t.record h = if h ∈ s.queue g then (s.record h).lostBy .lostPurged else s.record h))

/-- The window of an appended carrier: earliest now plus min transit, and as deadline the later of now plus max transit and the
pending deadline of the tail; on a suspended segment min transit, and the larger of max transit and the tail's remaining time. -/
def Obligations.AppendedWindowsNeverOvertakeTheTail : Prop :=
  ∀ (g : Segment) (s : State),
    let r := s.segment g
    let own := s.lineTime + r.maxTransit.setWidth 32
    (s.segmentSuspended g = false →
      (s.queue g = [] → s.appendWindow g = .timed (s.lineTime + r.minTransit.setWidth 32) own)
      ∧ ∀ h e d, (s.queue g).getLast? = some h → (s.record h).window = some (.timed e d) →
        s.appendWindow g = .timed (s.lineTime + r.minTransit.setWidth 32)
          (if Time.isAfter s.lineTime d = true ∧ r.maxTransit.toNat < (d - s.lineTime).toNat then d else own))
    ∧ (s.segmentSuspended g = true →
      (s.queue g = [] → s.appendWindow g = .remaining r.minTransit r.maxTransit)
      ∧ ∀ h e left, (s.queue g).getLast? = some h → (s.record h).window = some (.remaining e left) →
        s.appendWindow g = .remaining r.minTransit
          (if r.maxTransit.toNat < left.toNat then left else r.maxTransit))

/-! ### Arrivals -/

/-- An ARRIVAL on the position path at a transfer or infeed binds the head of the entry queue and takes it as the occupant:
dwell begun, directed, or blocked. Nothing else changes. So is the carrier bound by any other outcome taken, after what that outcome
removes and marks (OutcomesMarkAndRemove). -/
def Obligations.ArrivalIsTakenByPosition : Prop :=
  (∀ (k : Station) (d : Option Byte) (seq port : Byte) (tag : Tag) (g : Segment) (c : Handle) (rest : List Handle)
    (s : State), s.HandsOn k seq → s.custodyOf k = .idle → (s.station k).type ≠ .outlet → s.byPosition k tag →
    (s.station k).entrySegment port.toNat = some g → s.dueHead g c rest →
    let u := s.takenFrom g rest
    let record := (s.record c).boundAt k (some g) s.lineTime
    let l := (s.linkOf k).heard d
    let decision := u.decide k c
    (∀ ticks, s.dwellTest k c = some ticks →
      exec (.arrival (headFrom k d) seq port tag) s = .next
        { u with
          carriers := { s.carriers with
            records := s.carriers.records.set c
              { record with state := .held, location := .atStation k, flags := { record.flags with dwelt := true } } }
          custody := s.custody.set k (.heldDwell c (s.lineTime + ticks.setWidth 32))
          link := s.linkAfter k ((l.placed .hold (some seq)).accepting seq .ok) })
    ∧ (∀ e g', s.dwellTest k c = none → decision.choice = .toExit e → (s.station k).exitSegment e.val = some g' →
      exec (.arrival (headFrom k d) seq port tag) s = .next
        (u.directed k c record decision e g'
          (s.linkAfter k ((l.placed (if e = 0 then .pass else .divert e) (some seq)).accepting seq .ok))))
    ∧ ∀ g', s.dwellTest k c = none → decision.choice = .blocked (some g') →
      exec (.arrival (headFrom k d) seq port tag) s = .next
        (u.blockedOn k c record decision g' (s.linkAfter k ((l.placed .hold (some seq)).accepting seq .ok))))
  ∧ ∀ (k : Station) (d : Option Byte) (seq port : Byte) (tag : Tag) (c : Handle) (how : Binding) (s : State),
    s.HandsOn k seq → s.custodyOf k = .idle → (s.station k).type ≠ .outlet →
    s.resolve k ((s.station k).entrySegment port.toNat) tag = .bind c how →
    let u := s.applyBinding ((s.station k).entrySegment port.toNat) c how
    let record := (u.record c).boundAt k ((s.station k).entrySegment port.toNat) s.lineTime
    let l := (s.linkOf k).heard d
    let decision := u.decide k c
    (∀ ticks, u.dwellTest k c = some ticks →
      exec (.arrival (headFrom k d) seq port tag) s = .next
        { u with
          carriers := { u.carriers with
            records := u.carriers.records.set c
              { record with state := .held, location := .atStation k, flags := { record.flags with dwelt := true } } }
          custody := s.custody.set k (.heldDwell c (s.lineTime + ticks.setWidth 32))
          link := s.linkAfter k ((l.placed .hold (some seq)).accepting seq .ok) })
    ∧ (∀ e g', u.dwellTest k c = none → decision.choice = .toExit e → (s.station k).exitSegment e.val = some g' →
      exec (.arrival (headFrom k d) seq port tag) s = .next
        (u.directed k c record decision e g'
          (s.linkAfter k ((l.placed (if e = 0 then .pass else .divert e) (some seq)).accepting seq .ok))))
    ∧ ∀ g', u.dwellTest k c = none → decision.choice = .blocked (some g') →
      exec (.arrival (headFrom k d) seq port tag) s = .next
        (u.blockedOn k c record decision g' (s.linkAfter k ((l.placed .hold (some seq)).accepting seq .ok)))

/-- An ARRIVAL on the position path at an outlet is a delivery: the carrier DELIVERED, the count raised and the full flag
re-evaluated, MISDELIVERED set where the delivery is not correct, the record freed where auto-retire is on and no exception
stands, ACCEPT placed. So is the carrier bound by any other outcome delivered, after what that outcome removes and marks. -/
def Obligations.ArrivalAtAnOutletIsDelivered : Prop :=
  (∀ (k : Station) (d : Option Byte) (seq port : Byte) (tag : Tag) (g : Segment) (c : Handle) (rest : List Handle)
    (s : State), s.HandsOn k seq → s.custodyOf k = .idle → (s.station k).type = .outlet → s.byPosition k tag →
    (s.station k).entrySegment port.toNat = some g → s.dueHead g c rest →
    let record := { (s.record c).boundAt k (some g) s.lineTime with state := .delivered, location := .atStation k }
    let correct := ∃ r stage, record.route = some r ∧ s.stageOf r = some stage ∧ stage.endAction = .finish
      ∧ stage.boundary = k
    let count := min ((s.outlet k).delivered + 1) 4095
    let u : State :=
      { s.takenFrom g rest with
        outlets := s.outlets.set k { s.outlet k with delivered := count, full := (s.outlet k).capacity ≤ count }
        link := s.linkAfter k ((((s.linkOf k).heard d).placed .accept (some seq)).accepting seq .ok) }
    (¬ correct → exec (.arrival (headFrom k d) seq port tag) s = .next
      { u with
        carriers :=
          { records := s.carriers.records.set c { record with exception := some .misdelivered }
            exceptionCount := record.raised s.carriers.exceptionCount } })
    ∧ (correct → ((s.outlet k).autoRetire = false ∨ record.exception ≠ none) →
      exec (.arrival (headFrom k d) seq port tag) s = .next
        { u with carriers := { s.carriers with records := s.carriers.records.set c record } })
    ∧ (correct → (s.outlet k).autoRetire = true → record.exception = none →
      exec (.arrival (headFrom k d) seq port tag) s = .next
        (State.freeRecord { u with carriers := { s.carriers with records := s.carriers.records.set c record } } c)))
  ∧ ∀ (k : Station) (d : Option Byte) (seq port : Byte) (tag : Tag) (c : Handle) (how : Binding) (s : State),
    s.HandsOn k seq → s.custodyOf k = .idle → (s.station k).type = .outlet →
    s.resolve k ((s.station k).entrySegment port.toNat) tag = .bind c how →
    let v := s.applyBinding ((s.station k).entrySegment port.toNat) c how
    let record :=
      { (v.record c).boundAt k ((s.station k).entrySegment port.toNat) s.lineTime with
        state := .delivered, location := .atStation k }
    let correct := ∃ r stage, record.route = some r ∧ s.stageOf r = some stage ∧ stage.endAction = .finish
      ∧ stage.boundary = k
    let count := min ((s.outlet k).delivered + 1) 4095
    let u : State :=
      { v with
        outlets := s.outlets.set k { s.outlet k with delivered := count, full := (s.outlet k).capacity ≤ count }
        link := s.linkAfter k ((((s.linkOf k).heard d).placed .accept (some seq)).accepting seq .ok) }
    (¬ correct → exec (.arrival (headFrom k d) seq port tag) s = .next
      { u with
        carriers :=
          { records := v.carriers.records.set c { record with exception := some .misdelivered }
            exceptionCount := record.raised v.carriers.exceptionCount } })
    ∧ (correct → ((s.outlet k).autoRetire = false ∨ record.exception ≠ none) →
      exec (.arrival (headFrom k d) seq port tag) s = .next
        { u with carriers := { v.carriers with records := v.carriers.records.set c record } })
    ∧ (correct → (s.outlet k).autoRetire = true → record.exception = none →
      exec (.arrival (headFrom k d) seq port tag) s = .next
        (State.freeRecord { u with carriers := { v.carriers with records := v.carriers.records.set c record } } c))

/-- A stranger at a transfer or infeed gets the lowest-numbered FREE record, with the tag read, no class, no route, exception
STRANGER, and is directed or blocked by the decision of a carrier without a route. -/
def Obligations.StrangerGetsARecord : Prop :=
  ∀ (k : Station) (d : Option Byte) (seq port : Byte) (tag : Tag) (tg : Option Tag) (h : Handle) (s : State),
    s.HandsOn k seq → s.custodyOf k = .idle → (s.station k).type ≠ .outlet →
    s.resolve k ((s.station k).entrySegment port.toNat) tag = .stranger tg →
    (s.record h).state = .free → (∀ j < h, (s.record j).state ≠ .free) →
    let record : CarrierRecord :=
      { generation := (s.record h).generation, state := .atStation, origin := .stranger, tag := tg, cls := none
        route := none, pendingRoute := none, location := .atStation k
        lastSegment := (s.station k).entrySegment port.toNat, window := none, sighting := some ⟨k, s.lineTime⟩, flags := {}
        exception := some .stranger }
    let u : State :=
      { s with
        carriers := { records := s.carriers.records.set h record, exceptionCount := s.carriers.exceptionCount + 1 }
        tags := match tg with | some t => TagIndex.add t h s.tags | none => s.tags }
    let l := (s.linkOf k).heard d
    let decision := u.decide k h
    (∀ e g, decision.choice = .toExit e → (s.station k).exitSegment e.val = some g →
      exec (.arrival (headFrom k d) seq port tag) s = .next
        (u.directed k h record decision e g
          (s.linkAfter k ((l.placed (if e = 0 then .pass else .divert e) (some seq)).accepting seq .ok))))
    ∧ ∀ g, decision.choice = .blocked (some g) →
      exec (.arrival (headFrom k d) seq port tag) s = .next
        (u.blockedOn k h record decision g (s.linkAfter k ((l.placed .hold (some seq)).accepting seq .ok)))

/-- A stranger that gets no record changes the station's untracked count alone, saturating at 255, beside the answering
directive: ACCEPT at an outlet; with the table full, the reject exit, else the default exit. -/
def Obligations.UntrackedArrivalsAreCounted : Prop :=
  ∀ (k : Station) (d : Option Byte) (seq port : Byte) (tag : Tag) (tg : Option Tag) (s : State),
    s.HandsOn k seq → s.custodyOf k = .idle →
    s.resolve k ((s.station k).entrySegment port.toNat) tag = .stranger tg →
    let l := (s.linkOf k).heard d
    let after (kind : DirectiveKind) : State :=
      { s with
        untracked := s.untracked.set k (min (s.untracked.get k + 1) 255)
        link := s.linkAfter k ((l.placed kind (some seq)).accepting seq .ok) }
    ((s.station k).type = .outlet → exec (.arrival (headFrom k d) seq port tag) s = .next (after .accept))
    ∧ ((s.station k).type ≠ .outlet → (∀ h, (s.record h).state ≠ .free) →
      exec (.arrival (headFrom k d) seq port tag) s = .next
        (after (match (s.station k).rejectExit with
          | some e => if e = 0 then .pass else .divert e
          | none => if (s.station k).defaultExit = 0 then .pass else .divert (s.station k).defaultExit)))

/-- Which outcome settles an arrival: by position at level OFF and for a LENIENT arrival without a tag, a stranger for a
STRICT one without a tag, else by what the Tag Index holds and where the carrier is. An unknown tag read at a tagged head, at a head
before its earliest time or at an empty queue makes a stranger given the tag. At a port with no entry segment no carrier is bound by
position, skip or extraction. -/
def Obligations.TagPathOutcomes : Prop :=
  ∀ (k : Station) (g : Segment) (t : Tag) (s : State),
    (∀ c rest, s.byPosition k t → s.dueHead g c rest → s.resolve k (some g) t = .bind c .position)
    ∧ (s.byPosition k t → (s.queue g = [] ∨ ∃ c rest e x, s.queue g = c :: rest ∧ (s.record c).window = some (.timed e x)
        ∧ Time.isAfter s.lineTime e = true) → s.resolve k (some g) t = .stranger none)
    ∧ ((s.station k).checkLevel = .strict → t = 0 → s.resolve k (some g) t = .stranger none)
    ∧ ((s.station k).checkLevel ≠ .off → t ≠ 0 →
      (TagIndex.lookup t s.tags = none →
        (∀ c rest, s.dueHead g c rest → (s.record c).tag = none → s.resolve k (some g) t = .bind c (.tagLearning t))
        ∧ (∀ c rest, s.queue g = c :: rest → (s.record c).tag ≠ none → s.resolve k (some g) t = .stranger (some t))
        ∧ (∀ c rest e d, s.queue g = c :: rest → (s.record c).window = some (.timed e d) → Time.isAfter s.lineTime e = true →
          s.resolve k (some g) t = .stranger (some t))
        ∧ (s.queue g = [] → s.resolve k (some g) t = .stranger (some t)))
      ∧ ∀ x, TagIndex.lookup t s.tags = some x →
        (∀ ahead behind, s.queue g = ahead ++ x :: behind → x ∉ ahead → (s.record x).state.queued = true →
          s.resolve k (some g) t =
            if ahead = [] then .bind x .tagMatch
            else if ahead.length ≤ (s.station k).skipLimit then .bind x (.skip ahead.length) else .bind x .extraction)
        ∧ ((s.record x).state.queued = true → x ∉ s.queue g → s.resolve k (some g) t = .bind x .misrouteTake)
        ∧ ((s.record x).state = .lost →
          s.resolve k (some g) t =
            if (s.record x).lastSegment = some g then .bind x .lateRecovery else .bind x .misrouteTake)
        ∧ ((s.record x).state.inCustody = true ∨ (s.record x).state = .delivered →
          s.resolve k (some g) t = .stranger none))
    ∧ (s.byPosition k t ∨ ((s.station k).checkLevel = .strict ∧ t = 0) → s.resolve k none t = .stranger none)
    ∧ ((s.station k).checkLevel ≠ .off → t ≠ 0 →
      (TagIndex.lookup t s.tags = none → s.resolve k none t = .stranger (some t))
      ∧ ∀ x, TagIndex.lookup t s.tags = some x →
        ((s.record x).state.queued = true ∨ (s.record x).state = .lost → s.resolve k none t = .bind x .misrouteTake)
        ∧ ((s.record x).state.inCustody = true ∨ (s.record x).state = .delivered → s.resolve k none t = .stranger none))

/-- What each outcome removes and marks before the carrier is bound: an early tag match is marked EARLY; a learned tag enters
the record and the index; a skip makes every carrier ahead LOST_SKIPPED; an extraction is marked OVERTOOK; a late recovery LATE
and a misroute take MISROUTED, each with its exception cleared; each removal raises one room event. -/
def Obligations.OutcomesMarkAndRemove : Prop :=
  ∀ (c : Handle) (s : State),
    (∀ g behind, s.queue g = c :: behind →
      s.applyBinding (some g) c .tagMatch = State.takenFrom
        { s with
          carriers := { s.carriers with
            records := s.carriers.records.set c
              { s.record c with flags := { (s.record c).flags with early := (s.record c).flags.early || s.early c } } } }
        g behind)
    ∧ (∀ g behind t, s.queue g = c :: behind →
      s.applyBinding (some g) c (.tagLearning t) = State.takenFrom
        { s with
          carriers := { s.carriers with
            records := s.carriers.records.set c
              { s.record c with tag := some t, flags := { (s.record c).flags with tagLearned := true } } }
          tags := TagIndex.add t c s.tags } g behind)
    ∧ (∀ g ahead behind, s.queue g = ahead ++ c :: behind → c ∉ ahead →
      s.applyBinding (some g) c .extraction = State.takenFrom
        { s with
          carriers := { s.carriers with
            records := s.carriers.records.set c
              { s.record c with
                flags := { (s.record c).flags with early := (s.record c).flags.early || s.early c, overtook := true } } } }
        g (ahead ++ behind))
    ∧ (∀ g ahead behind, s.queue g = ahead ++ c :: behind → (s.queue g).Nodup →
      ∃ t : State, s.applyBinding (some g) c (.skip ahead.length) = State.takenFrom { s with carriers := t.carriers } g behind
        ∧ t.carriers.exceptionCount
          = s.carriers.exceptionCount + ahead.countP (fun h => (s.record h).exception.isNone)
        ∧ ∀ h, t.record h =
          if h ∈ ahead then (s.record h).lostBy .lostSkipped
          else if h = c then
            { s.record c with flags := { (s.record c).flags with early := (s.record c).flags.early || s.early c } }
          else s.record h)
    ∧ (∀ g, s.applyBinding g c .lateRecovery =
      { s with
        carriers :=
          { records := s.carriers.records.set c
              { s.record c with exception := none, flags := { (s.record c).flags with late := true } }
            exceptionCount := if (s.record c).exception.isSome then s.carriers.exceptionCount - 1
              else s.carriers.exceptionCount } })
    ∧ (∀ g, s.applyBinding g c .misrouteTake =
      { (match (s.record c).location with | .onSegment g' => s.takenFrom g' ((s.queue g').erase c) | _ => s) with
        carriers :=
          { records := s.carriers.records.set c
              { s.record c with exception := none, flags := { (s.record c).flags with misrouted := true } }
            exceptionCount := if (s.record c).exception.isSome then s.carriers.exceptionCount - 1
              else s.carriers.exceptionCount } })

/-! ### Clears and jams -/

/-- A CLEAR by the directed exit: the reservation becomes the carrier at the tail of that exit's segment, IN_TRANSIT with its
window, after the stage transition; the station IDLE, an undelivered directive withdrawn, no room event, no flag. -/
def Obligations.ClearByTheDirectedExit : Prop :=
  ∀ (k : Station) (d : Option Byte) (seq : Byte) (c : Handle) (e : Exit) (g : Segment) (s : State),
    s.HandsOn k seq → (s.custodyOf k = .jammed c e ∨ ∃ x, s.custodyOf k = .occupied c e x) →
    (s.station k).exitSegment e.val = some g → 0 < s.reservedCount g → s.depth g ≤ (s.segment g).capacity →
    let v := s.stageTransition k (byteNat e.val) c
    exec (.clear (headFrom k d) seq (byteNat e.val)) s = .next
      { s with
        carriers := { v.carriers with
          records := v.carriers.records.set c
            { v.record c with
              state := .inTransit, location := .onSegment g, lastSegment := some g
              window := some (s.appendWindow g) } }
        routes := v.routes
        tracker := { s.tracker with
          queues := s.tracker.queues.set g (s.queue g ++ [c])
          reserved := s.tracker.reserved.set g (s.reservedCount g - 1) }
        custody := s.custody.set k .idle
        link := s.linkAfter k (((s.linkOf k).heard d).withdrawn.accepting seq .ok) }

/-- A CLEAR by another exit than the directed one: the reservation is released with its room event, the carrier is marked
DEVIATED and goes to the exit's segment where that has room, else it is LOST_DEVIATED there. -/
def Obligations.ClearByAnotherExit : Prop :=
  ∀ (k : Station) (d : Option Byte) (seq b : Byte) (c : Handle) (e : Exit) (g : Segment) (s : State),
    s.HandsOn k seq → (s.custodyOf k = .jammed c e ∨ ∃ x, s.custodyOf k = .occupied c e x) → b.toNat ≠ e.val →
    (s.station k).exitSegment e.val = some g →
    let u := s.modRecord c fun r => { r with flags := { r.flags with deviated := true } }
    let v := u.stageTransition k b c
    let lostAt (g' : Option Segment) : CarrierTable :=
      { records := v.carriers.records.set c { (v.record c).lostBy .lostDeviated with lastSegment := g' }
        exceptionCount := (v.record c).raised v.carriers.exceptionCount }
    let t : State :=
      { s with
        routes := v.routes
        tracker := { s.tracker with
          reserved := s.tracker.reserved.set g (s.reservedCount g - 1), roomEvents := s.tracker.roomEvents ++ [g] }
        custody := s.custody.set k .idle
        link := s.linkAfter k (((s.linkOf k).heard d).withdrawn.accepting seq .ok) }
    (∀ g', (s.station k).exitSegment b.toNat = some g' → g' ≠ g → s.depth g' < (s.segment g').capacity →
      exec (.clear (headFrom k d) seq b) s = .next
        { t with
          carriers := { v.carriers with
            records := v.carriers.records.set c
              { v.record c with
                state := .inTransit, location := .onSegment g', lastSegment := some g'
                window := some (s.appendWindow g') } }
          tracker := { t.tracker with queues := s.tracker.queues.set g' (s.queue g' ++ [c]) } })
    ∧ (∀ g', (s.station k).exitSegment b.toNat = some g' → g' ≠ g → (s.segment g').capacity ≤ s.depth g' →
      exec (.clear (headFrom k d) seq b) s = .next { t with carriers := lostAt (some g') })
    ∧ ((s.station k).exitSegment b.toNat = none →
      exec (.clear (headFrom k d) seq b) s = .next { t with carriers := lostAt none })

/-- A CLEAR of a held carrier: marked DEVIATED whatever the exit, no reservation released and no room event; a blocked station
leaves its waiter list; then as any clear, to the exit's segment or LOST_DEVIATED. -/
def Obligations.ClearOfAHeldCarrier : Prop :=
  ∀ (k : Station) (d : Option Byte) (seq b : Byte) (c : Handle) (s : State),
    s.HandsOn k seq → (s.custodyOf k = .heldBlocked c ∨ ∃ x, s.custodyOf k = .heldDwell c x) →
    let u := s.modRecord c fun r => { r with flags := { r.flags with deviated := true } }
    let v := u.stageTransition k b c
    let lostAt (g' : Option Segment) : CarrierTable :=
      { records := v.carriers.records.set c { (v.record c).lostBy .lostDeviated with lastSegment := g' }
        exceptionCount := (v.record c).raised v.carriers.exceptionCount }
    let t : State :=
      { s with
        routes := v.routes
        tracker := { s.tracker with
          waiters := if s.custodyOf k = .heldBlocked c then s.tracker.waiters.mapRows fun _ w => w.filter (· ≠ k)
            else s.tracker.waiters }
        custody := s.custody.set k .idle
        link := s.linkAfter k (((s.linkOf k).heard d).withdrawn.accepting seq .ok) }
    (∀ g', (s.station k).exitSegment b.toNat = some g' → s.depth g' < (s.segment g').capacity →
      exec (.clear (headFrom k d) seq b) s = .next
        { t with
          carriers := { v.carriers with
            records := v.carriers.records.set c
              { v.record c with
                state := .inTransit, location := .onSegment g', lastSegment := some g'
                window := some (s.appendWindow g') } }
          tracker := { t.tracker with queues := s.tracker.queues.set g' (s.queue g' ++ [c]) } })
    ∧ (∀ g', (s.station k).exitSegment b.toNat = some g' → (s.segment g').capacity ≤ s.depth g' →
      exec (.clear (headFrom k d) seq b) s = .next { t with carriers := lostAt (some g') })
    ∧ ((s.station k).exitSegment b.toNat = none →
      exec (.clear (headFrom k d) seq b) s = .next { t with carriers := lostAt none })

/-- CLEAR_JAM *remove*: the reservation released with its room event, a pending route unbound, the carrier LOST_JAM, the station
IDLE and its undelivered directive withdrawn. By the directed exit the carrier goes on as a CLEAR by that exit does, and by another
exit as a CLEAR by another exit does: DEVIATED, the reservation released with its room event, moved on where there is room, else
LOST_DEVIATED. The answer names the carrier and the state it is in. The refusals. -/
def Obligations.ClearJamRemovesOrSendsOn : Prop :=
  (∀ (k : Station) (c : Handle) (e : Exit) (g : Segment) (s : State), s.takesCommand = true → s.map.device = .running →
     s.configured k = true → s.custodyOf k = .jammed c e → (s.station k).exitSegment e.val = some g →
     exec (.clearJam (byteNat k.val) 0xFF) s = .next
       { s with
         carriers :=
           { records := s.carriers.records.set c { (s.record c).lostBy .lostJam with pendingRoute := none }
             exceptionCount := (s.record c).raised s.carriers.exceptionCount }
         routes := (s.unbindSlot? (s.record c).pendingRoute).routes
         tracker := { s.tracker with
           reserved := s.tracker.reserved.set g (s.reservedCount g - 1), roomEvents := s.tracker.roomEvents ++ [g] }
         custody := s.custody.set k .idle
         link := s.linkWith k (s.linkOf k).withdrawn
         port := s.portAfter 0x54 2 .ok (s.nameOf c ++ [5]) })
    ∧ (∀ (k : Station) (s : State), s.takesCommand = true →
      (∀ (c : Handle) (e : Exit) (g : Segment), s.map.device = .running → s.configured k = true →
        s.custodyOf k = .jammed c e → (s.station k).exitSegment e.val = some g → 0 < s.reservedCount g →
        s.depth g ≤ (s.segment g).capacity →
        let v := s.stageTransition k (byteNat e.val) c
        exec (.clearJam (byteNat k.val) (byteNat e.val)) s = .next
          { s with
            carriers := { v.carriers with
              records := v.carriers.records.set c
                { v.record c with
                  state := .inTransit, location := .onSegment g, lastSegment := some g
                  window := some (s.appendWindow g) } }
            routes := v.routes
            tracker := { s.tracker with
              queues := s.tracker.queues.set g (s.queue g ++ [c])
              reserved := s.tracker.reserved.set g (s.reservedCount g - 1) }
            custody := s.custody.set k .idle
            link := s.linkWith k (s.linkOf k).withdrawn
            port := s.portAfter 0x54 2 .ok (s.nameOf c ++ [2]) })
      ∧ (∀ (c : Handle) (e b : Exit) (g g' : Segment), s.map.device = .running → s.configured k = true →
        s.custodyOf k = .jammed c e → b ≠ e → (s.station k).exitSegment e.val = some g →
        (s.station k).exitSegment b.val = some g' → g' ≠ g →
        let u := s.modRecord c fun r => { r with flags := { r.flags with deviated := true } }
        let v := u.stageTransition k (byteNat b.val) c
        let t (answered : CarrierState) : State :=
          { s with
            routes := v.routes
            tracker := { s.tracker with
              reserved := s.tracker.reserved.set g (s.reservedCount g - 1), roomEvents := s.tracker.roomEvents ++ [g] }
            custody := s.custody.set k .idle
            link := s.linkWith k (s.linkOf k).withdrawn
            port := s.portAfter 0x54 2 .ok (s.nameOf c ++ [answered.code]) }
        (s.depth g' < (s.segment g').capacity →
          exec (.clearJam (byteNat k.val) (byteNat b.val)) s = .next
            { t .inTransit with
              carriers := { v.carriers with
                records := v.carriers.records.set c
                  { v.record c with
                    state := .inTransit, location := .onSegment g', lastSegment := some g'
                    window := some (s.appendWindow g') } }
              tracker := { (t .inTransit).tracker with queues := s.tracker.queues.set g' (s.queue g' ++ [c]) } })
        ∧ ((s.segment g').capacity ≤ s.depth g' →
          exec (.clearJam (byteNat k.val) (byteNat b.val)) s = .next
            { t .lost with
              carriers :=
                { records := v.carriers.records.set c { (v.record c).lostBy .lostDeviated with lastSegment := some g' }
                  exceptionCount := (v.record c).raised v.carriers.exceptionCount } }))
      ∧ (s.map.device ≠ .running → ∀ st e, exec (.clearJam st e) s = .next (s.refusedWith 0x54 2 .notRunning))
      ∧ (s.map.device = .running →
        (∀ st e : Byte, 32 ≤ st.toNat → exec (.clearJam st e) s = .next (s.refusedWith 0x54 2 .badParam))
        ∧ (∀ e : Byte, s.configured k = false ∨ (e ≠ 0xFF ∧ (s.station k).exits.length ≤ e.toNat) →
          exec (.clearJam (byteNat k.val) e) s = .next (s.refusedWith 0x54 2 .badParam))
        ∧ ∀ e : Byte, s.configured k = true → (e = 0xFF ∨ e.toNat < (s.station k).exits.length) →
          ((s.custodyOf k).isHalted = true →
            exec (.clearJam (byteNat k.val) e) s = .next (s.refusedWith 0x54 2 .zoneHalted))
          ∧ ((s.custodyOf k).isHalted = false → (∀ c d, s.custodyOf k ≠ .jammed c d) →
            exec (.clearJam (byteNat k.val) e) s = .next (s.refusedWith 0x54 2 .wrongState))))

/-! ### Decisions and the Route Store -/

/-- A decision directs a carrier only to an exit whose segment has room and does not lead to a closed, full or committed
outlet; the preferred exit is the route's entry, a BALANCE entry's viable and shallower exit with the toggle settling a tie, else
exit 0 or, without a route, the default exit; an unavailable preferred exit sets MISSED and turns to exit 0. -/
def Obligations.DecisionsChooseAvailableExits : Prop :=
  ∀ (k : Station) (c : Handle) (s : State),
    let r := s.station k
    let committed (g : Segment) : Prop := ∃ st p, (s.segment g).downstream = some (st, p) ∧ (s.station st).type = .outlet
      ∧ ((s.outlet st).closed = true ∨ (s.outlet st).full = true
        ∨ (s.outlet st).capacity ≤ (s.outlet st).delivered + s.depth g)
    (∀ e, (s.decide k c).choice = .toExit e →
      ∃ g, r.exitSegment e.val = some g ∧ s.depth g < (s.segment g).capacity ∧ ¬ committed g)
    ∧ (r.exits.length = 1 → s.preferredExit k c = ⟨0, false⟩)
    ∧ (r.exits.length ≠ 1 → (s.record c).route = none → s.preferredExit k c = ⟨r.defaultExit, false⟩)
    ∧ (∀ x stage, r.exits.length ≠ 1 → (s.record c).route = some x → s.stageOf x = some stage →
      (∀ a, (s.setOf stage.set).entryFor k = some (.fixed a) → s.preferredExit k c = ⟨a, false⟩)
      ∧ ((s.setOf stage.set).entryFor k = none → s.preferredExit k c = ⟨0, false⟩)
      ∧ ∀ a b ga gb, (s.setOf stage.set).entryFor k = some (.balance a b) → r.exitSegment a.val = some ga →
        r.exitSegment b.val = some gb →
        (committed gb → s.preferredExit k c = ⟨a, false⟩)
        ∧ (committed ga → ¬ committed gb → s.preferredExit k c = ⟨b, false⟩)
        ∧ (¬ committed ga → ¬ committed gb →
          (s.depth ga < s.depth gb → s.preferredExit k c = ⟨a, false⟩)
          ∧ (s.depth gb < s.depth ga → s.preferredExit k c = ⟨b, false⟩)
          ∧ (s.depth ga = s.depth gb → s.preferredExit k c = ⟨if s.toggles.get k then b else a, true⟩)))
    ∧ ∀ g, r.exitSegment (s.preferredExit k c).exit.val = some g →
      (¬ committed g → s.decide k c =
        ⟨if s.depth g < (s.segment g).capacity then .toExit (s.preferredExit k c).exit else .blocked (some g), false,
          (s.preferredExit k c).flips⟩)
      ∧ (committed g → ∀ g0, r.exitSegment 0 = some g0 →
        ((s.preferredExit k c).exit = 0 ∨ committed g0 →
          s.decide k c = ⟨.blocked (some g0), true, (s.preferredExit k c).flips⟩)
        ∧ ((s.preferredExit k c).exit ≠ 0 → ¬ committed g0 →
          s.decide k c = ⟨if s.depth g0 < (s.segment g0).capacity then .toExit 0 else .blocked (some g0), true,
            (s.preferredExit k c).flips⟩))

/-- The stage transition of a clear: a pending route is applied; an ADVANCE boundary raises the stage; a LOOP boundary, and a
FINISH missed at its approach, counts a lap to the loop base, at the lap limit sets EXHAUSTED and goes to the exhaust stage, or
strands the carrier; anything else leaves the state as it is. -/
def Obligations.StageTransitionsFollowTheProgram : Prop :=
  ∀ (k : Station) (b : Byte) (c : Handle) (s : State),
    let r := s.record c
    let t := s.stageTransition k b c
    let moved (x : CarrierRecord) : State :=
      { s with carriers := { s.carriers with records := s.carriers.records.set c x } }
    let stranded (exhausted : Bool) : State :=
      { s with
        carriers :=
          { records := s.carriers.records.set c
              { r with
                route := none, exception := some .stranded, flags := { r.flags with dwelt := false, exhausted } }
            exceptionCount := r.raised s.carriers.exceptionCount }
        routes := (s.unbindSlot? (r.route.map RouteRef.slot)).routes }
    (∀ q, r.pendingRoute = some q → t =
      { moved { r with
          route := some ⟨q, 0, 0⟩, pendingRoute := none, flags := { tagLearned := r.flags.tagLearned } } with
        routes := (s.unbindSlot? (r.route.map RouteRef.slot)).routes })
    ∧ (r.pendingRoute = none → r.route = none → t = s)
    ∧ ∀ x p stage, r.pendingRoute = none → r.route = some x → s.programOf x.slot = some p →
      p.stages.get x.stage = some stage →
      let looped : Prop := r.flags.exhausted = false ∧ p.loopBase ≠ none
      let laps : Prop :=
        (r.flags.exhausted = true → t = stranded true)
        ∧ (∀ base, r.flags.exhausted = false → p.loopBase = some base →
          (x.laps + 1 < p.lapLimit →
            t = moved { r with route := some ⟨x.slot, base, x.laps + 1⟩, flags := { r.flags with dwelt := false } })
          ∧ (p.lapLimit = x.laps + 1 →
            (∀ last, p.exhaustStage = some last → t = moved { r with
              route := some ⟨x.slot, last, x.laps + 1⟩, flags := { r.flags with dwelt := false, exhausted := true } })
            ∧ (p.exhaustStage = none → t = stranded true)))
      (stage.endAction = .advance → stage.boundary = k → ∀ n : StageNo, n.val = x.stage.val + 1 →
        t = moved { r with route := some ⟨x.slot, n, x.laps⟩, flags := { r.flags with dwelt := false } })
      ∧ (stage.endAction = .loop → stage.boundary = k → looped ∨ r.flags.exhausted = true → laps)
      ∧ (stage.endAction ≠ .finish → stage.boundary ≠ k → t = s)
      ∧ ∀ g ast ae, stage.endAction = .finish → (s.station stage.boundary).port0 = some g →
        (s.segment g).upstream = some (ast, ae) →
        (ast ≠ k ∨ b.toNat = ae.val → t = s)
        ∧ (ast = k → b.toNat ≠ ae.val → (p.loopBase = none → t = stranded r.flags.exhausted) ∧ laps)

/-- DECISION_WRITE replaces a set's entries, its reference count kept; a referenced set is refused IN_USE; more than eight
entries, an entry out of range, two entries for one station or a BALANCE of one exit are refused BAD_PARAM. The exit b of a FIXED
entry is not read, nor are the places past the count. DECISION_READ answers the entries in ascending station order, then the
reference count: that layout, four bytes an entry with exit b of a FIXED entry FFh, is the model's reading,
notes/assumptions/15.md. -/
def Obligations.DecisionSetsAreWrittenAndRead : Prop :=
  ∀ (i : SetNo) (s : State), s.takesCommand = true →
    (∀ (entries : List DecisionEntry) (written rest : List EntryPlace),
      List.Forall₂ DecisionEntry.spelledBy entries written →
      written.length + rest.length = 8 → (entries.map DecisionEntry.station).Nodup →
      (∀ e a b, e ∈ entries → e.preference = .balance a b → a ≠ b) →
      let write := Instr.decisionWrite (byteNat i.val) (byteNat entries.length) (written ++ rest)
      ((s.setOf i).references = 0 → exec write s = .next
        { s with
          routes := { s.routes with sets := s.routes.sets.set i { entries, references := 0 } }
          port := s.portAfter 0x20 34 .ok [] })
      ∧ (0 < (s.setOf i).references → exec write s = .next (s.refusedWith 0x20 34 .inUse)))
    ∧ (∀ (b n : Byte) (places : List EntryPlace), places.length = 8 →
      (64 ≤ b.toNat ∨ 8 < n.toNat ∨ ¬ ((places.take n.toNat).map EntryPlace.station).Nodup
        ∨ (∃ p ∈ places.take n.toNat, 32 ≤ p.station.toNat ∨ 3 ≤ p.exitA.toNat
        ∨ (p.kind ≠ 1 ∧ p.kind ≠ 2) ∨ (p.kind = 2 ∧ (3 ≤ p.exitB.toNat ∨ p.exitA = p.exitB)))) →
      exec (.decisionWrite b n places) s = .next (s.refusedWith 0x20 34 .badParam))
    ∧ (∀ entries : List DecisionEntry, entries.Perm (s.setOf i).entries →
      entries.Pairwise (fun x y => x.station < y.station) →
      exec (.decisionRead (byteNat i.val)) s = .next (s.readWith 0x21 1
        (entries.flatMap (fun e => [e.place.station, e.place.kind, e.place.exitA, e.place.exitB])
          ++ leBytes 2 (BitVec.ofNat 16 (s.setOf i).references))))
    ∧ ∀ b : Byte, 64 ≤ b.toNat → exec (.decisionRead b) s = .next (s.refusedWith 0x21 1 .badParam)

/-- ROUTE_OPEN makes an EMPTY slot a DRAFT with the cleared program; ROUTE_DISCARD empties a DRAFT; ROUTE_STAGE writes one stage
of a DRAFT's program, below the stage count or not; ROUTE_PARAMS replaces its four items, its stages kept. Slots in other states
are refused WRONG_STATE, and parameters out of range BAD_PARAM. -/
def Obligations.DraftsAreWritten : Prop :=
  (∀ (q : Slot) (s : State), s.takesCommand = true →
     ((s.slotOf q).state = .empty → exec (.routeOpen (byteNat q.val)) s = .next
       { s with
         routes := { s.routes with
           slots := s.routes.slots.set q
             { state := .draft
                 { stageCount := 1, stages := Table.fill _ none, loopBase := none, lapLimit := 1, exhaustStage := none }
               bound := (s.slotOf q).bound } }
         port := s.portAfter 0x22 1 .ok [] })
     ∧ ((s.slotOf q).state ≠ .empty → exec (.routeOpen (byteNat q.val)) s = .next (s.refusedWith 0x22 1 .wrongState))
     ∧ (∀ p, (s.slotOf q).state = .draft p → exec (.routeDiscard (byteNat q.val)) s = .next
       { s with
         routes := { s.routes with slots := s.routes.slots.set q { state := .empty, bound := (s.slotOf q).bound } }
         port := s.portAfter 0x27 1 .ok [] })
     ∧ ((∀ p, (s.slotOf q).state ≠ .draft p) →
       exec (.routeDiscard (byteNat q.val)) s = .next (s.refusedWith 0x27 1 .wrongState))
     ∧ ∀ b : Byte, 32 ≤ b.toNat →
       exec (.routeOpen b) s = .next (s.refusedWith 0x22 1 .badParam)
       ∧ exec (.routeDiscard b) s = .next (s.refusedWith 0x27 1 .badParam))
    ∧ (∀ (q : Slot) (k : StageNo) (stage : Stage) (s : State), s.takesCommand = true →
      let p : RouteStageParams :=
        { slot := byteNat q.val, stage := byteNat k.val, set := byteNat stage.set.val, boundary := byteNat stage.boundary.val
          endAction := stage.endAction.code, dwell := stage.dwell }
      (∀ program, (s.slotOf q).state = .draft program → exec (.routeStage p) s = .next
        { s with
          routes := { s.routes with
            slots := s.routes.slots.set q
              { state := .draft { program with stages := program.stages.set k (some stage) }
                bound := (s.slotOf q).bound } }
          port := s.portAfter 0x23 7 .ok [] })
      ∧ ((∀ program, (s.slotOf q).state ≠ .draft program) →
        exec (.routeStage p) s = .next (s.refusedWith 0x23 7 .wrongState))
      ∧ ∀ p' : RouteStageParams, (32 ≤ p'.slot.toNat ∨ 9 ≤ p'.stage.toNat ∨ 64 ≤ p'.set.toNat ∨ 32 ≤ p'.boundary.toNat
          ∨ 3 ≤ p'.endAction.toNat) →
        exec (.routeStage p') s = .next (s.refusedWith 0x23 7 .badParam))
    ∧ (∀ (q : Slot) (n laps : Nat) (base exhaust : Option StageNo) (s : State), s.takesCommand = true →
      1 ≤ n → n ≤ 9 → 1 ≤ laps → laps ≤ 255 → (∀ k, base = some k → k.val < n) → (∀ k, exhaust = some k → k.val < n) →
      let p : RouteParamsParams := ⟨byteNat q.val, byteNat n, indexByte base, byteNat laps, indexByte exhaust⟩
      (∀ program, (s.slotOf q).state = .draft program → exec (.routeParams p) s = .next
        { s with
          routes := { s.routes with
            slots := s.routes.slots.set q
              { state := .draft
                  { stageCount := n, stages := program.stages, loopBase := base, lapLimit := laps, exhaustStage := exhaust }
                bound := (s.slotOf q).bound } }
          port := s.portAfter 0x24 5 .ok [] })
      ∧ ((∀ program, (s.slotOf q).state ≠ .draft program) →
        exec (.routeParams p) s = .next (s.refusedWith 0x24 5 .wrongState))
      ∧ ∀ p' : RouteParamsParams, (32 ≤ p'.slot.toNat ∨ p'.stageCount = 0 ∨ 9 < p'.stageCount.toNat ∨ p'.lapLimit = 0
          ∨ (p'.loopBase ≠ 0xFF ∧ p'.stageCount.toNat ≤ p'.loopBase.toNat)
          ∨ (p'.exhaustStage ≠ 0xFF ∧ p'.stageCount.toNat ≤ p'.exhaustStage.toNat)) →
        exec (.routeParams p') s = .next (s.refusedWith 0x24 5 .badParam))

/-- ROUTE_ACTIVATE makes a DRAFT whose stages all pass ACTIVE, bound to no carrier, and adds a reference to a set for each stage
naming it; the lowest failing stage is reported with the reason of the first check it fails, in the order unwritten, boundary, entry,
end action, boundary type, loop base, and the DRAFT stays. -/
def Obligations.ActivationChecksEveryStage : Prop :=
  ∀ (q : Slot) (s : State), s.takesCommand = true →
    (∀ p, (s.slotOf q).state = .draft p →
      ((∀ k : StageNo, k.val < p.stageCount → s.StageValid p k) →
        ∃ t, exec (.routeActivate (byteNat q.val)) s = .next t
          ∧ t = { s with
              routes := { s.routes with
                slots := s.routes.slots.set q { state := .active p, bound := 0 }
                sets := t.routes.sets }
              port := s.portAfter 0x25 1 .ok [] }
          ∧ ∀ i, t.setOf i = { s.setOf i with references := (s.setOf i).references + p.uses i })
      ∧ ∀ k : StageNo, k.val < p.stageCount → ¬ s.StageValid p k → (∀ j < k, s.StageValid p j) →
        (∃ reason, firstFails (s.stageChecks p k) reason)
        ∧ ∀ reason, firstFails (s.stageChecks p k) reason → exec (.routeActivate (byteNat q.val)) s = .next
          { s with port := s.portAfter 0x25 1 .validationFailed [3, byteNat q.val, reason, byteNat k.val] })
    ∧ ((∀ p, (s.slotOf q).state ≠ .draft p) →
      exec (.routeActivate (byteNat q.val)) s = .next (s.refusedWith 0x25 1 .wrongState))
    ∧ ∀ b : Byte, 32 ≤ b.toNat → exec (.routeActivate b) s = .next (s.refusedWith 0x25 1 .badParam)

/-- ROUTE_WITHDRAW empties an ACTIVE slot bound to no carrier and releases its references, and makes one bound to carriers
DRAINING; a slot a class is bound to is refused CLASS_REFERENCED, one not ACTIVE WRONG_STATE. CLASS_BIND binds a class to an ACTIVE
slot or unbinds it; a slot that is not ACTIVE is refused ROUTE_UNAVAILABLE. -/
def Obligations.WithdrawalsAndClassBindings : Prop :=
  (∀ (q : Slot) (s : State), s.takesCommand = true →
     (∀ p, (s.slotOf q).state = .active p →
       ((∃ c, s.routes.classes.get c = some q) →
         exec (.routeWithdraw (byteNat q.val)) s = .next (s.refusedWith 0x26 1 .classReferenced))
       ∧ ((∀ c, s.routes.classes.get c ≠ some q) →
         ((s.slotOf q).bound = 0 →
           ∃ t, exec (.routeWithdraw (byteNat q.val)) s = .next t
             ∧ t = { s with
                 routes := { s.routes with
                   slots := s.routes.slots.set q { state := .empty, bound := 0 }
                   sets := t.routes.sets }
                 port := s.portAfter 0x26 1 .ok [0, 0xFF, 0xFF] }
             ∧ ∀ i, t.setOf i = { s.setOf i with references := (s.setOf i).references - p.uses i })
         ∧ (0 < (s.slotOf q).bound → exec (.routeWithdraw (byteNat q.val)) s = .next
           { s with
             routes := { s.routes with
               slots := s.routes.slots.set q { state := .draining p, bound := (s.slotOf q).bound } }
             port := s.portAfter 0x26 1 .ok (1 :: leBytes 2 (BitVec.ofNat 16 (s.slotOf q).bound)) })))
     ∧ ((∀ p, (s.slotOf q).state ≠ .active p) →
       exec (.routeWithdraw (byteNat q.val)) s = .next (s.refusedWith 0x26 1 .wrongState))
     ∧ ∀ b : Byte, 32 ≤ b.toNat → exec (.routeWithdraw b) s = .next (s.refusedWith 0x26 1 .badParam))
    ∧ (∀ (c : Sys2Proof.Class) (s : State), s.takesCommand = true →
      let bound (x : Option Slot) : State :=
        { s with
          routes := { s.routes with classes := s.routes.classes.set c x }, port := s.portAfter 0x29 2 .ok [] }
      exec (.classBind (byteNat c.val) 0xFF) s = .next (bound none)
      ∧ (∀ (q : Slot) p, (s.slotOf q).state = .active p →
        exec (.classBind (byteNat c.val) (byteNat q.val)) s = .next (bound (some q)))
      ∧ (∀ q : Slot, (∀ p, (s.slotOf q).state ≠ .active p) →
        exec (.classBind (byteNat c.val) (byteNat q.val)) s = .next (s.refusedWith 0x29 2 .routeUnavailable))
      ∧ ∀ b q : Byte, (64 ≤ b.toNat ∨ (32 ≤ q.toNat ∧ q ≠ 0xFF)) →
        exec (.classBind b q) s = .next (s.refusedWith 0x29 2 .badParam))

/-- Binding a slot once less lowers its bound count; a DRAINING slot reaching 0 is EMPTY and gives up its stages' references.
Binding once more raises it. No other slot changes. -/
def Obligations.BoundCountsAndDraining : Prop :=
  ∀ (q : Slot) (s : State),
    s.bindSlot q = { s with routes := s.routesBinding q }
    ∧ ((∀ p, (s.slotOf q).state ≠ .draining p) ∨ 1 < (s.slotOf q).bound →
      s.unbindSlot q = { s with routes := { s.routes with
        slots := s.routes.slots.set q { s.slotOf q with bound := (s.slotOf q).bound - 1 } } })
    ∧ (∀ p, (s.slotOf q).state = .draining p → (s.slotOf q).bound ≤ 1 →
      ∃ t, s.unbindSlot q = { s with routes := { s.routes with
          slots := s.routes.slots.set q { state := .empty, bound := 0 }, sets := t.routes.sets } }
        ∧ t = s.unbindSlot q ∧ ∀ i, t.setOf i = { s.setOf i with references := (s.setOf i).references - p.uses i })

/-! ### Outlets -/

/-- OUTLET_CLOSE closes an outlet and raises no room event; OUTLET_OPEN opens it and OUTLET_EMPTIED clears its count and full
flag, each with one room event on its entry segment. OUTLET_SET writes the fields its mask names and re-evaluates the full flag; a
capacity below delivered plus inbound is refused, as is an undefined auto-retire value; the bytes of a field kept are not read. Each
answers the account; all four refuse a station that is no OUTLET. The auto-retire values, 0 off and 1 on, are the model's choice,
notes/assumptions/24.md. -/
def Obligations.OutletCommandsKeepTheAccount : Prop :=
  (∀ (k : Station) (g : Segment) (s : State), s.takesCommand = true → (s.station k).type = .outlet →
     (s.station k).port0 = some g →
     let a := s.outlet k
     let raised : SegmentTracker := { s.tracker with roomEvents := s.tracker.roomEvents ++ [g] }
     exec (.outletClose (byteNat k.val)) s = .next
       { s with
         outlets := s.outlets.set k { a with closed := true }
         port := s.portAfter 0x55 1 .ok ({ a with closed := true }.answer (s.depth g)) }
     ∧ exec (.outletOpen (byteNat k.val)) s = .next
       { s with
         outlets := s.outlets.set k { a with closed := false }, tracker := raised
         port := s.portAfter 0x56 1 .ok ({ a with closed := false }.answer (s.depth g)) }
     ∧ exec (.outletEmptied (byteNat k.val)) s = .next
       { s with
         outlets := s.outlets.set k { a with delivered := 0, full := false }, tracker := raised
         port := s.portAfter 0x57 1 .ok
           ({ a with delivered := 0, full := false }.answer (s.depth g) ++ leBytes 2 (BitVec.ofNat 16 a.delivered)) })
    ∧ (∀ (s : State), s.takesCommand = true →
      (∀ (k : Station) (g : Segment) (m : Byte) (n : Nat) (auto : Byte), (s.station k).type = .outlet →
        (s.station k).port0 = some g → n < 65536 →
        let a := s.outlet k
        let p : OutletSetParams := ⟨byteNat k.val, m, BitVec.ofNat 16 n, auto⟩
        let capacity := if m.getLsbD 0 then n else a.capacity
        let new : OutletAccount :=
          { a with
            capacity, autoRetire := if m.getLsbD 1 then auto == 1 else a.autoRetire, full := capacity ≤ a.delivered }
        (m.toNat < 4 → (m.getLsbD 0 = true → 1 ≤ n ∧ n ≤ 4095 ∧ a.delivered + s.depth g ≤ n) →
          (m.getLsbD 1 = true → auto = 0 ∨ auto = 1) →
          exec (.outletSet p) s = .next
            { s with outlets := s.outlets.set k new, port := s.portAfter 0x16 5 .ok (new.answer (s.depth g)) })
        ∧ ((4 ≤ m.toNat ∨ (m.getLsbD 0 = true ∧ (n = 0 ∨ 4095 < n ∨ n < a.delivered + s.depth g))
            ∨ (m.getLsbD 1 = true ∧ 2 ≤ auto.toNat)) →
          exec (.outletSet p) s = .next (s.refusedWith 0x16 5 .badParam)))
      ∧ ∀ b : Byte, (∀ k : Station, b.toNat = k.val → (s.station k).type ≠ .outlet) →
        exec (.outletClose b) s = .next (s.refusedWith 0x55 1 .badParam)
        ∧ exec (.outletOpen b) s = .next (s.refusedWith 0x56 1 .badParam)
        ∧ exec (.outletEmptied b) s = .next (s.refusedWith 0x57 1 .badParam)
        ∧ ∀ m c auto, exec (.outletSet ⟨b, m, c, auto⟩) s = .next (s.refusedWith 0x16 5 .badParam))

/-! ### Zones -/

/-- HALT adds HOST to the zone's causes and answers its state and causes. HALT_INPUT_ASSERTED: two samples agreeing on asserted set
the line's latch in every zone of its mask. HALT_MAP replaces a line's mask in SETUP; where the input is asserted its latch is set
at once in every zone added. In each, the zones that were RUNNING enter HALTED in the same event. That bit z of HALT_MAP's mask byte
stands for zone z is the model's choice, notes/assumptions/23.md; that HALT_MAP checks the device state first is its reading,
notes/assumptions/13.md. -/
def Obligations.ZonesEnterHalted : Prop :=
  (∀ s : State, s.takesCommand = true →
     (∀ b : Byte, 8 ≤ b.toNat → exec (.halt b) s = .next (s.refusedWith 0x50 1 .badParam))
     ∧ ∀ z : Zone, ∃ t, exec (.halt (byteNat z.val)) s = .next t
         ∧ t = { s with
             zones := { s.zones with
               causes := s.zones.causes.set z { host := true, lines := (s.zones.causes.get z).lines } }
             custody := t.custody
             carriers := { s.carriers with records := t.carriers.records }
             port := s.portAfter 0x50 1 .ok [1, BitVec.ofNat 8 (1 + 2 * (s.zones.causes.get z).lines.toNat)] }
         ∧ s.EntersHalted t fun y => y = z ∧ s.zoneHalted z = false)
    ∧ (∀ (n : HaltLine) (s : State), s.zones.levels.getLsbD n.val = false →
      s.zones.lastSample.getLsbD n.val = true → s.zones.priorSample.getLsbD n.val = true →
      ∃ t, exec (.haltInputAsserted n) s = .next t
        ∧ t = { s with
            zones := { s.zones with causes := t.zones.causes, levels := s.zones.levels ||| (1#4 <<< n.val) }
            custody := t.custody
            carriers := { s.carriers with records := t.carriers.records } }
        ∧ (∀ z : Zone, t.zones.causes.get z =
            if (s.map.haltMap.get n).getLsbD z.val then
              { host := (s.zones.causes.get z).host, lines := (s.zones.causes.get z).lines ||| (1#4 <<< n.val) }
            else s.zones.causes.get z)
        ∧ s.EntersHalted t fun z => (s.map.haltMap.get n).getLsbD z.val = true ∧ s.zoneHalted z = false)
    ∧ (∀ (n : HaltLine) (mask : Byte) (s : State), s.takesCommand = true →
      let u : State :=
        { s with map := { s.map with haltMap := s.map.haltMap.set n mask }, port := s.portAfter 0x13 2 .ok [] }
      (s.map.device ≠ .setup → exec (.haltMap (byteNat n.val) mask) s = .next (s.refusedWith 0x13 2 .notSetup))
      ∧ (s.map.device = .setup →
        (∀ b : Byte, 4 ≤ b.toNat → exec (.haltMap b mask) s = .next (s.refusedWith 0x13 2 .badParam))
        ∧ (s.zones.levels.getLsbD n.val = false → exec (.haltMap (byteNat n.val) mask) s = .next u)
        ∧ (s.zones.levels.getLsbD n.val = true →
          ∃ t, exec (.haltMap (byteNat n.val) mask) s = .next t
            ∧ t = { u with
                zones := { s.zones with causes := t.zones.causes }
                custody := t.custody
                carriers := { s.carriers with records := t.carriers.records } }
            ∧ (∀ z : Zone, t.zones.causes.get z =
                if mask.getLsbD z.val = true ∧ (s.map.haltMap.get n).getLsbD z.val = false then
                  { host := (s.zones.causes.get z).host, lines := (s.zones.causes.get z).lines ||| (1#4 <<< n.val) }
                else s.zones.causes.get z)
            ∧ s.EntersHalted t fun z =>
                mask.getLsbD z.val = true ∧ (s.map.haltMap.get n).getLsbD z.val = false ∧ s.zoneHalted z = false)))

/-- RESUME: a zone above 7 is refused BAD_PARAM, and a zone with an asserted input LINE_ACTIVE with the lowest such input; else
every cause of the zone is made absent, a HALTED zone's stations and windows are restored in the same event, and one room event is
raised on each segment a restored HELD BLOCKED station waits on. A RUNNING zone is left as it is. -/
def Obligations.ResumeRestoresTheZone : Prop :=
  ∀ (z : Zone) (s : State), s.takesCommand = true → s.QueueLaw →
    (∀ b : Byte, 8 ≤ b.toNat → exec (.resume b) s = .next (s.refusedWith 0x51 1 .badParam))
    ∧ (∀ n, s.lineHolds z n → (∀ m < n, ¬ s.lineHolds z m) →
      exec (.resume (byteNat z.val)) s = .next { s with port := s.portAfter 0x51 1 .lineActive [byteNat n.val] })
    ∧ ((∀ n, ¬ s.lineHolds z n) → s.zoneHalted z = false →
      exec (.resume (byteNat z.val)) s = .next { s with port := s.portAfter 0x51 1 .ok [0, 0] })
    ∧ ((∀ n, ¬ s.lineHolds z n) → s.zoneHalted z = true →
      ∃ t events, exec (.resume (byteNat z.val)) s = .next t
        ∧ t = { s with
            zones := { s.zones with causes := s.zones.causes.set z { host := false, lines := 0 } }
            custody := t.custody
            carriers := { s.carriers with records := t.carriers.records }
            link := { s.link with records := t.link.records }
            tracker := { s.tracker with roomEvents := s.tracker.roomEvents ++ events }
            port := s.portAfter 0x51 1 .ok [0, 0] }
        ∧ s.LeavesHalted t z
        ∧ events.Nodup ∧ ∀ g, g ∈ events ↔ ∃ st ∈ s.waiterList g, s.savedBlocked z st)

/-! ### The Station Link -/

/-- POLL_SENT goes to the next configured station of the round, with the frame R170 and R201 give; one poll is outstanding at
a time, and with no station configured the link is idle. That the first round begins at the lowest station, none having been polled,
is the model's choice, notes/assumptions/10.md; that the round goes on where it was after no station was configured is its reading,
notes/assumptions/11.md; a poll without its conditions changes nothing by its choice, notes/assumptions/2.md, and so is the next
station chosen as its poll is sent, notes/assumptions/27.md. -/
def Obligations.PollGoesRoundRobin : Prop :=
  (∀ (k : Station) (s : State), s.link.outstanding = none → s.nextInRound k →
    ∃ body : List Byte, body = [byteNat (0x80 + k.val),
          (match (s.linkOf k).acknowledgement with | some a => a.seq | none => 0),
          (match (s.linkOf k).acknowledgement with | some a => a.code.code | none => 0xFF)]
        ++ (match (s.linkOf k).slot with
          | .undelivered ⟨.pass, n, _⟩ => [1, 0, n]
          | .undelivered ⟨.divert e, n, _⟩ => [2, byteNat e.val, n]
          | .undelivered ⟨.hold, n, _⟩ => [3, 0, n]
          | .undelivered ⟨.release e, n, _⟩ => [4, byteNat e.val, n]
          | .undelivered ⟨.accept, n, _⟩ => [5, 0, n]
          | _ => [0, 0, 0])
      ∧ exec .pollSent s = .next
          { s with
            link := { s.link with lastPolled := some k, outstanding := some k, pollFrame := body ++ [crc8 body] } })
    ∧ ∀ s : State, (s.link.outstanding ≠ none ∨ ∀ k, s.configured k = false) → exec .pollSent s = .next s

/-- REPLY_WINDOW_CLOSED counts one miss, to 3, and at 3 the station is DOWN. A valid answer with no report ends the transaction:
miss count 0, the station UP, its accepted sequence cleared where it was DOWN, and the directive it names marked delivered. A window's
close with no poll outstanding changes nothing (the model's choice, notes/assumptions/2.md); that a miss is counted also for a station
made UNUSED meanwhile is the model's reading, notes/assumptions/12.md. -/
def Obligations.TransactionsEnd : Prop :=
  ((∀ (k : Station) (s : State), s.link.outstanding = some k → exec .replyWindowClosed s = .next
       { s with
         link := s.linkAfter k { s.linkOf k with
           missCount := min ((s.linkOf k).missCount + 1) 3
           state := if 3 ≤ (s.linkOf k).missCount + 1 then .down else (s.linkOf k).state } })
     ∧ ∀ s : State, s.link.outstanding = none → exec .replyWindowClosed s = .next s)
    ∧ (∀ (k : Station) (d : Option Byte) (s : State), s.link.outstanding = some k →
      exec (.answer (headFrom k d)) s = .next
        { s with
          link := s.linkAfter k
            (if s.configured k = true then (s.linkOf k).heard d
              else { s.linkOf k with slot := ((s.linkOf k).heard d).slot }) })

/-- A frame that arrives with no poll outstanding, or is not 12 bytes, or fails its check byte, or names another station, or
carries report kind 3, is discarded whole. That the poll then stays outstanding, no miss counted until its window closes, is the
model's reading, notes/assumptions/9.md. -/
def Obligations.InvalidAnswersAreDiscarded : Prop :=
  ∀ (bytes : List Byte) (s : State),
    (∀ k, s.link.outstanding = some k →
      bytes.length ≠ 12 ∨ bytes.getLast? ≠ some (crc8 bytes.dropLast) ∨ bytes.head? ≠ some (byteNat k.val)
        ∨ (bytes[1]?.map fun b => b.extractLsb' 1 2) = some 3#2) →
    exec (.answerDiscarded bytes) s = .next s

/-- A report that is refused, a duplicate, and a CLEAR that finds no occupant touch the station's link record alone. -/
def Obligations.ReportsNotActedOnTouchOnlyTheLink : Prop :=
  ∀ (k : Station) (d : Option Byte) (seq b : Byte) (tag : Tag) (s : State), s.link.outstanding = some k →
    ∀ i, (i = .arrival (headFrom k d) seq b tag ∨ i = .clear (headFrom k d) seq b) →
      let l := (s.linkOf k).heard d
      (s.configured k = false → exec i s = .next
        { s with
          link := s.linkAfter k
            { s.linkOf k with slot := l.slot, acknowledgement := some ⟨seq, .unknownStation⟩ } })
      ∧ (∀ code, s.configured k = true → l.accepted = some ⟨seq, code⟩ → exec i s = .next
        { s with
          link := s.linkAfter k
            { l with
              acknowledgement := some ⟨seq, code⟩
              slot := match l.slot with
                | .delivered x => if x.answering = some seq then .undelivered x else .delivered x
                | slot => slot } })
      ∧ (s.configured k = true → (∀ a, l.accepted = some a → a.seq ≠ seq) →
        (s.map.device ≠ .running → exec i s = .next
          { s with link := s.linkAfter k { l with acknowledgement := some ⟨seq, .notRunning⟩ } })
        ∧ (s.map.device = .running → (s.custodyOf k).isHalted = true → exec i s = .next
          { s with link := s.linkAfter k { l with acknowledgement := some ⟨seq, .halted⟩ } })
        ∧ (s.map.device = .running → (s.custodyOf k).isHalted = false → s.custodyOf k ≠ .idle →
          i = .arrival (headFrom k d) seq b tag → exec i s = .next
          { s with link := s.linkAfter k { l with acknowledgement := some ⟨seq, .stationBusy⟩ } })
        ∧ (s.map.device = .running → s.custodyOf k = .idle → i = .clear (headFrom k d) seq b → exec i s = .next
          { s with link := s.linkAfter k (l.accepting seq .noOccupant) }))

/-! ### The laws of the device -/

/-- Every law of the device that the model keeps as an invariant holds right after a reset. -/
def Obligations.LawsHoldAtReset : Prop :=
  State.reset.PlaceLaws ∧ State.reset.FreeLaw ∧ State.reset.TagLaw ∧ State.reset.ExceptionLaw
    ∧ State.reset.ReservationLaw ∧ State.reset.CapacityLaw ∧ State.reset.BoundLaw ∧ State.reset.ReferenceLaw
    ∧ State.reset.StandingLaws ∧ State.reset.RouteLaw ∧ State.reset.ValidLaw ∧ State.reset.WaiterLaw ∧ State.reset.WindowLaw

/-- Every step keeps Laws 1, 2 and 12 together: a carrier is in one queue exactly while STAGED or IN_TRANSIT, in the custody of
one station exactly while AT_STATION or HELD, and FREE outside RUNNING. -/
def Obligations.StepsKeepPlaceLaws : Prop :=
  ∀ s t : State, s.PlaceLaws → step s = .next t → t.PlaceLaws

/-- Every step keeps what the Carrier Table and the Tag Index say of each other: a FREE record holds nothing but its generation,
the index holds exactly the tags of live records (Law 3), and the exception count counts the live records with an exception. -/
def Obligations.StepsKeepRecordLaws : Prop :=
  ∀ s t : State, s.FreeLaw ∧ s.TagLaw ∧ s.ExceptionLaw → step s = .next t → t.FreeLaw ∧ t.TagLaw ∧ t.ExceptionLaw

/-- Every step keeps room: with the carriers in their places, a segment's reserved count stays the number of stations directed
onto it (Law 6), and its queue and reservations never exceed its capacity (Law 4). With the laws of its route store and its map, a
station stands on exactly one waiter list, once, exactly while it is HELD BLOCKED or saved so (Law 11). With the laws of its map,
deadlines and remaining times never decrease along a queue (Law 5), as long as no queued deadline lies 65536 ticks ahead: one so
written lies at most 65535 ahead, so such a deadline was left untaken until line time came round to it. -/
def Obligations.StepsKeepRoomLaws : Prop :=
  (∀ s t : State, s.PlaceLaws ∧ s.ReservationLaw ∧ s.CapacityLaw → step s = .next t →
     t.PlaceLaws ∧ t.ReservationLaw ∧ t.CapacityLaw)
    ∧ (∀ s t : State, s.PlaceLaws → s.FreeLaw → s.BoundLaw → s.RouteLaw → s.ValidLaw → s.StandingLaws → s.WaiterLaw →
      step s = .next t → t.WaiterLaw)
    ∧ ∀ s t : State, s.PlaceLaws → s.ValidLaw → s.StandingLaws → s.WindowLaw →
      (∀ g, ∀ h ∈ s.queue g, ∀ e d, (s.record h).window = some (.timed e d) → d ≠ s.lineTime + 65536) →
      step s = .next t → t.WindowLaw

/-- Every step keeps the Route Store's counts: a slot's bound count is the number of times live records name it, and a class is
bound to ACTIVE slots only (Law 7); a set's reference count is the number of stages of ACTIVE and DRAINING slots naming it
(Law 8); a routed carrier's slot is ACTIVE or DRAINING, its stage below the stage count and its laps within the lap limit (Law 9). -/
def Obligations.StepsKeepRouteStoreLaws : Prop :=
  (∀ s t : State, s.FreeLaw ∧ s.BoundLaw → step s = .next t → t.FreeLaw ∧ t.BoundLaw)
    ∧ (∀ s t : State, s.ReferenceLaw → step s = .next t → t.ReferenceLaw)
    ∧ ∀ s t : State, s.FreeLaw → s.BoundLaw → s.RouteLaw → step s = .next t → t.RouteLaw

/-- Every step keeps the standing laws: a configured station is HALTED exactly while its zone is and an OUTLET has no occupant;
outlet accounts, link records, records of the map, decision sets and untracked counts stay in their ranges; while a transaction is
open the slot stays FREE where it was, and a response waiting stays. With Law 8, while the device is RUNNING the line passes every
check of START's validation. -/
def Obligations.StepsKeepStandingLaws : Prop :=
  (∀ s t : State, s.StandingLaws → step s = .next t → t.StandingLaws)
    ∧ ∀ s t : State, s.ReferenceLaw → s.ValidLaw → step s = .next t → t.ValidLaw
end

