-- ==== Sys2Proof/Laws/Table.lean ====
section
/-! SUPPORT. Reading a table after each of its updates. -/

namespace Sys2Proof

variable {n : Nat} {α β : Type}

theorem Table.get_eq_getElem (t : Table n α) (i : Fin n) :
    t.get i = t.rows[i.val]'(by rw [t.full]; exact i.isLt) := rfl

@[simp] theorem Table.get_fill (x : α) (i : Fin n) : (Table.fill n x).get i = x := by
  simp [Table.get_eq_getElem, Table.fill]

theorem Table.get_set (t : Table n α) (i j : Fin n) (x : α) : (t.set i x).get j = if i = j then x else t.get j := by
  simp only [Table.get_eq_getElem, Table.set, List.getElem_set, Fin.ext_iff]

@[simp] theorem Table.get_set_self (t : Table n α) (i : Fin n) (x : α) : (t.set i x).get i = x := by
  rw [Table.get_set, if_pos rfl]

theorem Table.get_set_ne (t : Table n α) {i j : Fin n} (h : i ≠ j) (x : α) : (t.set i x).get j = t.get j := by
  rw [Table.get_set, if_neg h]

theorem Table.get_modify (t : Table n α) (i j : Fin n) (f : α → α) :
    (t.modify i f).get j = if i = j then f (t.get j) else t.get j := by
  rw [Table.modify, Table.get_set]
  split
  · next h => rw [h]
  · rfl

@[simp] theorem Table.get_mapRows (t : Table n α) (f : Fin n → α → β) (i : Fin n) :
    (t.mapRows f).get i = f i (t.get i) := by
  simp [Table.get_eq_getElem, Table.mapRows]

/-- Two tables that read alike are the same. -/
theorem Table.ext_get {t u : Table n α} (h : ∀ i, t.get i = u.get i) : t = u := by
  obtain ⟨rows, full⟩ := t
  obtain ⟨rows', full'⟩ := u
  have : rows = rows' := by
    apply List.ext_getElem (by rw [full, full'])
    intro i h1 h2
    exact h ⟨i, by rw [← full]; exact h1⟩
  subst this
  rfl

theorem Table.set_get_self (t : Table n α) (i : Fin n) : t.set i (t.get i) = t := by
  apply Table.ext_get
  intro j
  rw [Table.get_set]
  split
  · next h => rw [h]
  · rfl

/-- A record is among the rows exactly where some index reads it. -/
theorem Table.mem_rows (t : Table n α) (x : α) : x ∈ t.rows ↔ ∃ i, t.get i = x := by
  constructor
  · intro h
    obtain ⟨i, hi, rfl⟩ := List.getElem_of_mem h
    exact ⟨⟨i, by rw [← t.full]; exact hi⟩, rfl⟩
  · rintro ⟨i, rfl⟩
    exact List.getElem_mem _

theorem Table.any_rows (t : Table n α) (p : α → Bool) : t.rows.any p = true ↔ ∃ i, p (t.get i) = true := by
  rw [List.any_eq_true]
  constructor
  · rintro ⟨x, hx, hp⟩
    obtain ⟨i, rfl⟩ := (t.mem_rows x).mp hx
    exact ⟨i, hp⟩
  · rintro ⟨i, hp⟩
    exact ⟨_, (t.mem_rows _).mpr ⟨i, rfl⟩, hp⟩

/-- What `first?` finds passes the test, and nothing below it does. -/
theorem Table.first?_some (t : Table n α) (p : α → Bool) {i : Fin n} (h : t.first? p = some i) :
    p (t.get i) = true ∧ ∀ j < i, p (t.get j) = false := by
  have hlen : ((List.finRange n).zip t.rows).length = n := by simp [t.full]
  rw [Table.first?, List.findSome?_eq_some_iff] at h
  obtain ⟨before, x, after, hsplit, hx, hb⟩ := h
  have hx' : p x.2 = true ∧ x.1 = i := by
    cases hp : p x.2 <;> simp_all
  have at_pos : ∀ k (hk : k < n), ((List.finRange n).zip t.rows)[k]'(by rw [hlen]; exact hk) = (⟨k, hk⟩, t.get ⟨k, hk⟩) := by
    intro k hk
    simp [Table.get_eq_getElem]
  have hbl : before.length < n := by
    have := congrArg List.length hsplit
    rw [hlen] at this
    simp at this
    omega
  have hxe : x = (⟨before.length, hbl⟩, t.get ⟨before.length, hbl⟩) := by
    rw [← at_pos _ hbl]
    simp [hsplit]
  have hi : i = ⟨before.length, hbl⟩ := by rw [← hx'.2, hxe]
  refine ⟨?_, ?_⟩
  · rw [hi]; have := hx'.1; rwa [hxe] at this
  · intro j hj
    have hjl : j.val < before.length := by rw [hi] at hj; exact hj
    have hmem : (j, t.get j) ∈ before := by
      have := at_pos j.val j.isLt
      have h2 : before[j.val] = (j, t.get j) := by
        rw [← this]; simp only [hsplit]; rw [List.getElem_append_left hjl]
      rw [← h2]; exact List.getElem_mem _
    have := hb _ hmem
    cases hp : p (t.get j) <;> simp_all

/-- Where `first?` finds nothing, nothing passes the test. -/
theorem Table.first?_none (t : Table n α) (p : α → Bool) (h : t.first? p = none) : ∀ i, p (t.get i) = false := by
  intro i
  rw [Table.first?, List.findSome?_eq_none_iff] at h
  have hmem : (i, t.get i) ∈ (List.finRange n).zip t.rows := by
    rw [List.mem_iff_getElem]
    refine ⟨i.val, by simp [t.full], ?_⟩
    simp [Table.get_eq_getElem]
  have := h _ hmem
  cases hp : p (t.get i) <;> simp_all

end Sys2Proof
end

