-- ==== Sys2Proof/Laws/State.lean ====
section
/-! SUPPORT. Every field of State after every primitive update: true by rfl, for simp. Then what each reader reads after
the update of its own table. -/

namespace Sys2Proof.Machine

variable (s : State)

/-! ### withMap -/

@[simp] theorem State.withMap_lineTime (m : LineMap) : (s.withMap m).lineTime = s.lineTime := rfl
@[simp] theorem State.withMap_map (m : LineMap) : (s.withMap m).map = m := rfl
@[simp] theorem State.withMap_carriers (m : LineMap) : (s.withMap m).carriers = s.carriers := rfl
@[simp] theorem State.withMap_tags (m : LineMap) : (s.withMap m).tags = s.tags := rfl
@[simp] theorem State.withMap_tracker (m : LineMap) : (s.withMap m).tracker = s.tracker := rfl
@[simp] theorem State.withMap_untracked (m : LineMap) : (s.withMap m).untracked = s.untracked := rfl
@[simp] theorem State.withMap_custody (m : LineMap) : (s.withMap m).custody = s.custody := rfl
@[simp] theorem State.withMap_routes (m : LineMap) : (s.withMap m).routes = s.routes := rfl
@[simp] theorem State.withMap_toggles (m : LineMap) : (s.withMap m).toggles = s.toggles := rfl
@[simp] theorem State.withMap_outlets (m : LineMap) : (s.withMap m).outlets = s.outlets := rfl
@[simp] theorem State.withMap_zones (m : LineMap) : (s.withMap m).zones = s.zones := rfl
@[simp] theorem State.withMap_link (m : LineMap) : (s.withMap m).link = s.link := rfl
@[simp] theorem State.withMap_port (m : LineMap) : (s.withMap m).port = s.port := rfl
@[simp] theorem State.withMap_pending (m : LineMap) : (s.withMap m).pending = s.pending := rfl

/-! ### withCarriers -/

@[simp] theorem State.withCarriers_lineTime (c : CarrierTable) : (s.withCarriers c).lineTime = s.lineTime := rfl
@[simp] theorem State.withCarriers_map (c : CarrierTable) : (s.withCarriers c).map = s.map := rfl
@[simp] theorem State.withCarriers_carriers (c : CarrierTable) : (s.withCarriers c).carriers = c := rfl
@[simp] theorem State.withCarriers_tags (c : CarrierTable) : (s.withCarriers c).tags = s.tags := rfl
@[simp] theorem State.withCarriers_tracker (c : CarrierTable) : (s.withCarriers c).tracker = s.tracker := rfl
@[simp] theorem State.withCarriers_untracked (c : CarrierTable) : (s.withCarriers c).untracked = s.untracked := rfl
@[simp] theorem State.withCarriers_custody (c : CarrierTable) : (s.withCarriers c).custody = s.custody := rfl
@[simp] theorem State.withCarriers_routes (c : CarrierTable) : (s.withCarriers c).routes = s.routes := rfl
@[simp] theorem State.withCarriers_toggles (c : CarrierTable) : (s.withCarriers c).toggles = s.toggles := rfl
@[simp] theorem State.withCarriers_outlets (c : CarrierTable) : (s.withCarriers c).outlets = s.outlets := rfl
@[simp] theorem State.withCarriers_zones (c : CarrierTable) : (s.withCarriers c).zones = s.zones := rfl
@[simp] theorem State.withCarriers_link (c : CarrierTable) : (s.withCarriers c).link = s.link := rfl
@[simp] theorem State.withCarriers_port (c : CarrierTable) : (s.withCarriers c).port = s.port := rfl
@[simp] theorem State.withCarriers_pending (c : CarrierTable) : (s.withCarriers c).pending = s.pending := rfl

/-! ### withTags -/

@[simp] theorem State.withTags_lineTime (x : TagIndex) : (s.withTags x).lineTime = s.lineTime := rfl
@[simp] theorem State.withTags_map (x : TagIndex) : (s.withTags x).map = s.map := rfl
@[simp] theorem State.withTags_carriers (x : TagIndex) : (s.withTags x).carriers = s.carriers := rfl
@[simp] theorem State.withTags_tags (x : TagIndex) : (s.withTags x).tags = x := rfl
@[simp] theorem State.withTags_tracker (x : TagIndex) : (s.withTags x).tracker = s.tracker := rfl
@[simp] theorem State.withTags_untracked (x : TagIndex) : (s.withTags x).untracked = s.untracked := rfl
@[simp] theorem State.withTags_custody (x : TagIndex) : (s.withTags x).custody = s.custody := rfl
@[simp] theorem State.withTags_routes (x : TagIndex) : (s.withTags x).routes = s.routes := rfl
@[simp] theorem State.withTags_toggles (x : TagIndex) : (s.withTags x).toggles = s.toggles := rfl
@[simp] theorem State.withTags_outlets (x : TagIndex) : (s.withTags x).outlets = s.outlets := rfl
@[simp] theorem State.withTags_zones (x : TagIndex) : (s.withTags x).zones = s.zones := rfl
@[simp] theorem State.withTags_link (x : TagIndex) : (s.withTags x).link = s.link := rfl
@[simp] theorem State.withTags_port (x : TagIndex) : (s.withTags x).port = s.port := rfl
@[simp] theorem State.withTags_pending (x : TagIndex) : (s.withTags x).pending = s.pending := rfl

/-! ### withTracker -/

@[simp] theorem State.withTracker_lineTime (x : SegmentTracker) : (s.withTracker x).lineTime = s.lineTime := rfl
@[simp] theorem State.withTracker_map (x : SegmentTracker) : (s.withTracker x).map = s.map := rfl
@[simp] theorem State.withTracker_carriers (x : SegmentTracker) : (s.withTracker x).carriers = s.carriers := rfl
@[simp] theorem State.withTracker_tags (x : SegmentTracker) : (s.withTracker x).tags = s.tags := rfl
@[simp] theorem State.withTracker_tracker (x : SegmentTracker) : (s.withTracker x).tracker = x := rfl
@[simp] theorem State.withTracker_untracked (x : SegmentTracker) : (s.withTracker x).untracked = s.untracked := rfl
@[simp] theorem State.withTracker_custody (x : SegmentTracker) : (s.withTracker x).custody = s.custody := rfl
@[simp] theorem State.withTracker_routes (x : SegmentTracker) : (s.withTracker x).routes = s.routes := rfl
@[simp] theorem State.withTracker_toggles (x : SegmentTracker) : (s.withTracker x).toggles = s.toggles := rfl
@[simp] theorem State.withTracker_outlets (x : SegmentTracker) : (s.withTracker x).outlets = s.outlets := rfl
@[simp] theorem State.withTracker_zones (x : SegmentTracker) : (s.withTracker x).zones = s.zones := rfl
@[simp] theorem State.withTracker_link (x : SegmentTracker) : (s.withTracker x).link = s.link := rfl
@[simp] theorem State.withTracker_port (x : SegmentTracker) : (s.withTracker x).port = s.port := rfl
@[simp] theorem State.withTracker_pending (x : SegmentTracker) : (s.withTracker x).pending = s.pending := rfl

/-! ### withUntracked -/

@[simp] theorem State.withUntracked_lineTime (st : Station) (n : Nat) :
    (s.withUntracked st n).lineTime = s.lineTime := rfl
@[simp] theorem State.withUntracked_map (st : Station) (n : Nat) : (s.withUntracked st n).map = s.map := rfl
@[simp] theorem State.withUntracked_carriers (st : Station) (n : Nat) :
    (s.withUntracked st n).carriers = s.carriers := rfl
@[simp] theorem State.withUntracked_tags (st : Station) (n : Nat) : (s.withUntracked st n).tags = s.tags := rfl
@[simp] theorem State.withUntracked_tracker (st : Station) (n : Nat) : (s.withUntracked st n).tracker = s.tracker := rfl
@[simp] theorem State.withUntracked_untracked (st : Station) (n : Nat) :
    (s.withUntracked st n).untracked = s.untracked.set st n := rfl
@[simp] theorem State.withUntracked_custody (st : Station) (n : Nat) : (s.withUntracked st n).custody = s.custody := rfl
@[simp] theorem State.withUntracked_routes (st : Station) (n : Nat) : (s.withUntracked st n).routes = s.routes := rfl
@[simp] theorem State.withUntracked_toggles (st : Station) (n : Nat) : (s.withUntracked st n).toggles = s.toggles := rfl
@[simp] theorem State.withUntracked_outlets (st : Station) (n : Nat) : (s.withUntracked st n).outlets = s.outlets := rfl
@[simp] theorem State.withUntracked_zones (st : Station) (n : Nat) : (s.withUntracked st n).zones = s.zones := rfl
@[simp] theorem State.withUntracked_link (st : Station) (n : Nat) : (s.withUntracked st n).link = s.link := rfl
@[simp] theorem State.withUntracked_port (st : Station) (n : Nat) : (s.withUntracked st n).port = s.port := rfl
@[simp] theorem State.withUntracked_pending (st : Station) (n : Nat) : (s.withUntracked st n).pending = s.pending := rfl

/-! ### withCustody -/

@[simp] theorem State.withCustody_lineTime (st : Station) (c : Custody) :
    (s.withCustody st c).lineTime = s.lineTime := rfl
@[simp] theorem State.withCustody_map (st : Station) (c : Custody) : (s.withCustody st c).map = s.map := rfl
@[simp] theorem State.withCustody_carriers (st : Station) (c : Custody) :
    (s.withCustody st c).carriers = s.carriers := rfl
@[simp] theorem State.withCustody_tags (st : Station) (c : Custody) : (s.withCustody st c).tags = s.tags := rfl
@[simp] theorem State.withCustody_tracker (st : Station) (c : Custody) : (s.withCustody st c).tracker = s.tracker := rfl
@[simp] theorem State.withCustody_untracked (st : Station) (c : Custody) :
    (s.withCustody st c).untracked = s.untracked := rfl
@[simp] theorem State.withCustody_custody (st : Station) (c : Custody) :
    (s.withCustody st c).custody = s.custody.set st c := rfl
@[simp] theorem State.withCustody_routes (st : Station) (c : Custody) : (s.withCustody st c).routes = s.routes := rfl
@[simp] theorem State.withCustody_toggles (st : Station) (c : Custody) : (s.withCustody st c).toggles = s.toggles := rfl
@[simp] theorem State.withCustody_outlets (st : Station) (c : Custody) : (s.withCustody st c).outlets = s.outlets := rfl
@[simp] theorem State.withCustody_zones (st : Station) (c : Custody) : (s.withCustody st c).zones = s.zones := rfl
@[simp] theorem State.withCustody_link (st : Station) (c : Custody) : (s.withCustody st c).link = s.link := rfl
@[simp] theorem State.withCustody_port (st : Station) (c : Custody) : (s.withCustody st c).port = s.port := rfl
@[simp] theorem State.withCustody_pending (st : Station) (c : Custody) : (s.withCustody st c).pending = s.pending := rfl

/-! ### withCustodies -/

@[simp] theorem State.withCustodies_lineTime (x : Table Config.stations Custody) :
    (s.withCustodies x).lineTime = s.lineTime := rfl
@[simp] theorem State.withCustodies_map (x : Table Config.stations Custody) : (s.withCustodies x).map = s.map := rfl
@[simp] theorem State.withCustodies_carriers (x : Table Config.stations Custody) :
    (s.withCustodies x).carriers = s.carriers := rfl
@[simp] theorem State.withCustodies_tags (x : Table Config.stations Custody) : (s.withCustodies x).tags = s.tags := rfl
@[simp] theorem State.withCustodies_tracker (x : Table Config.stations Custody) :
    (s.withCustodies x).tracker = s.tracker := rfl
@[simp] theorem State.withCustodies_untracked (x : Table Config.stations Custody) :
    (s.withCustodies x).untracked = s.untracked := rfl
@[simp] theorem State.withCustodies_custody (x : Table Config.stations Custody) : (s.withCustodies x).custody = x := rfl
@[simp] theorem State.withCustodies_routes (x : Table Config.stations Custody) :
    (s.withCustodies x).routes = s.routes := rfl
@[simp] theorem State.withCustodies_toggles (x : Table Config.stations Custody) :
    (s.withCustodies x).toggles = s.toggles := rfl
@[simp] theorem State.withCustodies_outlets (x : Table Config.stations Custody) :
    (s.withCustodies x).outlets = s.outlets := rfl
@[simp] theorem State.withCustodies_zones (x : Table Config.stations Custody) :
    (s.withCustodies x).zones = s.zones := rfl
@[simp] theorem State.withCustodies_link (x : Table Config.stations Custody) : (s.withCustodies x).link = s.link := rfl
@[simp] theorem State.withCustodies_port (x : Table Config.stations Custody) : (s.withCustodies x).port = s.port := rfl
@[simp] theorem State.withCustodies_pending (x : Table Config.stations Custody) :
    (s.withCustodies x).pending = s.pending := rfl

/-! ### withRoutes -/

@[simp] theorem State.withRoutes_lineTime (r : RouteStore) : (s.withRoutes r).lineTime = s.lineTime := rfl
@[simp] theorem State.withRoutes_map (r : RouteStore) : (s.withRoutes r).map = s.map := rfl
@[simp] theorem State.withRoutes_carriers (r : RouteStore) : (s.withRoutes r).carriers = s.carriers := rfl
@[simp] theorem State.withRoutes_tags (r : RouteStore) : (s.withRoutes r).tags = s.tags := rfl
@[simp] theorem State.withRoutes_tracker (r : RouteStore) : (s.withRoutes r).tracker = s.tracker := rfl
@[simp] theorem State.withRoutes_untracked (r : RouteStore) : (s.withRoutes r).untracked = s.untracked := rfl
@[simp] theorem State.withRoutes_custody (r : RouteStore) : (s.withRoutes r).custody = s.custody := rfl
@[simp] theorem State.withRoutes_routes (r : RouteStore) : (s.withRoutes r).routes = r := rfl
@[simp] theorem State.withRoutes_toggles (r : RouteStore) : (s.withRoutes r).toggles = s.toggles := rfl
@[simp] theorem State.withRoutes_outlets (r : RouteStore) : (s.withRoutes r).outlets = s.outlets := rfl
@[simp] theorem State.withRoutes_zones (r : RouteStore) : (s.withRoutes r).zones = s.zones := rfl
@[simp] theorem State.withRoutes_link (r : RouteStore) : (s.withRoutes r).link = s.link := rfl
@[simp] theorem State.withRoutes_port (r : RouteStore) : (s.withRoutes r).port = s.port := rfl
@[simp] theorem State.withRoutes_pending (r : RouteStore) : (s.withRoutes r).pending = s.pending := rfl

/-! ### withToggle -/

@[simp] theorem State.withToggle_lineTime (st : Station) (b : Bool) : (s.withToggle st b).lineTime = s.lineTime := rfl
@[simp] theorem State.withToggle_map (st : Station) (b : Bool) : (s.withToggle st b).map = s.map := rfl
@[simp] theorem State.withToggle_carriers (st : Station) (b : Bool) : (s.withToggle st b).carriers = s.carriers := rfl
@[simp] theorem State.withToggle_tags (st : Station) (b : Bool) : (s.withToggle st b).tags = s.tags := rfl
@[simp] theorem State.withToggle_tracker (st : Station) (b : Bool) : (s.withToggle st b).tracker = s.tracker := rfl
@[simp] theorem State.withToggle_untracked (st : Station) (b : Bool) :
    (s.withToggle st b).untracked = s.untracked := rfl
@[simp] theorem State.withToggle_custody (st : Station) (b : Bool) : (s.withToggle st b).custody = s.custody := rfl
@[simp] theorem State.withToggle_routes (st : Station) (b : Bool) : (s.withToggle st b).routes = s.routes := rfl
@[simp] theorem State.withToggle_toggles (st : Station) (b : Bool) :
    (s.withToggle st b).toggles = s.toggles.set st b := rfl
@[simp] theorem State.withToggle_outlets (st : Station) (b : Bool) : (s.withToggle st b).outlets = s.outlets := rfl
@[simp] theorem State.withToggle_zones (st : Station) (b : Bool) : (s.withToggle st b).zones = s.zones := rfl
@[simp] theorem State.withToggle_link (st : Station) (b : Bool) : (s.withToggle st b).link = s.link := rfl
@[simp] theorem State.withToggle_port (st : Station) (b : Bool) : (s.withToggle st b).port = s.port := rfl
@[simp] theorem State.withToggle_pending (st : Station) (b : Bool) : (s.withToggle st b).pending = s.pending := rfl

/-! ### withOutlet -/

@[simp] theorem State.withOutlet_lineTime (st : Station) (a : OutletAccount) :
    (s.withOutlet st a).lineTime = s.lineTime := rfl
@[simp] theorem State.withOutlet_map (st : Station) (a : OutletAccount) : (s.withOutlet st a).map = s.map := rfl
@[simp] theorem State.withOutlet_carriers (st : Station) (a : OutletAccount) :
    (s.withOutlet st a).carriers = s.carriers := rfl
@[simp] theorem State.withOutlet_tags (st : Station) (a : OutletAccount) : (s.withOutlet st a).tags = s.tags := rfl
@[simp] theorem State.withOutlet_tracker (st : Station) (a : OutletAccount) :
    (s.withOutlet st a).tracker = s.tracker := rfl
@[simp] theorem State.withOutlet_untracked (st : Station) (a : OutletAccount) :
    (s.withOutlet st a).untracked = s.untracked := rfl
@[simp] theorem State.withOutlet_custody (st : Station) (a : OutletAccount) :
    (s.withOutlet st a).custody = s.custody := rfl
@[simp] theorem State.withOutlet_routes (st : Station) (a : OutletAccount) :
    (s.withOutlet st a).routes = s.routes := rfl
@[simp] theorem State.withOutlet_toggles (st : Station) (a : OutletAccount) :
    (s.withOutlet st a).toggles = s.toggles := rfl
@[simp] theorem State.withOutlet_outlets (st : Station) (a : OutletAccount) :
    (s.withOutlet st a).outlets = s.outlets.set st a := rfl
@[simp] theorem State.withOutlet_zones (st : Station) (a : OutletAccount) : (s.withOutlet st a).zones = s.zones := rfl
@[simp] theorem State.withOutlet_link (st : Station) (a : OutletAccount) : (s.withOutlet st a).link = s.link := rfl
@[simp] theorem State.withOutlet_port (st : Station) (a : OutletAccount) : (s.withOutlet st a).port = s.port := rfl
@[simp] theorem State.withOutlet_pending (st : Station) (a : OutletAccount) :
    (s.withOutlet st a).pending = s.pending := rfl

/-! ### withZones -/

@[simp] theorem State.withZones_lineTime (z : ZoneController) : (s.withZones z).lineTime = s.lineTime := rfl
@[simp] theorem State.withZones_map (z : ZoneController) : (s.withZones z).map = s.map := rfl
@[simp] theorem State.withZones_carriers (z : ZoneController) : (s.withZones z).carriers = s.carriers := rfl
@[simp] theorem State.withZones_tags (z : ZoneController) : (s.withZones z).tags = s.tags := rfl
@[simp] theorem State.withZones_tracker (z : ZoneController) : (s.withZones z).tracker = s.tracker := rfl
@[simp] theorem State.withZones_untracked (z : ZoneController) : (s.withZones z).untracked = s.untracked := rfl
@[simp] theorem State.withZones_custody (z : ZoneController) : (s.withZones z).custody = s.custody := rfl
@[simp] theorem State.withZones_routes (z : ZoneController) : (s.withZones z).routes = s.routes := rfl
@[simp] theorem State.withZones_toggles (z : ZoneController) : (s.withZones z).toggles = s.toggles := rfl
@[simp] theorem State.withZones_outlets (z : ZoneController) : (s.withZones z).outlets = s.outlets := rfl
@[simp] theorem State.withZones_zones (z : ZoneController) : (s.withZones z).zones = z := rfl
@[simp] theorem State.withZones_link (z : ZoneController) : (s.withZones z).link = s.link := rfl
@[simp] theorem State.withZones_port (z : ZoneController) : (s.withZones z).port = s.port := rfl
@[simp] theorem State.withZones_pending (z : ZoneController) : (s.withZones z).pending = s.pending := rfl

/-! ### withLink -/

@[simp] theorem State.withLink_lineTime (l : StationLink) : (s.withLink l).lineTime = s.lineTime := rfl
@[simp] theorem State.withLink_map (l : StationLink) : (s.withLink l).map = s.map := rfl
@[simp] theorem State.withLink_carriers (l : StationLink) : (s.withLink l).carriers = s.carriers := rfl
@[simp] theorem State.withLink_tags (l : StationLink) : (s.withLink l).tags = s.tags := rfl
@[simp] theorem State.withLink_tracker (l : StationLink) : (s.withLink l).tracker = s.tracker := rfl
@[simp] theorem State.withLink_untracked (l : StationLink) : (s.withLink l).untracked = s.untracked := rfl
@[simp] theorem State.withLink_custody (l : StationLink) : (s.withLink l).custody = s.custody := rfl
@[simp] theorem State.withLink_routes (l : StationLink) : (s.withLink l).routes = s.routes := rfl
@[simp] theorem State.withLink_toggles (l : StationLink) : (s.withLink l).toggles = s.toggles := rfl
@[simp] theorem State.withLink_outlets (l : StationLink) : (s.withLink l).outlets = s.outlets := rfl
@[simp] theorem State.withLink_zones (l : StationLink) : (s.withLink l).zones = s.zones := rfl
@[simp] theorem State.withLink_link (l : StationLink) : (s.withLink l).link = l := rfl
@[simp] theorem State.withLink_port (l : StationLink) : (s.withLink l).port = s.port := rfl
@[simp] theorem State.withLink_pending (l : StationLink) : (s.withLink l).pending = s.pending := rfl

/-! ### withPort -/

@[simp] theorem State.withPort_lineTime (p : HostPort) : (s.withPort p).lineTime = s.lineTime := rfl
@[simp] theorem State.withPort_map (p : HostPort) : (s.withPort p).map = s.map := rfl
@[simp] theorem State.withPort_carriers (p : HostPort) : (s.withPort p).carriers = s.carriers := rfl
@[simp] theorem State.withPort_tags (p : HostPort) : (s.withPort p).tags = s.tags := rfl
@[simp] theorem State.withPort_tracker (p : HostPort) : (s.withPort p).tracker = s.tracker := rfl
@[simp] theorem State.withPort_untracked (p : HostPort) : (s.withPort p).untracked = s.untracked := rfl
@[simp] theorem State.withPort_custody (p : HostPort) : (s.withPort p).custody = s.custody := rfl
@[simp] theorem State.withPort_routes (p : HostPort) : (s.withPort p).routes = s.routes := rfl
@[simp] theorem State.withPort_toggles (p : HostPort) : (s.withPort p).toggles = s.toggles := rfl
@[simp] theorem State.withPort_outlets (p : HostPort) : (s.withPort p).outlets = s.outlets := rfl
@[simp] theorem State.withPort_zones (p : HostPort) : (s.withPort p).zones = s.zones := rfl
@[simp] theorem State.withPort_link (p : HostPort) : (s.withPort p).link = s.link := rfl
@[simp] theorem State.withPort_port (p : HostPort) : (s.withPort p).port = p := rfl
@[simp] theorem State.withPort_pending (p : HostPort) : (s.withPort p).pending = s.pending := rfl

/-! ### withLineTime -/

@[simp] theorem State.withLineTime_lineTime (x : Time) : (s.withLineTime x).lineTime = x := rfl
@[simp] theorem State.withLineTime_map (x : Time) : (s.withLineTime x).map = s.map := rfl
@[simp] theorem State.withLineTime_carriers (x : Time) : (s.withLineTime x).carriers = s.carriers := rfl
@[simp] theorem State.withLineTime_tags (x : Time) : (s.withLineTime x).tags = s.tags := rfl
@[simp] theorem State.withLineTime_tracker (x : Time) : (s.withLineTime x).tracker = s.tracker := rfl
@[simp] theorem State.withLineTime_untracked (x : Time) : (s.withLineTime x).untracked = s.untracked := rfl
@[simp] theorem State.withLineTime_custody (x : Time) : (s.withLineTime x).custody = s.custody := rfl
@[simp] theorem State.withLineTime_routes (x : Time) : (s.withLineTime x).routes = s.routes := rfl
@[simp] theorem State.withLineTime_toggles (x : Time) : (s.withLineTime x).toggles = s.toggles := rfl
@[simp] theorem State.withLineTime_outlets (x : Time) : (s.withLineTime x).outlets = s.outlets := rfl
@[simp] theorem State.withLineTime_zones (x : Time) : (s.withLineTime x).zones = s.zones := rfl
@[simp] theorem State.withLineTime_link (x : Time) : (s.withLineTime x).link = s.link := rfl
@[simp] theorem State.withLineTime_port (x : Time) : (s.withLineTime x).port = s.port := rfl
@[simp] theorem State.withLineTime_pending (x : Time) : (s.withLineTime x).pending = s.pending := rfl

/-! ### modRecord -/

@[simp] theorem State.modRecord_lineTime (h : Handle) (f : CarrierRecord → CarrierRecord) :
    (s.modRecord h f).lineTime = s.lineTime := rfl
@[simp] theorem State.modRecord_map (h : Handle) (f : CarrierRecord → CarrierRecord) :
    (s.modRecord h f).map = s.map := rfl
@[simp] theorem State.modRecord_carriers (h : Handle) (f : CarrierRecord → CarrierRecord) :
    (s.modRecord h f).carriers = { s.carriers with records := s.carriers.records.modify h f } := rfl
@[simp] theorem State.modRecord_tags (h : Handle) (f : CarrierRecord → CarrierRecord) :
    (s.modRecord h f).tags = s.tags := rfl
@[simp] theorem State.modRecord_tracker (h : Handle) (f : CarrierRecord → CarrierRecord) :
    (s.modRecord h f).tracker = s.tracker := rfl
@[simp] theorem State.modRecord_untracked (h : Handle) (f : CarrierRecord → CarrierRecord) :
    (s.modRecord h f).untracked = s.untracked := rfl
@[simp] theorem State.modRecord_custody (h : Handle) (f : CarrierRecord → CarrierRecord) :
    (s.modRecord h f).custody = s.custody := rfl
@[simp] theorem State.modRecord_routes (h : Handle) (f : CarrierRecord → CarrierRecord) :
    (s.modRecord h f).routes = s.routes := rfl
@[simp] theorem State.modRecord_toggles (h : Handle) (f : CarrierRecord → CarrierRecord) :
    (s.modRecord h f).toggles = s.toggles := rfl
@[simp] theorem State.modRecord_outlets (h : Handle) (f : CarrierRecord → CarrierRecord) :
    (s.modRecord h f).outlets = s.outlets := rfl
@[simp] theorem State.modRecord_zones (h : Handle) (f : CarrierRecord → CarrierRecord) :
    (s.modRecord h f).zones = s.zones := rfl
@[simp] theorem State.modRecord_link (h : Handle) (f : CarrierRecord → CarrierRecord) :
    (s.modRecord h f).link = s.link := rfl
@[simp] theorem State.modRecord_port (h : Handle) (f : CarrierRecord → CarrierRecord) :
    (s.modRecord h f).port = s.port := rfl
@[simp] theorem State.modRecord_pending (h : Handle) (f : CarrierRecord → CarrierRecord) :
    (s.modRecord h f).pending = s.pending := rfl

/-! ### withExceptionCount -/

@[simp] theorem State.withExceptionCount_lineTime (n : Nat) : (s.withExceptionCount n).lineTime = s.lineTime := rfl
@[simp] theorem State.withExceptionCount_map (n : Nat) : (s.withExceptionCount n).map = s.map := rfl
@[simp] theorem State.withExceptionCount_carriers (n : Nat) :
    (s.withExceptionCount n).carriers = { s.carriers with exceptionCount := n } := rfl
@[simp] theorem State.withExceptionCount_tags (n : Nat) : (s.withExceptionCount n).tags = s.tags := rfl
@[simp] theorem State.withExceptionCount_tracker (n : Nat) : (s.withExceptionCount n).tracker = s.tracker := rfl
@[simp] theorem State.withExceptionCount_untracked (n : Nat) : (s.withExceptionCount n).untracked = s.untracked := rfl
@[simp] theorem State.withExceptionCount_custody (n : Nat) : (s.withExceptionCount n).custody = s.custody := rfl
@[simp] theorem State.withExceptionCount_routes (n : Nat) : (s.withExceptionCount n).routes = s.routes := rfl
@[simp] theorem State.withExceptionCount_toggles (n : Nat) : (s.withExceptionCount n).toggles = s.toggles := rfl
@[simp] theorem State.withExceptionCount_outlets (n : Nat) : (s.withExceptionCount n).outlets = s.outlets := rfl
@[simp] theorem State.withExceptionCount_zones (n : Nat) : (s.withExceptionCount n).zones = s.zones := rfl
@[simp] theorem State.withExceptionCount_link (n : Nat) : (s.withExceptionCount n).link = s.link := rfl
@[simp] theorem State.withExceptionCount_port (n : Nat) : (s.withExceptionCount n).port = s.port := rfl
@[simp] theorem State.withExceptionCount_pending (n : Nat) : (s.withExceptionCount n).pending = s.pending := rfl

/-! ### withQueue -/

@[simp] theorem State.withQueue_lineTime (g : Segment) (q : List Handle) :
    (s.withQueue g q).lineTime = s.lineTime := rfl
@[simp] theorem State.withQueue_map (g : Segment) (q : List Handle) : (s.withQueue g q).map = s.map := rfl
@[simp] theorem State.withQueue_carriers (g : Segment) (q : List Handle) :
    (s.withQueue g q).carriers = s.carriers := rfl
@[simp] theorem State.withQueue_tags (g : Segment) (q : List Handle) : (s.withQueue g q).tags = s.tags := rfl
@[simp] theorem State.withQueue_tracker (g : Segment) (q : List Handle) :
    (s.withQueue g q).tracker = { s.tracker with queues := s.tracker.queues.set g q } := rfl
@[simp] theorem State.withQueue_untracked (g : Segment) (q : List Handle) :
    (s.withQueue g q).untracked = s.untracked := rfl
@[simp] theorem State.withQueue_custody (g : Segment) (q : List Handle) : (s.withQueue g q).custody = s.custody := rfl
@[simp] theorem State.withQueue_routes (g : Segment) (q : List Handle) : (s.withQueue g q).routes = s.routes := rfl
@[simp] theorem State.withQueue_toggles (g : Segment) (q : List Handle) : (s.withQueue g q).toggles = s.toggles := rfl
@[simp] theorem State.withQueue_outlets (g : Segment) (q : List Handle) : (s.withQueue g q).outlets = s.outlets := rfl
@[simp] theorem State.withQueue_zones (g : Segment) (q : List Handle) : (s.withQueue g q).zones = s.zones := rfl
@[simp] theorem State.withQueue_link (g : Segment) (q : List Handle) : (s.withQueue g q).link = s.link := rfl
@[simp] theorem State.withQueue_port (g : Segment) (q : List Handle) : (s.withQueue g q).port = s.port := rfl
@[simp] theorem State.withQueue_pending (g : Segment) (q : List Handle) : (s.withQueue g q).pending = s.pending := rfl

/-! ### withReserved -/

@[simp] theorem State.withReserved_lineTime (g : Segment) (n : Nat) : (s.withReserved g n).lineTime = s.lineTime := rfl
@[simp] theorem State.withReserved_map (g : Segment) (n : Nat) : (s.withReserved g n).map = s.map := rfl
@[simp] theorem State.withReserved_carriers (g : Segment) (n : Nat) : (s.withReserved g n).carriers = s.carriers := rfl
@[simp] theorem State.withReserved_tags (g : Segment) (n : Nat) : (s.withReserved g n).tags = s.tags := rfl
@[simp] theorem State.withReserved_tracker (g : Segment) (n : Nat) :
    (s.withReserved g n).tracker = { s.tracker with reserved := s.tracker.reserved.set g n } := rfl
@[simp] theorem State.withReserved_untracked (g : Segment) (n : Nat) :
    (s.withReserved g n).untracked = s.untracked := rfl
@[simp] theorem State.withReserved_custody (g : Segment) (n : Nat) : (s.withReserved g n).custody = s.custody := rfl
@[simp] theorem State.withReserved_routes (g : Segment) (n : Nat) : (s.withReserved g n).routes = s.routes := rfl
@[simp] theorem State.withReserved_toggles (g : Segment) (n : Nat) : (s.withReserved g n).toggles = s.toggles := rfl
@[simp] theorem State.withReserved_outlets (g : Segment) (n : Nat) : (s.withReserved g n).outlets = s.outlets := rfl
@[simp] theorem State.withReserved_zones (g : Segment) (n : Nat) : (s.withReserved g n).zones = s.zones := rfl
@[simp] theorem State.withReserved_link (g : Segment) (n : Nat) : (s.withReserved g n).link = s.link := rfl
@[simp] theorem State.withReserved_port (g : Segment) (n : Nat) : (s.withReserved g n).port = s.port := rfl
@[simp] theorem State.withReserved_pending (g : Segment) (n : Nat) : (s.withReserved g n).pending = s.pending := rfl

/-! ### withWaiters -/

@[simp] theorem State.withWaiters_lineTime (g : Segment) (w : List Station) :
    (s.withWaiters g w).lineTime = s.lineTime := rfl
@[simp] theorem State.withWaiters_map (g : Segment) (w : List Station) : (s.withWaiters g w).map = s.map := rfl
@[simp] theorem State.withWaiters_carriers (g : Segment) (w : List Station) :
    (s.withWaiters g w).carriers = s.carriers := rfl
@[simp] theorem State.withWaiters_tags (g : Segment) (w : List Station) : (s.withWaiters g w).tags = s.tags := rfl
@[simp] theorem State.withWaiters_tracker (g : Segment) (w : List Station) :
    (s.withWaiters g w).tracker = { s.tracker with waiters := s.tracker.waiters.set g w } := rfl
@[simp] theorem State.withWaiters_untracked (g : Segment) (w : List Station) :
    (s.withWaiters g w).untracked = s.untracked := rfl
@[simp] theorem State.withWaiters_custody (g : Segment) (w : List Station) :
    (s.withWaiters g w).custody = s.custody := rfl
@[simp] theorem State.withWaiters_routes (g : Segment) (w : List Station) : (s.withWaiters g w).routes = s.routes := rfl
@[simp] theorem State.withWaiters_toggles (g : Segment) (w : List Station) :
    (s.withWaiters g w).toggles = s.toggles := rfl
@[simp] theorem State.withWaiters_outlets (g : Segment) (w : List Station) :
    (s.withWaiters g w).outlets = s.outlets := rfl
@[simp] theorem State.withWaiters_zones (g : Segment) (w : List Station) : (s.withWaiters g w).zones = s.zones := rfl
@[simp] theorem State.withWaiters_link (g : Segment) (w : List Station) : (s.withWaiters g w).link = s.link := rfl
@[simp] theorem State.withWaiters_port (g : Segment) (w : List Station) : (s.withWaiters g w).port = s.port := rfl
@[simp] theorem State.withWaiters_pending (g : Segment) (w : List Station) :
    (s.withWaiters g w).pending = s.pending := rfl

/-! ### withRoomEvents -/

@[simp] theorem State.withRoomEvents_lineTime (es : List Segment) : (s.withRoomEvents es).lineTime = s.lineTime := rfl
@[simp] theorem State.withRoomEvents_map (es : List Segment) : (s.withRoomEvents es).map = s.map := rfl
@[simp] theorem State.withRoomEvents_carriers (es : List Segment) : (s.withRoomEvents es).carriers = s.carriers := rfl
@[simp] theorem State.withRoomEvents_tags (es : List Segment) : (s.withRoomEvents es).tags = s.tags := rfl
@[simp] theorem State.withRoomEvents_tracker (es : List Segment) :
    (s.withRoomEvents es).tracker = { s.tracker with roomEvents := es } := rfl
@[simp] theorem State.withRoomEvents_untracked (es : List Segment) :
    (s.withRoomEvents es).untracked = s.untracked := rfl
@[simp] theorem State.withRoomEvents_custody (es : List Segment) : (s.withRoomEvents es).custody = s.custody := rfl
@[simp] theorem State.withRoomEvents_routes (es : List Segment) : (s.withRoomEvents es).routes = s.routes := rfl
@[simp] theorem State.withRoomEvents_toggles (es : List Segment) : (s.withRoomEvents es).toggles = s.toggles := rfl
@[simp] theorem State.withRoomEvents_outlets (es : List Segment) : (s.withRoomEvents es).outlets = s.outlets := rfl
@[simp] theorem State.withRoomEvents_zones (es : List Segment) : (s.withRoomEvents es).zones = s.zones := rfl
@[simp] theorem State.withRoomEvents_link (es : List Segment) : (s.withRoomEvents es).link = s.link := rfl
@[simp] theorem State.withRoomEvents_port (es : List Segment) : (s.withRoomEvents es).port = s.port := rfl
@[simp] theorem State.withRoomEvents_pending (es : List Segment) : (s.withRoomEvents es).pending = s.pending := rfl

/-! ### withSlot -/

@[simp] theorem State.withSlot_lineTime (q : Slot) (r : RouteSlot) : (s.withSlot q r).lineTime = s.lineTime := rfl
@[simp] theorem State.withSlot_map (q : Slot) (r : RouteSlot) : (s.withSlot q r).map = s.map := rfl
@[simp] theorem State.withSlot_carriers (q : Slot) (r : RouteSlot) : (s.withSlot q r).carriers = s.carriers := rfl
@[simp] theorem State.withSlot_tags (q : Slot) (r : RouteSlot) : (s.withSlot q r).tags = s.tags := rfl
@[simp] theorem State.withSlot_tracker (q : Slot) (r : RouteSlot) : (s.withSlot q r).tracker = s.tracker := rfl
@[simp] theorem State.withSlot_untracked (q : Slot) (r : RouteSlot) : (s.withSlot q r).untracked = s.untracked := rfl
@[simp] theorem State.withSlot_custody (q : Slot) (r : RouteSlot) : (s.withSlot q r).custody = s.custody := rfl
@[simp] theorem State.withSlot_routes (q : Slot) (r : RouteSlot) :
    (s.withSlot q r).routes = { s.routes with slots := s.routes.slots.set q r } := rfl
@[simp] theorem State.withSlot_toggles (q : Slot) (r : RouteSlot) : (s.withSlot q r).toggles = s.toggles := rfl
@[simp] theorem State.withSlot_outlets (q : Slot) (r : RouteSlot) : (s.withSlot q r).outlets = s.outlets := rfl
@[simp] theorem State.withSlot_zones (q : Slot) (r : RouteSlot) : (s.withSlot q r).zones = s.zones := rfl
@[simp] theorem State.withSlot_link (q : Slot) (r : RouteSlot) : (s.withSlot q r).link = s.link := rfl
@[simp] theorem State.withSlot_port (q : Slot) (r : RouteSlot) : (s.withSlot q r).port = s.port := rfl
@[simp] theorem State.withSlot_pending (q : Slot) (r : RouteSlot) : (s.withSlot q r).pending = s.pending := rfl

/-! ### withSets -/

@[simp] theorem State.withSets_lineTime (x : Table Config.sets DecisionSet) :
    (s.withSets x).lineTime = s.lineTime := rfl
@[simp] theorem State.withSets_map (x : Table Config.sets DecisionSet) : (s.withSets x).map = s.map := rfl
@[simp] theorem State.withSets_carriers (x : Table Config.sets DecisionSet) :
    (s.withSets x).carriers = s.carriers := rfl
@[simp] theorem State.withSets_tags (x : Table Config.sets DecisionSet) : (s.withSets x).tags = s.tags := rfl
@[simp] theorem State.withSets_tracker (x : Table Config.sets DecisionSet) : (s.withSets x).tracker = s.tracker := rfl
@[simp] theorem State.withSets_untracked (x : Table Config.sets DecisionSet) :
    (s.withSets x).untracked = s.untracked := rfl
@[simp] theorem State.withSets_custody (x : Table Config.sets DecisionSet) : (s.withSets x).custody = s.custody := rfl
@[simp] theorem State.withSets_routes (x : Table Config.sets DecisionSet) :
    (s.withSets x).routes = { s.routes with sets := x } := rfl
@[simp] theorem State.withSets_toggles (x : Table Config.sets DecisionSet) : (s.withSets x).toggles = s.toggles := rfl
@[simp] theorem State.withSets_outlets (x : Table Config.sets DecisionSet) : (s.withSets x).outlets = s.outlets := rfl
@[simp] theorem State.withSets_zones (x : Table Config.sets DecisionSet) : (s.withSets x).zones = s.zones := rfl
@[simp] theorem State.withSets_link (x : Table Config.sets DecisionSet) : (s.withSets x).link = s.link := rfl
@[simp] theorem State.withSets_port (x : Table Config.sets DecisionSet) : (s.withSets x).port = s.port := rfl
@[simp] theorem State.withSets_pending (x : Table Config.sets DecisionSet) : (s.withSets x).pending = s.pending := rfl

/-! ### withLinkOf -/

@[simp] theorem State.withLinkOf_lineTime (st : Station) (l : LinkRecord) :
    (s.withLinkOf st l).lineTime = s.lineTime := rfl
@[simp] theorem State.withLinkOf_map (st : Station) (l : LinkRecord) : (s.withLinkOf st l).map = s.map := rfl
@[simp] theorem State.withLinkOf_carriers (st : Station) (l : LinkRecord) :
    (s.withLinkOf st l).carriers = s.carriers := rfl
@[simp] theorem State.withLinkOf_tags (st : Station) (l : LinkRecord) : (s.withLinkOf st l).tags = s.tags := rfl
@[simp] theorem State.withLinkOf_tracker (st : Station) (l : LinkRecord) :
    (s.withLinkOf st l).tracker = s.tracker := rfl
@[simp] theorem State.withLinkOf_untracked (st : Station) (l : LinkRecord) :
    (s.withLinkOf st l).untracked = s.untracked := rfl
@[simp] theorem State.withLinkOf_custody (st : Station) (l : LinkRecord) :
    (s.withLinkOf st l).custody = s.custody := rfl
@[simp] theorem State.withLinkOf_routes (st : Station) (l : LinkRecord) : (s.withLinkOf st l).routes = s.routes := rfl
@[simp] theorem State.withLinkOf_toggles (st : Station) (l : LinkRecord) :
    (s.withLinkOf st l).toggles = s.toggles := rfl
@[simp] theorem State.withLinkOf_outlets (st : Station) (l : LinkRecord) :
    (s.withLinkOf st l).outlets = s.outlets := rfl
@[simp] theorem State.withLinkOf_zones (st : Station) (l : LinkRecord) : (s.withLinkOf st l).zones = s.zones := rfl
@[simp] theorem State.withLinkOf_link (st : Station) (l : LinkRecord) :
    (s.withLinkOf st l).link = { s.link with records := s.link.records.set st l } := rfl
@[simp] theorem State.withLinkOf_port (st : Station) (l : LinkRecord) : (s.withLinkOf st l).port = s.port := rfl
@[simp] theorem State.withLinkOf_pending (st : Station) (l : LinkRecord) :
    (s.withLinkOf st l).pending = s.pending := rfl

/-! ### Readers after the update of their own table -/

theorem State.record_modRecord (h k : Handle) (f : CarrierRecord → CarrierRecord) :
    (s.modRecord h f).record k = if h = k then f (s.record k) else s.record k := Table.get_modify _ _ _ _

@[simp] theorem State.record_withExceptionCount (n : Nat) (k : Handle) :
    (s.withExceptionCount n).record k = s.record k := rfl

theorem State.queue_withQueue (g k : Segment) (q : List Handle) :
    (s.withQueue g q).queue k = if g = k then q else s.queue k := Table.get_set _ _ _ _

theorem State.reservedCount_withReserved (g k : Segment) (n : Nat) :
    (s.withReserved g n).reservedCount k = if g = k then n else s.reservedCount k := Table.get_set _ _ _ _

theorem State.waiterList_withWaiters (g k : Segment) (w : List Station) :
    (s.withWaiters g w).waiterList k = if g = k then w else s.waiterList k := Table.get_set _ _ _ _

theorem State.custodyOf_withCustody (st k : Station) (c : Custody) :
    (s.withCustody st c).custodyOf k = if st = k then c else s.custodyOf k := Table.get_set _ _ _ _

theorem State.linkOf_withLinkOf (st k : Station) (l : LinkRecord) :
    (s.withLinkOf st l).linkOf k = if st = k then l else s.linkOf k := Table.get_set _ _ _ _

theorem State.slotOf_withSlot (q k : Slot) (r : RouteSlot) :
    (s.withSlot q r).slotOf k = if q = k then r else s.slotOf k := Table.get_set _ _ _ _

theorem State.outlet_withOutlet (st k : Station) (a : OutletAccount) :
    (s.withOutlet st a).outlet k = if st = k then a else s.outlet k := Table.get_set _ _ _ _

end Sys2Proof.Machine
end

