-- ==== Sys2Proof/Laws/Port.lean ====
section
/-! SUPPORT. What a command transaction does, once: taken, or dropped; and that it leaves the queue of commands alone where
its block does. -/

namespace Sys2Proof.Machine

@[simp] theorem State.shiftOut_port (s : State) (b : List Byte) :
    (s.shiftOut b).port = s.portEnded b := rfl
@[simp] theorem State.shiftOut_pending (s : State) (b : List Byte) : (s.shiftOut b).pending = s.pending := rfl
@[simp] theorem State.shiftFill_pending (s : State) (n : Nat) : (s.shiftFill n).pending = s.pending := rfl
@[simp] theorem State.respond_pending (s : State) (e : Byte) (r : Reply) : (s.respond e r).pending = s.pending := rfl
@[simp] theorem State.beginLong_pending (s : State) (op : LongOperation) : (s.beginLong op).pending = s.pending := rfl

@[simp] theorem State.fallScs_pending (s : State) : s.fallScs.pending = s.pending := by
  unfold State.fallScs; split <;> rfl

/-- With no transaction open, the status byte and the slot of a transaction are those of its rise. -/
theorem State.atFall_of_none {s : State} (h : s.port.transaction = .none) : s.atFall = s.transactionNow := by
  simp [State.atFall, h]

/-- With a transaction open, they are those of its fall. -/
theorem State.atFall_of_underWay {s : State} {o : OpenTransaction} (h : s.port.transaction = .underWay o) :
    s.atFall = o := by
  simp [State.atFall, h]

/-- An abandoned transaction takes no command (R184). -/
theorem State.takesCommand_of_abandoned {s : State} (h : s.port.transaction = .abandoned) : s.takesCommand = false := by
  simp [State.takesCommand, State.atFall, OpenTransaction.ready, h]

/-- An early rise, like any that carries no response, changes the port alone. -/
theorem State.shiftOut_eq (s : State) (b : List Byte) : s.shiftOut b = { s with port := s.portEnded b } := rfl

/-- What a transaction goes by at its rise does not change at its fall. -/
@[simp] theorem State.atFall_fallScs (s : State) : s.fallScs.atFall = s.atFall := by
  unfold State.fallScs
  split <;> simp_all [State.atFall]

@[simp] theorem State.takesCommand_fallScs (s : State) : s.fallScs.takesCommand = s.takesCommand := by
  simp only [State.takesCommand, State.atFall_fallScs]
  unfold State.fallScs; split <;> rfl

/-- A part that takes a command has its slot FREE. -/
theorem State.slot_of_takesCommand {s : State} (h : s.takesCommand = true) : s.port.slot = .free := by
  simp [State.takesCommand] at h; exact h.2

@[simp] theorem State.atFall_status (s : State) : s.atFall.status = s.openingByte := by
  unfold State.atFall State.openingByte
  cases s.port.transaction <;> rfl

@[simp] theorem State.atFall_waiting (s : State) : s.atFall.waiting = s.openingSlot := by
  unfold State.atFall State.openingSlot
  cases s.port.transaction <;> rfl

/-- A transaction that carries no response changes the port alone: no transaction open, its fall's status byte and fill. -/
theorem State.shiftFill_eq (s : State) (n : Nat) : s.shiftFill n = { s with port := s.portIdle n } := by
  simp only [State.shiftFill, State.atFall_status]; rfl

/-- A host command while the part takes commands: its block's state, with the answer in the buffer. -/
theorem hostCommand_taken {s : State} (h : s.takesCommand = true) (code : Byte) (len : Nat)
    (block : State → State × Reply) :
    hostCommand code len block s
      = .next ((block (s.shiftFill (len + 3))).1.respond code (block (s.shiftFill (len + 3))).2) := by
  simp [hostCommand, h]

/-- A host command while the part takes none: only the shifted bytes change. -/
theorem hostCommand_dropped {s : State} (h : s.takesCommand = false) (code : Byte) (len : Nat)
    (block : State → State × Reply) : hostCommand code len block s = .next { s with port := s.portIdle (len + 3) } := by
  simp [hostCommand, h, State.shiftFill_eq]

/-- A long operation's command taken, refused at once. -/
theorem longCommand_refused {s : State} (h : s.takesCommand = true) (code : Byte) (len : Nat)
    {block : State → State × Option Reply} {t : State} {r : Reply} (hb : block (s.shiftFill (len + 3)) = (t, some r)) :
    longCommand code len block s = .next (t.respond code r) := by
  simp [longCommand, h, hb]

/-- A long operation's command taken and begun. -/
theorem longCommand_begun {s : State} (h : s.takesCommand = true) (code : Byte) (len : Nat)
    {block : State → State × Option Reply} {t : State} (hb : block (s.shiftFill (len + 3)) = (t, none)) :
    longCommand code len block s = .next t := by
  simp [longCommand, h, hb]

theorem longCommand_dropped {s : State} (h : s.takesCommand = false) (code : Byte) (len : Nat)
    (block : State → State × Option Reply) : longCommand code len block s = .next { s with port := s.portIdle (len + 3) } := by
  simp [longCommand, h, State.shiftFill_eq]

/-- A host command is always answered by a next state, whose queue of commands is the block's. -/
theorem hostCommand_next (code : Byte) (len : Nat) (block : State → State × Reply)
    (hb : ∀ s, (block s).1.pending = s.pending) (s : State) :
    ∃ t, hostCommand code len block s = .next t ∧ t.pending = s.pending := by
  cases h : s.takesCommand
  · exact ⟨_, hostCommand_dropped h code len block, rfl⟩
  · exact ⟨_, hostCommand_taken h code len block, by simp [hb]⟩

theorem longCommand_next (code : Byte) (len : Nat) (block : State → State × Option Reply)
    (hb : ∀ s, (block s).1.pending = s.pending) (s : State) :
    ∃ t, longCommand code len block s = .next t ∧ t.pending = s.pending := by
  cases h : s.takesCommand
  · exact ⟨_, longCommand_dropped h code len block, rfl⟩
  · have hp := hb (s.shiftFill (len + 3))
    rcases hr : block (s.shiftFill (len + 3)) with ⟨t, _ | r⟩ <;> rw [hr] at hp
    · exact ⟨_, longCommand_begun h code len hr, by simpa using hp⟩
    · exact ⟨_, longCommand_refused h code len hr, by simpa using hp⟩

/-- A parameter byte made from a number in range is that number. -/
@[simp] theorem index?_byteNat {n : Nat} (hn : n ≤ 256) (i : Fin n) : index? n (byteNat i.val) = some i := by
  have : (byteNat i.val).toNat = i.val := by
    simp only [byteNat, BitVec.toNat_ofNat]; exact Nat.mod_eq_of_lt (by omega)
  simp [index?, this]

theorem index?_eq_some {w n : Nat} {b : BitVec w} {i : Fin n} (h : index? n b = some i) : b.toNat = i.val := by
  unfold index? at h
  split at h
  · cases h; rfl
  · cases h

theorem index?_eq_none {w n : Nat} {b : BitVec w} : index? n b = none ↔ n ≤ b.toNat := by
  unfold index?
  split <;> simp_all

end Sys2Proof.Machine
end

