-- ==== Sys2Proof/Laws/Ops.lean ====
section
/-! SUPPORT. What each shared operation does, said once: the state it answers as an equation, what it leaves alone, and what
it depends on. -/

namespace Sys2Proof.Machine

/-! ### Tables -/

@[simp] theorem Table.set_set {n : Nat} {α : Type} (t : Table n α) (i : Fin n) (x y : α) :
    (t.set i x).set i y = t.set i y := by
  apply Table.ext_get; intro j; simp only [Table.get_set]; split <;> rfl

/-! ### The Tag Index -/

theorem TagIndex.lookup_remove (t u : Tag) (index : TagIndex) :
    TagIndex.lookup u (TagIndex.remove t index) = if u = t then none else TagIndex.lookup u index := by
  induction index with
  | nil => simp [TagIndex.remove, TagIndex.lookup]
  | cons e rest ih =>
    obtain ⟨v, h⟩ := e
    simp only [TagIndex.remove] at ih ⊢
    by_cases hv : v = t
    · subst hv
      simp only [List.filter_cons, ne_eq, not_true, decide_false, Bool.false_eq_true, if_false, ih, TagIndex.lookup]
      by_cases hu : u = v
      · simp [hu]
      · simp [hu, Ne.symm hu]
    · simp only [List.filter_cons, ne_eq, hv, not_false_iff, decide_true, if_true, TagIndex.lookup, ih]
      by_cases hu : v = u
      · subst hu; simp [hv]
      · simp [hu]

theorem TagIndex.lookup_add (t u : Tag) (h : Handle) (index : TagIndex) (hc : TagIndex.canonical index = true) :
    TagIndex.lookup u (TagIndex.add t h index) = if u = t then some h else TagIndex.lookup u index := by
  induction index with
  | nil => simp [TagIndex.add, TagIndex.lookup, eq_comm]
  | cons e rest ih =>
    obtain ⟨v, k⟩ := e
    have hr : TagIndex.canonical rest = true := by
      simp only [TagIndex.canonical, decide_eq_true_eq] at hc ⊢; exact hc.of_cons
    simp only [TagIndex.add]
    split
    · simp only [TagIndex.lookup, eq_comm]
    · split
      · next e => subst e; simp only [TagIndex.lookup]; by_cases hu : v = u <;> simp [hu, Ne.symm]
      · next h1 h2 =>
        simp only [TagIndex.lookup, ih hr]
        by_cases hu : v = u
        · subst hu; simp [h2]
        · simp [hu]

theorem TagIndex.canonical_remove (t : Tag) (index : TagIndex) (h : TagIndex.canonical index = true) :
    TagIndex.canonical (TagIndex.remove t index) = true := by
  simp only [TagIndex.canonical, decide_eq_true_eq] at h ⊢
  exact h.filter _

theorem TagIndex.mem_add {t : Tag} {h : Handle} {index : TagIndex} {e : Tag × Handle}
    (he : e ∈ TagIndex.add t h index) : e = (t, h) ∨ e ∈ index := by
  induction index with
  | nil => simpa [TagIndex.add] using he
  | cons x rest ih =>
    obtain ⟨v, k⟩ := x
    simp only [TagIndex.add] at he
    split at he
    · simpa using he
    · split at he
      · rcases List.mem_cons.mp he with he | he
        · exact .inl he
        · exact .inr (List.mem_cons_of_mem _ he)
      · rcases List.mem_cons.mp he with he | he
        · exact .inr (by simp [he])
        · exact (ih he).imp id (List.mem_cons_of_mem _)

theorem TagIndex.canonical_add (t : Tag) (h : Handle) (index : TagIndex) (hc : TagIndex.canonical index = true) :
    TagIndex.canonical (TagIndex.add t h index) = true := by
  induction index with
  | nil => simp [TagIndex.add, TagIndex.canonical]
  | cons x rest ih =>
    obtain ⟨v, k⟩ := x
    simp only [TagIndex.canonical, decide_eq_true_eq] at hc ih ⊢
    have hr := ih hc.of_cons
    have hm := (List.pairwise_cons.mp hc).1
    simp only [TagIndex.add]
    split
    · next h1 =>
      refine List.pairwise_cons.mpr ⟨fun e he => ?_, hc⟩
      rcases List.mem_cons.mp he with rfl | he
      · exact h1
      · exact lt_trans h1 (hm e he)
    · split
      · next h2 => subst h2; exact List.pairwise_cons.mpr ⟨hm, hc.of_cons⟩
      · next h1 h2 =>
        refine List.pairwise_cons.mpr ⟨fun e he => ?_, hr⟩
        rcases TagIndex.mem_add he with rfl | he
        · have : v.toNat ≠ t.toNat := fun e => h2 (BitVec.eq_of_toNat_eq e)
          simp only at h1 ⊢; omega
        · exact hm e he

/-! ### Records -/

theorem State.modRecord_eq (s : State) (c : Handle) (f : CarrierRecord → CarrierRecord) :
    s.modRecord c f
      = { s with carriers := { s.carriers with records := s.carriers.records.set c (f (s.record c)) } } := rfl

theorem State.setException_eq (s : State) (c : Handle) (k : ExceptionKind) :
    s.setException c k
      = { s with
          carriers :=
            { records := s.carriers.records.set c { s.record c with exception := some k }
              exceptionCount := (s.record c).raised s.carriers.exceptionCount } } := rfl

theorem State.clearException_eq (s : State) (c : Handle) :
    s.clearException c
      = { s with
          carriers :=
            { records := s.carriers.records.set c { s.record c with exception := none }
              exceptionCount := if (s.record c).exception.isSome then s.carriers.exceptionCount - 1
                else s.carriers.exceptionCount } } := rfl

theorem State.makeLost_eq (s : State) (c : Handle) (k : ExceptionKind) :
    s.makeLost c k
      = { s with
          carriers :=
            { records := s.carriers.records.set c ((s.record c).lostBy k)
              exceptionCount := (s.record c).raised s.carriers.exceptionCount } } := by
  simp only [State.makeLost, State.setException_eq, State.modRecord_eq, State.record, Table.get_set_self, Table.set_set]
  rfl

/-- A whole list of carriers made LOST, as a skip or a purge does: each becomes LOST, and the count rises by those that held
no exception. -/
theorem State.makeLost_foldl (ahead : List Handle) (k : ExceptionKind) (s : State) (hn : ahead.Nodup) :
    ∃ t : State, ahead.foldl (fun s h => s.makeLost h k) s = { s with carriers := t.carriers }
      ∧ t.carriers.exceptionCount
        = s.carriers.exceptionCount + ahead.countP (fun h => (s.record h).exception.isNone)
      ∧ ∀ h, t.record h = if h ∈ ahead then (s.record h).lostBy k else s.record h := by
  induction ahead generalizing s with
  | nil => exact ⟨s, rfl, by simp, by simp⟩
  | cons a l ih =>
    obtain ⟨t, h1, h2, h3⟩ := ih (s.makeLost a k) hn.of_cons
    have ha : a ∉ l := (List.nodup_cons.mp hn).1
    have hrec : ∀ h, (s.makeLost a k).record h = if h = a then (s.record a).lostBy k else s.record h := by
      intro h
      rw [State.makeLost_eq]
      simp only [State.record, Table.get_set, eq_comm]
    refine ⟨t, ?_, ?_, ?_⟩
    · rw [List.foldl_cons, h1, State.makeLost_eq]
    · rw [h2, List.countP_cons, State.makeLost_eq]
      have e1 : (s.record a).raised s.carriers.exceptionCount
          = s.carriers.exceptionCount + if (s.record a).exception.isNone then 1 else 0 := by
        unfold CarrierRecord.raised; cases (s.record a).exception <;> simp
      have e2 : l.countP (fun h => ((s.makeLost a k).record h).exception.isNone)
          = l.countP (fun h => (s.record h).exception.isNone) := by
        apply List.countP_congr
        intro x hx
        rw [hrec, if_neg (fun he : x = a => ha (he ▸ hx))]
      rw [State.makeLost_eq] at e2
      rw [e2]
      show (s.record a).raised s.carriers.exceptionCount + _ = _
      rw [e1]; omega
    · intro h
      rw [h3, hrec]
      by_cases hh : h = a
      · subst hh; simp [ha]
      · simp [hh]

theorem State.markEarly_eq (s : State) (c : Handle) :
    s.markEarly c
      = s.modRecord c fun r => { r with flags := { r.flags with early := r.flags.early || s.early c } } := by
  rw [State.modRecord_eq]
  cases h : s.early c
  · have : s.carriers.records.set c (s.record c) = s.carriers.records := Table.set_get_self _ _
    simp only [State.markEarly, h, Bool.or_false, this]; rfl
  · simp only [State.markEarly, h, Bool.or_true]; rfl

/-! ### Decisions -/

/-- A decision depends on the carrier's route, the map, the outlets, the route store, the toggles, and what queues and
reservations hold. -/
theorem State.decide_congr {s t : State} (k : Station) (c : Handle) (hr : (t.record c).route = (s.record c).route)
    (hm : t.map = s.map) (ho : t.outlets = s.outlets) (hro : t.routes = s.routes) (hto : t.toggles = s.toggles)
    (hq : t.tracker.queues = s.tracker.queues) (hrv : t.tracker.reserved = s.tracker.reserved) :
    t.decide k c = s.decide k c := by
  have e1 : ∀ g, t.depth g = s.depth g := by intro g; simp only [State.depth, State.queue, State.reservedCount, hq, hrv]
  have e2 : ∀ st, t.station st = s.station st := by intro st; simp only [State.station, hm]
  have e3 : ∀ st, t.segment st = s.segment st := by intro st; simp only [State.segment, hm]
  have e4 : ∀ g, t.leadsToUnavailable g = s.leadsToUnavailable g := by
    intro g; simp only [State.leadsToUnavailable, e3, e1, State.isOutlet, e2, State.outlet, ho]
  have e5 : ∀ e, t.exitUnavailable k e = s.exitUnavailable k e := by
    intro e; simp only [State.exitUnavailable, e2, e4]
  have e6 : ∀ e, t.exitDepth k e = s.exitDepth k e := by
    intro e; simp only [State.exitDepth, e2, e1]
  have e7 : ∀ e, t.exitHasRoom k e = s.exitHasRoom k e := by
    intro e; simp only [State.exitHasRoom, e2, State.hasRoom, e1, e3]
  have e8 : t.preferredExit k c = s.preferredExit k c := by
    simp only [State.preferredExit, e2, hr, State.routeEntry, State.stageOf, State.programOf, State.slotOf, hro, State.setOf,
      State.balance, e5, e6, hto]
  simp only [State.decide, e8, e5, State.roomTest, e7, e2]

theorem State.dwellTest_congr {s t : State} (k : Station) (c : Handle)
    (hr : (t.record c).route = (s.record c).route) (hf : (t.record c).flags.dwelt = (s.record c).flags.dwelt)
    (hro : t.routes = s.routes) : t.dwellTest k c = s.dwellTest k c := by
  have : t.stageOf = s.stageOf := by funext r; simp only [State.stageOf, State.programOf, State.slotOf, hro]
  simp only [State.dwellTest, hr, hf, this]

theorem State.markDecision_eq (s : State) (k : Station) (c : Handle) (d : Decision) :
    s.markDecision k c d
      = { s with
          carriers := { s.carriers with
            records := s.carriers.records.set c
              { s.record c with flags := { (s.record c).flags with missed := (s.record c).flags.missed || d.missed } } }
          toggles := s.togglesAfter k d } := by
  obtain ⟨ch, mi, fl⟩ := d
  have hs : s.carriers.records.set c (s.record c) = s.carriers.records := Table.set_get_self _ _
  cases mi
  · cases fl <;> simp only [Bool.or_false, hs] <;> rfl
  · cases fl <;> simp only [Bool.or_true] <;> rfl

theorem State.directTo_eq (s : State) (k : Station) (c : Handle) (e : Exit) (kind : DirectiveKind)
    (answering : Option Byte) (g : Segment) (hg : (s.station k).exitSegment e.val = some g) :
    s.directTo k c e kind answering
      = { s with
          carriers := { s.carriers with
            records := s.carriers.records.set c
              { s.record c with state := .atStation, location := .atStation k, window := none } }
          tracker := { s.tracker with reserved := s.tracker.reserved.set g (s.reservedCount g + 1) }
          custody := s.custody.set k (.occupied c e
            (if (s.station k).occupancyLimit = 0 then none
              else some (s.lineTime + (s.station k).occupancyLimit.setWidth 32)))
          link := s.linkWith k ((s.linkOf k).placed kind answering) } := by
  rw [State.directTo]
  have : ((s.putInCustody k c .atStation).station k).exitSegment e.val = some g := hg
  simp only [this]; rfl

theorem State.block_eq (s : State) (k : Station) (c : Handle) (g : Segment) :
    s.block k c (some g)
      = { s with
          carriers := { s.carriers with
            records := s.carriers.records.set c
              { s.record c with state := .held, location := .atStation k, window := none } }
          tracker := { s.tracker with waiters := s.tracker.waiters.set g (s.waiterList g ++ [k]) }
          custody := s.custody.set k (.heldBlocked c) } := rfl

/-- A decision that directs, applied. -/
theorem State.markDecision_directTo (s : State) (k : Station) (c : Handle) (d : Decision) (e : Exit)
    (kind : DirectiveKind) (answering : Option Byte) (g : Segment)
    (hg : (s.station k).exitSegment e.val = some g) :
    (s.markDecision k c d).directTo k c e kind answering
      = s.directed k c (s.record c) d e g (s.linkWith k ((s.linkOf k).placed kind answering)) := by
  have hg' : ((s.markDecision k c d).station k).exitSegment e.val = some g := by rw [State.markDecision_eq]; exact hg
  rw [State.directTo_eq _ k c e kind answering g hg', State.markDecision_eq]
  simp only [State.record, Table.get_set_self, Table.set_set]
  rfl

/-- A decision that blocks, applied. -/
theorem State.markDecision_block (s : State) (k : Station) (c : Handle) (d : Decision) (g : Segment) :
    (s.markDecision k c d).block k c (some g) = s.blockedOn k c (s.record c) d g s.link := by
  rw [State.block_eq, State.markDecision_eq]
  simp only [State.record, Table.get_set_self, Table.set_set]
  rfl

/-! ### Bound counts -/

/-- Unbinding a slot changes the Route Store alone. -/
theorem State.unbindSlot?_eq (s : State) (q : Option Slot) :
    s.unbindSlot? q = { s with routes := (s.unbindSlot? q).routes } := by
  cases q with | none => rfl | some q =>
  simp only [State.unbindSlot?, State.unbindSlot]
  cases (s.slotOf q).state
  case draining => simp only; split <;> rfl
  all_goals rfl

/-- What unbinding makes of the Route Store depends on the Route Store alone. -/
theorem State.unbindSlot?_congr (s t : State) (q : Option Slot) (h : t.routes = s.routes) :
    (t.unbindSlot? q).routes = (s.unbindSlot? q).routes := by
  cases q with | none => exact h | some q =>
  simp only [State.unbindSlot?, State.unbindSlot, State.slotOf, h]
  cases (s.routes.slots.get q).state
  case draining p =>
    by_cases hb : (s.routes.slots.get q).bound - 1 = 0 <;>
      simp [hb, State.withSlot, State.releaseReferences, State.withSets, State.withRoutes, h]
  all_goals simp only [State.withSlot, State.withRoutes, h]

theorem State.strand_eq (s : State) (c : Handle) :
    s.strand c
      = { s with
          carriers :=
            { records := s.carriers.records.set c
                { s.record c with
                  route := none, exception := some .stranded, flags := { (s.record c).flags with dwelt := false } }
              exceptionCount := (s.record c).raised s.carriers.exceptionCount }
          routes := (s.unbindSlot? ((s.record c).route.map RouteRef.slot)).routes } := by
  rw [State.strand, State.unbindSlot?_eq]
  simp only [State.setException_eq, State.modRecord_eq, State.record, Table.get_set_self, Table.set_set]
  rfl

/-! ### The stage transition of a clear -/

/-- From `s` to `t` nothing changes but the Carrier Table and the Route Store, and of each record neither state, location,
last segment nor window. -/
def State.OnRoutes (s t : State) : Prop :=
  t = { s with carriers := t.carriers, routes := t.routes }
    ∧ ∀ h, (t.record h).state = (s.record h).state ∧ (t.record h).location = (s.record h).location
      ∧ (t.record h).lastSegment = (s.record h).lastSegment ∧ (t.record h).window = (s.record h).window

theorem State.OnRoutes.refl (s : State) : s.OnRoutes s := ⟨rfl, fun _ => ⟨rfl, rfl, rfl, rfl⟩⟩

theorem State.OnRoutes.trans {s t u : State} (h : s.OnRoutes t) (h' : t.OnRoutes u) : s.OnRoutes u :=
  ⟨by rw [h'.1, h.1], fun x =>
    ⟨(h'.2 x).1.trans (h.2 x).1, (h'.2 x).2.1.trans (h.2 x).2.1, (h'.2 x).2.2.1.trans (h.2 x).2.2.1,
      (h'.2 x).2.2.2.trans (h.2 x).2.2.2⟩⟩

theorem State.OnRoutes.modRecord (s : State) (c : Handle) (f : CarrierRecord → CarrierRecord)
    (hf : ∀ r, (f r).state = r.state ∧ (f r).location = r.location ∧ (f r).lastSegment = r.lastSegment
      ∧ (f r).window = r.window) : s.OnRoutes (s.modRecord c f) := by
  refine ⟨rfl, fun h => ?_⟩
  rw [State.record_modRecord]
  split
  · next e => subst e; exact hf _
  · exact ⟨rfl, rfl, rfl, rfl⟩

theorem State.OnRoutes.unbindSlot? (s : State) (q : Option Slot) : s.OnRoutes (s.unbindSlot? q) := by
  rw [State.unbindSlot?_eq]; exact ⟨rfl, fun _ => ⟨rfl, rfl, rfl, rfl⟩⟩

theorem State.OnRoutes.strand (s : State) (c : Handle) : s.OnRoutes (s.strand c) := by
  refine ⟨by rw [State.strand_eq], fun h => ?_⟩
  rw [State.strand_eq]
  simp only [State.record, Table.get_set]
  split
  · next e => subst e; exact ⟨rfl, rfl, rfl, rfl⟩
  · exact ⟨rfl, rfl, rfl, rfl⟩

theorem State.OnRoutes.takeLoop (s : State) (c : Handle) (r : RouteRef) (p : Program) :
    s.OnRoutes (s.takeLoop c r p) := by
  have mr : ∀ (s : State) f, (∀ r : CarrierRecord, (f r).state = r.state ∧ (f r).location = r.location
      ∧ (f r).lastSegment = r.lastSegment ∧ (f r).window = r.window) → s.OnRoutes (s.modRecord c f) :=
    fun s f hf => .modRecord s c f hf
  have same : ∀ r : CarrierRecord, r.state = r.state ∧ r.location = r.location ∧ r.lastSegment = r.lastSegment
      ∧ r.window = r.window := fun _ => ⟨rfl, rfl, rfl, rfl⟩
  simp only [State.takeLoop]
  split
  · exact .strand ..
  · split
    · exact .strand ..
    · split
      · exact mr _ _ same
      · split
        · exact .trans (mr s (fun r => { r with flags := { r.flags with exhausted := true } }) same) (mr _ _ same)
        · exact .trans (mr s (fun r => { r with flags := { r.flags with exhausted := true } }) same) (.strand ..)

/-- A stage transition changes the Carrier Table and the Route Store alone, and leaves where each carrier is. -/
theorem State.stageTransition_onRoutes (s : State) (k : Station) (e : Byte) (c : Handle) :
    s.OnRoutes (s.stageTransition k e c) := by
  have same : ∀ r : CarrierRecord, r.state = r.state ∧ r.location = r.location ∧ r.lastSegment = r.lastSegment
      ∧ r.window = r.window := fun _ => ⟨rfl, rfl, rfl, rfl⟩
  simp only [State.stageTransition]
  split
  · exact .trans (.unbindSlot? ..) (.modRecord _ _ _ same)
  · exact .refl s
  · split
    · exact .refl s
    · split
      · exact .refl s
      · simp only [State.endAction]
        split
        · split
          · simp only [State.takeAdvance]
            split
            · exact .modRecord _ _ _ same
            · exact .refl s
          · exact .refl s
        · split
          · exact .takeLoop ..
          · exact .refl s
        · split
          · split
            · exact .takeLoop ..
            · exact .refl s
          · exact .refl s

/-! ### Appending -/

/-- The window of an appended carrier depends on the line time, the map, the zones, and the tail's window. -/
theorem State.appendWindow_congr {s t : State} (g : Segment) (h1 : t.lineTime = s.lineTime) (h2 : t.map = s.map)
    (h3 : t.zones = s.zones) (h4 : t.queue g = s.queue g)
    (h5 : ∀ h ∈ s.queue g, (t.record h).window = (s.record h).window) : t.appendWindow g = s.appendWindow g := by
  have e1 : t.segment g = s.segment g := by simp only [State.segment, h2]
  have e2 : t.segmentSuspended g = s.segmentSuspended g := by
    simp only [State.segmentSuspended, State.segmentZone, State.segment, State.station, State.zoneHalted, h2, h3]
  have e3 : t.tailRemaining g = s.tailRemaining g := by
    simp only [State.tailRemaining, h4]
    cases hl : (s.queue g).getLast? with
    | none => rfl
    | some x => simp only [h5 x (List.mem_of_getLast? hl)]
  have e4 : t.tailDeadline g = s.tailDeadline g := by
    simp only [State.tailDeadline, h4, h1]
    cases hl : (s.queue g).getLast? with
    | none => rfl
    | some x => simp only [h5 x (List.mem_of_getLast? hl)]
  simp only [State.appendWindow, e1, e2, e3, e4, h1]

theorem State.append_eq (s : State) (g : Segment) (c : Handle) (state : CarrierState) :
    s.append g c state
      = { s with
          carriers := { s.carriers with
            records := s.carriers.records.set c
              { s.record c with
                state, location := .onSegment g, lastSegment := some g, window := some (s.appendWindow g) } }
          tracker := { s.tracker with queues := s.tracker.queues.set g (s.queue g ++ [c]) } } := rfl

/-! ### Station answers -/

/-- An answer from the polled station is taken as that station's. -/
theorem State.polled_headFrom {s : State} {k : Station} (h : s.link.outstanding = some k) (d : Option Byte) :
    s.polled (headFrom k d) = some k := by
  have : (byteNat k.val).toNat = k.val := by
    simp only [byteNat, BitVec.toNat_ofNat]; exact Nat.mod_eq_of_lt (lt_trans k.isLt (by decide))
  simp [State.polled, h, headFrom, this]

/-- The end of a transaction with a configured station, and its directive acknowledgement, change its link record alone. -/
theorem State.beginAnswer_eq {s : State} {k : Station} (d : Option Byte) (h : s.configured k = true) :
    s.beginAnswer k d = s.withLink (s.linkAfter k ((s.linkOf k).heard d)) := by
  simp only [State.beginAnswer, h, State.endTransaction, State.withLinkOf, State.withLink, State.linkAfter]
  congr 3
  rcases hl : s.linkOf k with ⟨st, mc, acc, ack, slot, ln⟩
  rcases st with _ | _ <;> rcases slot with _ | x | x <;>
    simp [LinkRecord.answered, LinkRecord.heard, LinkRecord.acknowledgeDirective] <;> split <;> simp_all

/-- A report that is neither a duplicate nor refused outright is handed on, then acknowledged. -/
theorem State.takeReport_handsOn {s : State} {k : Station} {d : Option Byte} {seq : Byte} (h : s.HandsOn k seq)
    (r : Report) :
    (s.beginAnswer k d).takeReport k seq r
      = (((s.withLink (s.linkAfter k ((s.linkOf k).heard d))).handOnReport k seq r).1.acknowledge k
          ⟨seq, ((s.withLink (s.linkAfter k ((s.linkOf k).heard d))).handOnReport k seq r).2⟩) := by
  obtain ⟨h1, h2, h3, h4⟩ := h
  rw [State.beginAnswer_eq d h2]
  have hc : (s.withLink (s.linkAfter k ((s.linkOf k).heard d))).configured k = true := h2
  have hl : (s.withLink (s.linkAfter k ((s.linkOf k).heard d))).linkOf k = (s.linkOf k).heard d := by
    simp [State.linkOf, State.linkAfter]
  simp only [State.takeReport, hc, hl]
  have : ∀ a, ((s.linkOf k).heard d).accepted = some a → a.seq ≠ seq := by
    intro a ha
    simp only [LinkRecord.heard] at ha
    cases hst : (s.linkOf k).state <;> rw [hst] at ha <;> simp at ha
    exact h4 a hst ha
  cases hacc : ((s.linkOf k).heard d).accepted with
  | none => rfl
  | some a => simp [this a hacc]

/-- An ARRIVAL handed on at an IDLE station is resolved, and answered OK. -/
theorem execArrival_idle {s : State} {k : Station} {d : Option Byte} {seq : Byte} (port : Byte) (tag : Tag)
    (h : s.HandsOn k seq) (hi : s.custodyOf k = .idle) :
    execArrival (headFrom k d) seq port tag s
      = .next (((s.withLink (s.linkAfter k ((s.linkOf k).heard d))).resolveArrival k port tag seq).acknowledge k
          ⟨seq, .ok⟩) := by
  have hd : (headFrom k d).directive = d := rfl
  have hi' : (s.withLink (s.linkAfter k ((s.linkOf k).heard d))).custodyOf k = .idle := hi
  simp only [execArrival, State.takeAnswer, State.polled_headFrom h.1]
  rw [hd, State.takeReport_handsOn h]
  simp [State.handOnReport, h.2.2.1, State.takeArrival, hi']

/-- A CLEAR handed on at a station with an occupant, not HALTED, clears that occupant, and is answered OK. -/
theorem execClear_occupied {s : State} {k : Station} {d : Option Byte} {seq : Byte} {c : Handle} (b : Byte)
    (h : s.HandsOn k seq) (ho : (s.custodyOf k).occupant? = some c) (hh : (s.custodyOf k).isHalted = false) :
    execClear (headFrom k d) seq b s
      = .next (((s.withLink (s.linkAfter k ((s.linkOf k).heard d))).clearOccupant k c b).acknowledge k ⟨seq, .ok⟩) := by
  have hd : (headFrom k d).directive = d := rfl
  have hc' : (s.withLink (s.linkAfter k ((s.linkOf k).heard d))).custodyOf k = s.custodyOf k := rfl
  simp only [execClear, State.takeAnswer, State.polled_headFrom h.1]
  rw [hd, State.takeReport_handsOn h]
  rcases hc : s.custodyOf k <;> rw [hc] at ho hh <;> simp [Custody.occupant?, Custody.isHalted] at ho hh <;> subst ho <;>
    simp [State.handOnReport, h.2.2.1, State.takeClear, hc', hc]

end Sys2Proof.Machine
end

