-- ==== Sys2Proof/Laws/PerInstr.lean ====
section
/-! SUPPORT. Per command: the bytes of its frame have the length its code requires and spell it (R198, R199). An event of the
line has no frame. -/

namespace Sys2Proof.Laws

/-- A well-formed command's parameter bytes, where it has a frame, have the required length and are read back as it. -/
def HostFrame.Statement (i : Instr) : Prop :=
  ∀ code ps, i.wellFormed = true → commandBytes i = some (code, ps) →
    requiredLength code = some ps.length ∧ parseCommand code ps = some i

/-- The two bytes of a 2-byte field are the field. -/
theorem word16_leBytes (x : BitVec 16) : word16 (byteOf x 0) (byteOf x 1) = x := by
  rw [word16, byteOf, byteOf, BitVec.extractLsb'_append_extractLsb'_eq_extractLsb' (by decide)]
  exact BitVec.extractLsb'_eq_self

/-- The six bytes of a tag field are the field. -/
theorem word48_leBytes (x : BitVec 48) :
    word48 (byteOf x 0) (byteOf x 1) (byteOf x 2) (byteOf x 3) (byteOf x 4) (byteOf x 5) = x := by
  simp only [word48, byteOf]
  iterate 5 rw [BitVec.extractLsb'_append_extractLsb'_eq_extractLsb' (by decide)]
  exact BitVec.extractLsb'_eq_self

/-- The bytes of entry places are read back as the places. -/
theorem placesOf_placeBytes (places : List EntryPlace) : placesOf (placeBytes places) = places := by
  induction places with
  | nil => rfl
  | cons p ps ih => exact congrArg (p :: ·) ih

theorem placeBytes_length (places : List EntryPlace) : (placeBytes places).length = 4 * places.length := by
  induction places with
  | nil => rfl
  | cons p ps ih => simp only [placeBytes, List.flatMap_cons, List.length_append] at ih ⊢; simp [ih]; omega

/-- POWER_ON has no frame. -/
theorem HostFrame.powerOn : HostFrame.Statement (.powerOn) := fun _ _ _ e => nomatch e

/-- READY_SET has no frame. -/
theorem HostFrame.readySet : HostFrame.Statement (.readySet) := fun _ _ _ e => nomatch e

/-- HALT_INPUT_ASSERTED has no frame. -/
theorem HostFrame.haltInputAsserted line : HostFrame.Statement (.haltInputAsserted line) := fun _ _ _ e => nomatch e

/-- HALT_INPUT_DEASSERTED has no frame. -/
theorem HostFrame.haltInputDeasserted line : HostFrame.Statement (.haltInputDeasserted line) := fun _ _ _ e => nomatch e

/-- POLL_SENT has no frame. -/
theorem HostFrame.pollSent : HostFrame.Statement (.pollSent) := fun _ _ _ e => nomatch e

/-- REPLY_WINDOW_CLOSED has no frame. -/
theorem HostFrame.replyWindowClosed : HostFrame.Statement (.replyWindowClosed) := fun _ _ _ e => nomatch e

/-- ANSWER_DISCARDED has no frame. -/
theorem HostFrame.answerDiscarded bytes : HostFrame.Statement (.answerDiscarded bytes) := fun _ _ _ e => nomatch e

/-- ANSWER has no frame. -/
theorem HostFrame.answer head : HostFrame.Statement (.answer head) := fun _ _ _ e => nomatch e

/-- ARRIVAL has no frame. -/
theorem HostFrame.arrival head seq port tag : HostFrame.Statement (.arrival head seq port tag) := fun _ _ _ e => nomatch e

/-- CLEAR has no frame. -/
theorem HostFrame.clear head seq exit : HostFrame.Statement (.clear head seq exit) := fun _ _ _ e => nomatch e

/-- ROOM_EVENT_GRANT has no frame. -/
theorem HostFrame.roomEventGrant segment : HostFrame.Statement (.roomEventGrant segment) := fun _ _ _ e => nomatch e

/-- TRANSIT_EXPIRY has no frame. -/
theorem HostFrame.transitExpiry segment : HostFrame.Statement (.transitExpiry segment) := fun _ _ _ e => nomatch e

/-- DWELL_EXPIRY has no frame. -/
theorem HostFrame.dwellExpiry station : HostFrame.Statement (.dwellExpiry station) := fun _ _ _ e => nomatch e

/-- OCCUPANCY_EXPIRY has no frame. -/
theorem HostFrame.occupancyExpiry station : HostFrame.Statement (.occupancyExpiry station) := fun _ _ _ e => nomatch e

/-- VALIDATION_COMPLETE has no frame. -/
theorem HostFrame.validationComplete : HostFrame.Statement (.validationComplete) := fun _ _ _ e => nomatch e

/-- SCAN_EXAMINE has no frame. -/
theorem HostFrame.scanExamine : HostFrame.Statement (.scanExamine) := fun _ _ _ e => nomatch e

/-- COMMAND_TRANSACTION has no frame. -/
theorem HostFrame.commandTransaction edge bytes : HostFrame.Statement (.commandTransaction edge bytes) := fun _ _ _ e => nomatch e

/-- READ_TRANSACTION has no frame. -/
theorem HostFrame.readTransaction bits : HostFrame.Statement (.readTransaction bits) := fun _ _ _ e => nomatch e

/-- START. -/
theorem HostFrame.start : HostFrame.Statement (.start) := by
  intro code ps _ e
  obtain ⟨rfl, rfl⟩ := (Prod.mk.injEq ..).mp (Option.some.inj e)
  exact ⟨rfl, rfl⟩

/-- STOP. -/
theorem HostFrame.stop : HostFrame.Statement (.stop) := by
  intro code ps _ e
  obtain ⟨rfl, rfl⟩ := (Prod.mk.injEq ..).mp (Option.some.inj e)
  exact ⟨rfl, rfl⟩

/-- RESET_TRACKING. -/
theorem HostFrame.resetTracking : HostFrame.Statement (.resetTracking) := by
  intro code ps _ e
  obtain ⟨rfl, rfl⟩ := (Prod.mk.injEq ..).mp (Option.some.inj e)
  exact ⟨rfl, rfl⟩

/-- STATUS. -/
theorem HostFrame.status : HostFrame.Statement (.status) := by
  intro code ps _ e
  obtain ⟨rfl, rfl⟩ := (Prod.mk.injEq ..).mp (Option.some.inj e)
  exact ⟨rfl, rfl⟩

/-- SET_ATTN_MASK. -/
theorem HostFrame.setAttnMask mask : HostFrame.Statement (.setAttnMask mask) := by
  intro code ps _ e
  obtain ⟨rfl, rfl⟩ := (Prod.mk.injEq ..).mp (Option.some.inj e)
  exact ⟨rfl, rfl⟩

/-- READ_TIME. -/
theorem HostFrame.readTime : HostFrame.Statement (.readTime) := by
  intro code ps _ e
  obtain ⟨rfl, rfl⟩ := (Prod.mk.injEq ..).mp (Option.some.inj e)
  exact ⟨rfl, rfl⟩

/-- STATION_SET. -/
theorem HostFrame.stationSet params : HostFrame.Statement (.stationSet params) := by
  intro code ps _ e
  obtain ⟨rfl, rfl⟩ := (Prod.mk.injEq ..).mp (Option.some.inj e)
  refine ⟨rfl, ?_⟩
  show some (Instr.stationSet { params with
    occupancyLimit := word16 (byteOf params.occupancyLimit 0) (byteOf params.occupancyLimit 1) }) = _
  rw [word16_leBytes]

/-- SEGMENT_SET. -/
theorem HostFrame.segmentSet params : HostFrame.Statement (.segmentSet params) := by
  intro code ps _ e
  obtain ⟨rfl, rfl⟩ := (Prod.mk.injEq ..).mp (Option.some.inj e)
  refine ⟨rfl, ?_⟩
  show some (Instr.segmentSet { params with
    minTransit := word16 (byteOf params.minTransit 0) (byteOf params.minTransit 1)
    maxTransit := word16 (byteOf params.maxTransit 0) (byteOf params.maxTransit 1) }) = _
  rw [word16_leBytes, word16_leBytes]

/-- ZONE_SET. -/
theorem HostFrame.zoneSet zone policy : HostFrame.Statement (.zoneSet zone policy) := by
  intro code ps _ e
  obtain ⟨rfl, rfl⟩ := (Prod.mk.injEq ..).mp (Option.some.inj e)
  exact ⟨rfl, rfl⟩

/-- HALT_MAP. -/
theorem HostFrame.haltMap line mask : HostFrame.Statement (.haltMap line mask) := by
  intro code ps _ e
  obtain ⟨rfl, rfl⟩ := (Prod.mk.injEq ..).mp (Option.some.inj e)
  exact ⟨rfl, rfl⟩

/-- STATION_TUNE. -/
theorem HostFrame.stationTune params : HostFrame.Statement (.stationTune params) := by
  intro code ps _ e
  obtain ⟨rfl, rfl⟩ := (Prod.mk.injEq ..).mp (Option.some.inj e)
  refine ⟨rfl, ?_⟩
  simp only [leBytes, refBytes, List.range_succ_eq_map, List.range_zero, List.map_cons, List.map_nil, List.cons_append,
    List.nil_append, parseCommand, parseTwo, parseFew, parseMany, List.length_cons, List.length_nil, word16_leBytes,
    word48_leBytes]
  rfl

/-- SEGMENT_TUNE. -/
theorem HostFrame.segmentTune params : HostFrame.Statement (.segmentTune params) := by
  intro code ps _ e
  obtain ⟨rfl, rfl⟩ := (Prod.mk.injEq ..).mp (Option.some.inj e)
  refine ⟨rfl, ?_⟩
  simp only [leBytes, refBytes, List.range_succ_eq_map, List.range_zero, List.map_cons, List.map_nil, List.cons_append,
    List.nil_append, parseCommand, parseTwo, parseFew, parseMany, List.length_cons, List.length_nil, word16_leBytes,
    word48_leBytes]
  rfl

/-- OUTLET_SET. -/
theorem HostFrame.outletSet params : HostFrame.Statement (.outletSet params) := by
  intro code ps _ e
  obtain ⟨rfl, rfl⟩ := (Prod.mk.injEq ..).mp (Option.some.inj e)
  refine ⟨rfl, ?_⟩
  simp only [leBytes, refBytes, List.range_succ_eq_map, List.range_zero, List.map_cons, List.map_nil, List.cons_append,
    List.nil_append, parseCommand, parseTwo, parseFew, parseMany, List.length_cons, List.length_nil, word16_leBytes,
    word48_leBytes]
  rfl

/-- STATION_READ. -/
theorem HostFrame.stationRead station : HostFrame.Statement (.stationRead station) := by
  intro code ps _ e
  obtain ⟨rfl, rfl⟩ := (Prod.mk.injEq ..).mp (Option.some.inj e)
  exact ⟨rfl, rfl⟩

/-- SEGMENT_READ. -/
theorem HostFrame.segmentRead segment : HostFrame.Statement (.segmentRead segment) := by
  intro code ps _ e
  obtain ⟨rfl, rfl⟩ := (Prod.mk.injEq ..).mp (Option.some.inj e)
  exact ⟨rfl, rfl⟩

/-- SEGMENT_LIST. -/
theorem HostFrame.segmentList segment start : HostFrame.Statement (.segmentList segment start) := by
  intro code ps _ e
  obtain ⟨rfl, rfl⟩ := (Prod.mk.injEq ..).mp (Option.some.inj e)
  exact ⟨rfl, rfl⟩

/-- DECISION_WRITE. -/
theorem HostFrame.decisionWrite set count places : HostFrame.Statement (.decisionWrite set count places) := by
  intro code ps wf e
  obtain ⟨rfl, rfl⟩ := (Prod.mk.injEq ..).mp (Option.some.inj e)
  have hn : places.length = Config.entryPlaces := by simpa [Instr.wellFormed] using wf
  have hl : (placeBytes places).length = 32 := by rw [placeBytes_length, hn]; rfl
  refine ⟨?_, ?_⟩
  · rw [List.length_append, hl]; rfl
  · have many : ∀ l : List Byte, l.length = 32 →
        parseCommand 0x20 (set :: count :: l) = some (.decisionWrite set count (placesOf l)) := by
      intro l h
      match l, h with
      | b :: rest, h =>
        rw [parseCommand, if_neg (by simp only [List.length_cons] at h ⊢; omega)]
        · show (if (b :: rest).length = 4 * Config.entryPlaces then _ else none) = _
          exact if_pos h
        all_goals simp
    exact (many _ hl).trans (by rw [placesOf_placeBytes])

/-- DECISION_READ. -/
theorem HostFrame.decisionRead set : HostFrame.Statement (.decisionRead set) := by
  intro code ps _ e
  obtain ⟨rfl, rfl⟩ := (Prod.mk.injEq ..).mp (Option.some.inj e)
  exact ⟨rfl, rfl⟩

/-- ROUTE_OPEN. -/
theorem HostFrame.routeOpen slot : HostFrame.Statement (.routeOpen slot) := by
  intro code ps _ e
  obtain ⟨rfl, rfl⟩ := (Prod.mk.injEq ..).mp (Option.some.inj e)
  exact ⟨rfl, rfl⟩

/-- ROUTE_STAGE. -/
theorem HostFrame.routeStage params : HostFrame.Statement (.routeStage params) := by
  intro code ps _ e
  obtain ⟨rfl, rfl⟩ := (Prod.mk.injEq ..).mp (Option.some.inj e)
  refine ⟨rfl, ?_⟩
  simp only [leBytes, refBytes, List.range_succ_eq_map, List.range_zero, List.map_cons, List.map_nil, List.cons_append,
    List.nil_append, parseCommand, parseTwo, parseFew, parseMany, List.length_cons, List.length_nil, word16_leBytes,
    word48_leBytes]
  rfl

/-- ROUTE_PARAMS. -/
theorem HostFrame.routeParams params : HostFrame.Statement (.routeParams params) := by
  intro code ps _ e
  obtain ⟨rfl, rfl⟩ := (Prod.mk.injEq ..).mp (Option.some.inj e)
  exact ⟨rfl, rfl⟩

/-- ROUTE_ACTIVATE. -/
theorem HostFrame.routeActivate slot : HostFrame.Statement (.routeActivate slot) := by
  intro code ps _ e
  obtain ⟨rfl, rfl⟩ := (Prod.mk.injEq ..).mp (Option.some.inj e)
  exact ⟨rfl, rfl⟩

/-- ROUTE_WITHDRAW. -/
theorem HostFrame.routeWithdraw slot : HostFrame.Statement (.routeWithdraw slot) := by
  intro code ps _ e
  obtain ⟨rfl, rfl⟩ := (Prod.mk.injEq ..).mp (Option.some.inj e)
  exact ⟨rfl, rfl⟩

/-- ROUTE_DISCARD. -/
theorem HostFrame.routeDiscard slot : HostFrame.Statement (.routeDiscard slot) := by
  intro code ps _ e
  obtain ⟨rfl, rfl⟩ := (Prod.mk.injEq ..).mp (Option.some.inj e)
  exact ⟨rfl, rfl⟩

/-- ROUTE_READ. -/
theorem HostFrame.routeRead slot : HostFrame.Statement (.routeRead slot) := by
  intro code ps _ e
  obtain ⟨rfl, rfl⟩ := (Prod.mk.injEq ..).mp (Option.some.inj e)
  exact ⟨rfl, rfl⟩

/-- CLASS_BIND. -/
theorem HostFrame.classBind cls slot : HostFrame.Statement (.classBind cls slot) := by
  intro code ps _ e
  obtain ⟨rfl, rfl⟩ := (Prod.mk.injEq ..).mp (Option.some.inj e)
  exact ⟨rfl, rfl⟩

/-- INDUCT. -/
theorem HostFrame.induct params : HostFrame.Statement (.induct params) := by
  intro code ps _ e
  obtain ⟨rfl, rfl⟩ := (Prod.mk.injEq ..).mp (Option.some.inj e)
  refine ⟨rfl, ?_⟩
  simp only [leBytes, refBytes, List.range_succ_eq_map, List.range_zero, List.map_cons, List.map_nil, List.cons_append,
    List.nil_append, parseCommand, parseTwo, parseFew, parseMany, List.length_cons, List.length_nil, word16_leBytes,
    word48_leBytes]
  rfl

/-- QUERY. -/
theorem HostFrame.query ref : HostFrame.Statement (.query ref) := by
  intro code ps _ e
  obtain ⟨rfl, rfl⟩ := (Prod.mk.injEq ..).mp (Option.some.inj e)
  refine ⟨rfl, ?_⟩
  simp only [leBytes, refBytes, List.range_succ_eq_map, List.range_zero, List.map_cons, List.map_nil, List.cons_append,
    List.nil_append, parseCommand, parseTwo, parseFew, parseMany, List.length_cons, List.length_nil, word16_leBytes,
    word48_leBytes]
  rfl

/-- LOOKUP_TAG. -/
theorem HostFrame.lookupTag tag : HostFrame.Statement (.lookupTag tag) := by
  intro code ps _ e
  obtain ⟨rfl, rfl⟩ := (Prod.mk.injEq ..).mp (Option.some.inj e)
  refine ⟨rfl, ?_⟩
  simp only [leBytes, refBytes, List.range_succ_eq_map, List.range_zero, List.map_cons, List.map_nil, List.cons_append,
    List.nil_append, parseCommand, parseTwo, parseFew, parseMany, List.length_cons, List.length_nil, word16_leBytes,
    word48_leBytes]
  rfl

/-- REROUTE. -/
theorem HostFrame.reroute ref slot : HostFrame.Statement (.reroute ref slot) := by
  intro code ps _ e
  obtain ⟨rfl, rfl⟩ := (Prod.mk.injEq ..).mp (Option.some.inj e)
  refine ⟨rfl, ?_⟩
  simp only [leBytes, refBytes, List.range_succ_eq_map, List.range_zero, List.map_cons, List.map_nil, List.cons_append,
    List.nil_append, parseCommand, parseTwo, parseFew, parseMany, List.length_cons, List.length_nil, word16_leBytes,
    word48_leBytes]
  rfl

/-- RETIRE. -/
theorem HostFrame.retire ref : HostFrame.Statement (.retire ref) := by
  intro code ps _ e
  obtain ⟨rfl, rfl⟩ := (Prod.mk.injEq ..).mp (Option.some.inj e)
  refine ⟨rfl, ?_⟩
  simp only [leBytes, refBytes, List.range_succ_eq_map, List.range_zero, List.map_cons, List.map_nil, List.cons_append,
    List.nil_append, parseCommand, parseTwo, parseFew, parseMany, List.length_cons, List.length_nil, word16_leBytes,
    word48_leBytes]
  rfl

/-- FIND_EXCEPTION. -/
theorem HostFrame.findException start : HostFrame.Statement (.findException start) := by
  intro code ps _ e
  obtain ⟨rfl, rfl⟩ := (Prod.mk.injEq ..).mp (Option.some.inj e)
  refine ⟨rfl, ?_⟩
  simp only [leBytes, refBytes, List.range_succ_eq_map, List.range_zero, List.map_cons, List.map_nil, List.cons_append,
    List.nil_append, parseCommand, parseTwo, parseFew, parseMany, List.length_cons, List.length_nil, word16_leBytes,
    word48_leBytes]
  rfl

/-- HALT. -/
theorem HostFrame.halt zone : HostFrame.Statement (.halt zone) := by
  intro code ps _ e
  obtain ⟨rfl, rfl⟩ := (Prod.mk.injEq ..).mp (Option.some.inj e)
  exact ⟨rfl, rfl⟩

/-- RESUME. -/
theorem HostFrame.resume zone : HostFrame.Statement (.resume zone) := by
  intro code ps _ e
  obtain ⟨rfl, rfl⟩ := (Prod.mk.injEq ..).mp (Option.some.inj e)
  exact ⟨rfl, rfl⟩

/-- PURGE_SEGMENT. -/
theorem HostFrame.purgeSegment segment : HostFrame.Statement (.purgeSegment segment) := by
  intro code ps _ e
  obtain ⟨rfl, rfl⟩ := (Prod.mk.injEq ..).mp (Option.some.inj e)
  exact ⟨rfl, rfl⟩

/-- RELEASE. -/
theorem HostFrame.release station : HostFrame.Statement (.release station) := by
  intro code ps _ e
  obtain ⟨rfl, rfl⟩ := (Prod.mk.injEq ..).mp (Option.some.inj e)
  exact ⟨rfl, rfl⟩

/-- CLEAR_JAM. -/
theorem HostFrame.clearJam station outcome : HostFrame.Statement (.clearJam station outcome) := by
  intro code ps _ e
  obtain ⟨rfl, rfl⟩ := (Prod.mk.injEq ..).mp (Option.some.inj e)
  exact ⟨rfl, rfl⟩

/-- OUTLET_CLOSE. -/
theorem HostFrame.outletClose station : HostFrame.Statement (.outletClose station) := by
  intro code ps _ e
  obtain ⟨rfl, rfl⟩ := (Prod.mk.injEq ..).mp (Option.some.inj e)
  exact ⟨rfl, rfl⟩

/-- OUTLET_OPEN. -/
theorem HostFrame.outletOpen station : HostFrame.Statement (.outletOpen station) := by
  intro code ps _ e
  obtain ⟨rfl, rfl⟩ := (Prod.mk.injEq ..).mp (Option.some.inj e)
  exact ⟨rfl, rfl⟩

/-- OUTLET_EMPTIED. -/
theorem HostFrame.outletEmptied station : HostFrame.Statement (.outletEmptied station) := by
  intro code ps _ e
  obtain ⟨rfl, rfl⟩ := (Prod.mk.injEq ..).mp (Option.some.inj e)
  exact ⟨rfl, rfl⟩

/-- READ_UNTRACKED. -/
theorem HostFrame.readUntracked station choice : HostFrame.Statement (.readUntracked station choice) := by
  intro code ps _ e
  obtain ⟨rfl, rfl⟩ := (Prod.mk.injEq ..).mp (Option.some.inj e)
  exact ⟨rfl, rfl⟩

/-- LINE_TIME_TICK has no frame. -/
theorem HostFrame.lineTimeTick samples : HostFrame.Statement (.lineTimeTick samples) := fun _ _ _ e => nomatch e

end Sys2Proof.Laws
end

