-- ==== Sys2Proof/Tests/Slice0.lean ====
section
/-! SUPPORT. Tests: the well-formedness checks, frames written out from the manual, one step of each command on a small line
(expected values from the rules named), and for each statement with hypotheses a state that meets them. -/

namespace Sys2Proof.Tests

open Sys2Proof.Machine

-- One theorem at a time: each asks the kernel to run a command on a whole state.
set_option Elab.async false

/-! ### A small line: infeed 0, transfer 1 with exits to the outlets 2 and 3, all of zone 0; HALT0 mapped to zone 0 -/

/-- The state after a command. -/
def after (i : Instr) (s : State) : State := match exec i s with | .next t => t | _ => s

/-- The answer waiting after a command. -/
def answer (i : Instr) (s : State) : Option (AnswerCode × List Byte) :=
  match (after i s).port.slot with | .answered r => some (r.code, r.data) | _ => none

def infeed : StationRecord :=
  { StationRecord.powerOn with type := .infeed, port0 := some 0, exits := [1], checkLevel := .lenient }

def transfer : StationRecord :=
  { StationRecord.powerOn with
    type := .transfer, port0 := some 1, exits := [2, 3], skipLimit := 1, occupancyLimit := 5, rejectExit := some 1 }

def chute (g : Segment) : StationRecord := { StationRecord.powerOn with type := .outlet, port0 := some g }

def belt (u : Station) (e : Exit) (d : Station) (capacity : Nat) : SegmentRecord :=
  { kind := .conveyor, upstream := some (u, e), downstream := some (d, 0), capacity, minTransit := 5, maxTransit := 50 }

def staging : SegmentRecord :=
  { kind := .staging, upstream := none, downstream := some (0, 0), capacity := 4, minTransit := 0, maxTransit := 300 }

/-- The line in SETUP, the part ready, no carrier. -/
def bare : State :=
  { State.reset with
    lineTime := 100
    map :=
      { device := .setup
        stations := ((((Table.fill _ .powerOn).set 0 infeed).set 1 transfer).set 2 (chute 2)).set 3 (chute 3)
        segments :=
          ((((Table.fill _ .powerOn).set 0 staging).set 1 (belt 0 0 1 4)).set 2 (belt 1 0 2 2)).set 3 (belt 1 1 3 1)
        policies := Table.fill _ .suspend
        haltMap := (Table.fill _ 0).set 0 1 }
    outlets := Table.fill _ { capacity := 4, delivered := 0, closed := false, full := false, autoRetire := false }
    port := { State.reset.port with ready := true } }

/-- A route to outlet 2: an ADVANCE stage ending at station 1, then FINISH at station 2; set 0 sends station 1 to exit 0. -/
def program : Program :=
  { stageCount := 2
    stages := ((Table.fill _ none).set 0 (some ⟨0, 1, .advance, 0⟩)).set 1 (some ⟨0, 2, .finish, 0⟩)
    loopBase := some 0, lapLimit := 2, exhaustStage := none }

/-- A route that loops at station 1, with a dwell of 3 there; set 1 balances station 1. -/
def loop : Program :=
  { program with stages := (Table.fill _ none).set 0 (some ⟨1, 1, .loop, 3⟩), stageCount := 1 }

/-- The line RUNNING: slot 0 ACTIVE, slot 1 ACTIVE and looping, slot 2 a DRAFT, slot 3 DRAINING; class 7 bound to slot 0. -/
def running : State :=
  { bare with
    map := { bare.map with device := .running }
    routes :=
      { sets := ((Table.fill _ ⟨[], 0⟩).set 0 ⟨[⟨1, .fixed 0⟩], 4⟩).set 1 ⟨[⟨1, .balance 0 1⟩], 1⟩
        slots :=
          ((((Table.fill _ ⟨.empty, 0⟩).set 0 ⟨.active program, 0⟩).set 1 ⟨.active loop, 0⟩).set 2 ⟨.draft program, 0⟩).set 3
            ⟨.draining program, 1⟩
        classes := (Table.fill _ none).set 7 (some 0) } }

/-- A record of a carrier in a place. -/
def carrier (state : CarrierState) (location : Location) (window : Option Window) : CarrierRecord :=
  { CarrierRecord.free 2 with state, location, window, route := some ⟨0, 0, 0⟩ }

/-- `s` with record 5 made `r`. -/
def withFive (s : State) (r : CarrierRecord) : State := s.modRecord 5 fun _ => r

/-- Carrier 5 on segment 1, its earliest time reached, its deadline to come; station 1 has been polled. -/
def moving : State :=
  ((withFive running (carrier .inTransit (.onSegment 1) (some (.timed 90 150)))).withQueue 1 [5]).withLink
    { running.link with
      records := running.link.records.set 1 { LinkRecord.powerOn with state := .up }, outstanding := some 1 }

/-- Carrier 5 in the custody of station 1 in a state; station 1 has been polled. -/
def custodyAt (c : Custody) : State :=
  ((withFive running (carrier c.occupantState (.atStation 1) none)).withCustody 1 c).withLink moving.link

/-- Carrier 5 directed from station 1 to exit 0. -/
def directed : State := (custodyAt (.occupied 5 0 (some 100))).withReserved 2 1

/-- Carrier 5 jammed at station 1, directed to exit 0. -/
def jammed : State := (custodyAt (.jammed 5 0)).withReserved 2 1

/-- Carrier 5 blocked at station 1 on segment 2, which has room again and a room event raised. -/
def blocked : State := ((custodyAt (.heldBlocked 5)).withWaiters 2 [1]).withRoomEvents [2]

/-- Zone 0 HALTED by the host, every configured station HALTED IDLE. -/
def halted : State :=
  (running.withCustodies
      ((((Table.fill _ .idle).set 0 (.halted .idle)).set 1 (.halted .idle)).set 2 (.halted .idle) |>.set 3 (.halted .idle))).withZones
    { running.zones with causes := running.zones.causes.set 0 ⟨true, 0⟩ }

/-! ### Well-formedness -/

theorem test_decisionWrite_with_seven_places_is_ill_formed :
    (Instr.decisionWrite 0 0 (List.replicate 7 ⟨0, 0, 0, 0⟩)).wellFormed = false := by decide

theorem test_commandTransaction_with_the_read_selector_is_ill_formed :
    (Instr.commandTransaction (.rises 0xA5) []).wellFormed = false := by decide

theorem test_commandTransaction_with_bytes_at_the_fall_is_ill_formed :
    (Instr.commandTransaction .falls [0x04]).wellFormed = false := by decide

theorem test_commandTransaction_with_bytes_at_an_early_rise_is_ill_formed :
    (Instr.commandTransaction .risesEarly [0x04]).wellFormed = false := by decide

/-! ### Frames (R198: CRC-8 with polynomial 07h, first value 0; the STATUS transaction of the example) -/

theorem test_crc_of_04 : crc8 [0x04] = 0x1C := by decide +kernel
theorem test_crc_of_04_00 : crc8 [0x04, 0x00] = 0x54 := by decide +kernel
theorem test_status_frame : checkFrame [0x04, 0x00, 0x54] = .passed .status := by decide +kernel

/-- INDUCT at station 1, tag 0000000000A1h, class 7: the tag's low byte first. -/
theorem test_induct_frame :
    parseCommand 0x30 [1, 0xA1, 0, 0, 0, 0, 0, 1, 7] = some (.induct ⟨1, 0xA1, 1, 7⟩) := by decide

/-- REROUTE 0102h.3 to slot 4: the handle's low byte first. -/
theorem test_reroute_frame : parseCommand 0x33 [0x02, 0x01, 3, 4] = some (.reroute ⟨0x0102, 3⟩ 4) := by decide

theorem test_segmentTune_frame :
    parseCommand 0x15 [4, 6, 0, 0x10, 0x27, 0x98, 0x3A] = some (.segmentTune ⟨4, 6, 0, 10000, 15000⟩) := by decide

theorem test_decodeTableWord_spells_none : decodeTableWord 8 4 = none := rfl

/-! ### One step of each command -/

theorem test_step_takes_the_front :
    (match step { State.reset with pending := [.readySet, .status] } with
      | .next t => t.port.ready && t.pending == [.status] | _ => false) = true := by decide +kernel

theorem test_powerOn : (after .powerOn moving).lineTime = 0 ∧ ((after .powerOn moving).record 5).state = .free := by
  decide +kernel
theorem test_readySet : (after .readySet State.reset).port.ready = true := by decide +kernel
theorem test_lineTimeTick_wraps : (after (.lineTimeTick 1) { bare with lineTime := 0xFFFFFFFF }).lineTime = 0 := by
  decide +kernel
theorem test_haltInput_asserted :
    let t := after (.haltInputAsserted 0) (running.withZones { running.zones with lastSample := 1, priorSample := 1 })
    t.zoneHalted 0 = true ∧ t.custodyOf 1 = .halted .idle := by decide +kernel
/-- A glitch of one sample does not count (R157). -/
theorem test_haltInput_glitch :
    let t := after (.haltInputAsserted 0) (running.withZones { running.zones with lastSample := 1, priorSample := 0 })
    t.zones.levels = 0 ∧ t.zoneHalted 0 = false := by decide +kernel
theorem test_haltInput_deasserted_keeps_the_latch :
    let t := after (.haltInputDeasserted 0) (running.withZones
      { running.zones with causes := running.zones.causes.set 0 ⟨false, 1⟩, levels := 1 })
    t.zones.levels = 0 ∧ t.zoneHalted 0 = true := by decide +kernel
/-- Station 0, never polled: no acknowledgement (FFh) and no directive (R170, R201). -/
theorem test_pollSent : ((after .pollSent bare).link.pollFrame).take 6 = [0x80, 0, 0xFF, 0, 0, 0] := by decide +kernel
theorem test_replyWindowClosed : ((after .replyWindowClosed moving).linkOf 1).missCount = 1 := by decide +kernel
theorem test_answerDiscarded : (after (.answerDiscarded [1, 2, 3]) moving).link = moving.link := by decide +kernel
theorem test_answer_ends_the_transaction : (after (.answer ⟨1, none⟩) moving).link.outstanding = none := by decide +kernel
/-- The route sends 5 to exit 0: OCCUPIED, its timer at 100 + 5, one place reserved on segment 2, PASS placed. -/
theorem test_arrival_directs :
    let t := after (.arrival ⟨1, none⟩ 9 0 0) moving
    t.custodyOf 1 = .occupied 5 0 (some 105) ∧ t.reservedCount 2 = 1 ∧ t.queue 1 = []
      ∧ (t.linkOf 1).slot = .undelivered ⟨.pass, 1, some 9⟩ := by decide +kernel
theorem test_arrival_of_a_stranger :
    ((after (.arrival ⟨1, none⟩ 9 0 0) (moving.withQueue 1 [])).record 0).exception = some .stranger := by decide +kernel
/-- 5 leaves by exit 0 with window 100 + 5 and 100 + 50, in stage 1. -/
theorem test_clear_sends_on :
    let t := after (.clear ⟨1, none⟩ 9 0) directed
    t.queue 2 = [5] ∧ (t.record 5).window = some (.timed 105 150) ∧ (t.record 5).route = some ⟨0, 1, 0⟩
      ∧ t.reservedCount 2 = 0 := by decide +kernel
theorem test_clear_by_another_exit_deviates :
    let t := after (.clear ⟨1, none⟩ 9 1) directed
    t.queue 3 = [5] ∧ (t.record 5).flags.deviated = true ∧ t.tracker.roomEvents = [2] := by decide +kernel
theorem test_roomEventGrant_releases :
    ((after (.roomEventGrant 2) blocked).linkOf 1).slot = .undelivered ⟨.release 0, 1, none⟩ := by decide +kernel
theorem test_transitExpiry_at_the_deadline :
    ((after (.transitExpiry 1) { moving with lineTime := 150 }).record 5).exception = some .lostTimeout := by decide +kernel
theorem test_transitExpiry_one_tick_early :
    (after (.transitExpiry 1) { moving with lineTime := 149 }).queue 1 = [5] := by decide +kernel
theorem test_dwellExpiry : (after (.dwellExpiry 1) (custodyAt (.heldDwell 5 100))).custodyOf 1 = .occupied 5 0 (some 105) := by
  decide +kernel
theorem test_occupancyExpiry : (after (.occupancyExpiry 1) directed).custodyOf 1 = .jammed 5 0 := by decide +kernel
theorem test_validationComplete_accepts_the_line :
    (after .validationComplete { bare with map := { bare.map with device := .validating } }).map.device = .running := by
  decide +kernel
/-- Segment 2 unused: exit 0 of station 1 fails first (reason 04h, detail 0). -/
theorem test_validationComplete_reports :
    answer .validationComplete
        { bare with
          map := { bare.map with device := .validating, segments := bare.map.segments.set 2 SegmentRecord.powerOn } }
      = some (.validationFailed, [1, 1, 0x04, 0]) := by decide +kernel
theorem test_scanExamine_finds :
    answer .scanExamine ((withFive running { carrier .lost .nowhere none with exception := some .lostJam }).withPort
        { running.port with slot := .inFlight (.scan 5) })
      = some (.ok, [1, 5, 0, 2, 5, 7]) := by decide +kernel
theorem test_commandTransaction_status : answer (.commandTransaction (.rises 0x5A) [0x04, 0, 0x54]) bare = answer .status bare := by
  decide +kernel
theorem test_commandTransaction_bad_crc :
    answer (.commandTransaction (.rises 0x5A) [0x04, 0, 0x55]) bare = some (.frameError, []) := by decide +kernel
/-- One bit short of the CRC's last keeps the response; the last bit frees the slot (R190). -/
theorem test_readTransaction_complete :
    let s := bare.withPort { bare.port with slot := .answered ⟨4, .ok, []⟩ }
    (after (.readTransaction 31) s).port.slot = s.port.slot ∧ (after (.readTransaction 32) s).port.slot = .free := by
  decide +kernel
/-- FIND_EXCEPTION ends while a read is open: its status byte still shows BUSY and no response, the placeholder goes out,
and the response waits for the next read (R185, R190). -/
theorem test_readTransaction_with_a_response_placed_inside :
    let s := bare.withPort { bare.port with slot := .inFlight (.scan 1023) }
    let t := after (.readTransaction 32) (after .scanExamine (after (.commandTransaction .falls []) s))
    t.port.sdo = [0xC0, 0x35, 0x01, 0, crc8 [0x35, 0x01, 0]] ∧ t.port.slot = .answered ⟨0x35, .ok, [0, 255, 255, 255, 255, 255]⟩
      ∧ t.port.transaction = .none := by decide +kernel
/-- Ready rises inside a transaction that began without it: a status transaction of byte 00h, no command taken (R185). -/
theorem test_commandTransaction_with_ready_set_inside :
    let t := after (.commandTransaction (.rises 0x5A) [0x04, 0, 0x54])
      (after .readySet (after (.commandTransaction .falls []) State.reset))
    t.port.sdo = [0, 0, 0, 0] ∧ t.port.slot = .free := by decide +kernel
/-- A power-on inside a transaction abandons it: its frame is not taken, though ready was set before the rise, and the
next transaction is one of its own (R184, R185). -/
theorem test_commandTransaction_abandoned :
    let s := after .readySet (after .powerOn (after (.commandTransaction .falls []) bare))
    let t := after (.commandTransaction (.rises 0x5A) [0x04, 0, 0x54]) s
    s.port.transaction = .abandoned ∧ t.port = { s.port with transaction := .none } ∧ t.takesCommand = true := by
  decide +kernel
theorem test_start : (after .start bare).map.device = .validating := by decide +kernel
theorem test_stop : answer .stop moving = some (.inUse, []) ∧ (after .stop running).map.device = .setup := by decide +kernel
theorem test_resetTracking :
    answer .resetTracking running = some (.zoneRunning, [])
      ∧ ((after .resetTracking (withFive halted (carrier .lost .nowhere none))).record 5).generation = 3 := by decide +kernel
theorem test_status_length : ((answer .status moving).map fun x => x.2.length) = some 28 := by decide +kernel
theorem test_setAttnMask : (after (.setAttnMask 0x7F) bare).port.mask = 0x7F ∧ answer (.setAttnMask 0x80) bare = some (.badParam, []) := by
  decide +kernel
theorem test_readTime : answer .readTime { bare with lineTime := 0x01020304 } = some (.ok, [4, 3, 2, 1]) := by decide +kernel
theorem test_stationSet :
    (after (.stationSet ⟨4, 2, 1, 5, 0xFF, 6, 0xFF, 0xFF, 2, 7, 0, 0, 0xFF⟩) bare).station 4
      = { StationRecord.powerOn with
          type := .transfer, zone := 1, port0 := some 5, exits := [6], checkLevel := .strict, skipLimit := 7 } := by
  decide +kernel
theorem test_stationSet_running : answer (.stationSet ⟨4, 0, 0, 0, 0, 0, 0, 0, 0, 0, 0, 0, 0⟩) running = some (.notSetup, []) := by
  decide +kernel
theorem test_segmentSet : (after (.segmentSet ⟨9, 1, 0, 1, 2, 3, 1, 64, 5, 6⟩) bare).segment 9
    = ⟨.conveyor, some (1, 2), some (3, 1), 64, 5, 6⟩ := by decide +kernel
theorem test_zoneSet : (after (.zoneSet 7 1) bare).map.policies.get 7 = .restart := by decide +kernel
theorem test_haltMap_latches :
    (after (.haltMap 3 0x02) (bare.withZones { bare.zones with levels := 8 })).zones.causes.get 1 = ⟨false, 8⟩ := by
  decide +kernel
theorem test_stationTune_keeps : ((after (.stationTune ⟨1, 0x02, 0, 7, 9, 1, 0xFF⟩) bare).station 1) = { transfer with skipLimit := 7 } := by
  decide +kernel
theorem test_segmentTune_rise_raises : (after (.segmentTune ⟨3, 1, 2, 0, 0⟩) running).tracker.roomEvents = [3] := by decide +kernel
theorem test_outletSet_at_capacity :
    ((after (.outletSet ⟨2, 1, 3, 0⟩) (running.withOutlet 2 ⟨4, 3, false, false, false⟩)).outlet 2).full = true := by decide +kernel
theorem test_stationRead : ((answer (.stationRead 1) moving).map fun x => x.2.take 4) = some [2, 0, 1, 0xFF] := by decide +kernel
/-- Kind, upstream, downstream, capacity, window limits, zone, one queued, none reserved or waiting, head and tail 5.2. -/
theorem test_segmentRead :
    answer (.segmentRead 1) moving
      = some (.ok, [0, 0, 0, 1, 0, 4, 5, 0, 50, 0, 0, 1, 0, 0, 5, 0, 2, 5, 0, 2]) := by decide +kernel
theorem test_segmentList : answer (.segmentList 1 0) moving = some (.ok, [5, 0, 2, 1]) ∧ answer (.segmentList 1 1) moving = some (.ok, [1]) := by
  decide +kernel
theorem test_decisionWrite :
    ((after (.decisionWrite 9 1 (⟨3, 2, 1, 2⟩ :: List.replicate 7 ⟨0, 0, 0, 0⟩)) bare).setOf 9).entries = [⟨3, .balance 1 2⟩] := by
  decide +kernel
theorem test_decisionRead : answer (.decisionRead 0) running = some (.ok, [1, 1, 0, 0xFF, 4, 0]) := by decide +kernel
theorem test_routeOpen : ((after (.routeOpen 4) running).slotOf 4).state = .draft .cleared := by decide +kernel
theorem test_routeStage :
    ((after (.routeStage ⟨2, 8, 63, 31, 2, 9⟩) running).slotOf 2).state
      = .draft { program with stages := program.stages.set 8 (some ⟨63, 31, .finish, 9⟩) } := by decide +kernel
theorem test_routeParams_base_not_below_count : answer (.routeParams ⟨2, 1, 1, 1, 0xFF⟩) running = some (.badParam, []) := by
  decide +kernel
/-- A set that names an OUTLET, given an exit in SETUP, fails the ENTRY check (R117, reason 12h). -/
theorem test_routeActivate_entry_of_an_outlet :
    let s := bare.withMap { bare.map with stations := bare.map.stations.set 2 { chute 2 with exits := [4] } }
    answer (.routeActivate 2) { s with routes := { running.routes with sets := running.routes.sets.set 0 ⟨[⟨2, .fixed 0⟩], 0⟩ } }
      = some (.validationFailed, [3, 2, 0x12, 0]) := by decide +kernel
theorem test_routeActivate : ((after (.routeActivate 2) running).setOf 0).references = 6 := by decide +kernel
theorem test_routeWithdraw : answer (.routeWithdraw 0) running = some (.classReferenced, [])
    ∧ ((after (.routeWithdraw 1) running).slotOf 1).state = .empty := by decide +kernel
theorem test_routeDiscard : ((after (.routeDiscard 2) running).slotOf 2).state = .empty := by decide +kernel
theorem test_routeRead : ((answer (.routeRead 0) running).map fun x => x.2.take 12) = some [2, 0, 0, 2, 0, 2, 0xFF, 0, 1, 0, 0, 0] := by
  decide +kernel
theorem test_classBind : answer (.classBind 1 2) running = some (.routeUnavailable, []) := by decide +kernel
theorem test_induct_by_class :
    answer (.induct ⟨0, 0xA1, 1, 7⟩) running = some (.ok, [0, 0, 0])
      ∧ (after (.induct ⟨0, 0xA1, 1, 7⟩) running).tags = [(0xA1, 0)] := by decide +kernel
theorem test_query_of_another_generation : answer (.query ⟨5, 1⟩) moving = some (.noSuchCarrier, []) := by decide +kernel
theorem test_query : ((answer (.query ⟨5, 2⟩) moving).map fun x => x.2.take 6) = some [5, 0, 2, 2, 0, 0x84] := by decide +kernel
theorem test_lookupTag : answer (.lookupTag 7) (moving.withTags [(7, 5)]) = some (.ok, [1, 5, 0, 2, 2]) := by decide +kernel
theorem test_reroute_of_a_queued_carrier : ((after (.reroute ⟨5, 2⟩ 1) moving).record 5).route = some ⟨1, 0, 0⟩ := by decide +kernel
theorem test_retire : (after (.retire ⟨5, 2⟩) (withFive running (carrier .lost .nowhere none))).record 5 = .free 3 := by decide +kernel
theorem test_findException : answer (.findException 1024) bare = some (.badParam, [])
    ∧ (after (.findException 1023) bare).port.slot = .inFlight (.scan 1023) := by decide +kernel
theorem test_halt : answer (.halt 0) running = some (.ok, [1, 1]) := by decide +kernel
theorem test_resume_with_the_line_active :
    answer (.resume 0) (halted.withZones { halted.zones with levels := 1 }) = some (.lineActive, [0]) := by decide +kernel
theorem test_resume_restarts_the_timer :
    (after (.resume 0) (halted.withCustody 1 (.halted (.occupied 5 0)))).custodyOf 1 = .occupied 5 0 (some 105) := by decide +kernel
theorem test_purgeSegment : answer (.purgeSegment 1) moving = some (.zoneRunning, []) := by decide +kernel
theorem test_release : answer (.release 1) (custodyAt (.heldDwell 5 200)) = some (.ok, [5, 0, 2, 0, 0]) := by decide +kernel
theorem test_clearJam_remove : ((after (.clearJam 1 0xFF) jammed).record 5).exception = some .lostJam := by decide +kernel
theorem test_outletClose : ((after (.outletClose 2) running).outlet 2).closed = true := by decide +kernel
theorem test_outletOpen_raises : (after (.outletOpen 2) running).tracker.roomEvents = [2] := by decide +kernel
theorem test_outletEmptied : answer (.outletEmptied 2) (running.withOutlet 2 ⟨4, 3, true, false, false⟩)
    = some (.ok, [4, 0, 0, 0, 0, 1, 3, 0]) := by decide +kernel
theorem test_readUntracked_clears : (after (.readUntracked 1 1) (bare.withUntracked 1 9)).untracked.get 1 = 0 := by decide +kernel

/-! ### For each statement with hypotheses, a state and operands that meet them, clause by clause -/

/-- The queue is empty right after reset. -/
theorem witness_StepRunsTheFrontCommand : State.reset.pending = [] := rfl

theorem witness_ReadyTickAndDeassertion :
    let s := running.withZones { running.zones with levels := 8 }
    s.zones.levels.getLsbD 3 = true ∧ s.zones.lastSample.getLsbD 3 = false ∧ s.zones.priorSample.getLsbD 3 = false := by
  decide +kernel

theorem witness_FramesSpellTheirCommands :
    (Instr.decisionWrite 63 8 (List.replicate 8 ⟨31, 2, 0, 2⟩)).wellFormed = true
      ∧ (commandBytes (.decisionWrite 63 8 (List.replicate 8 ⟨31, 2, 0, 2⟩))).isSome = true
      ∧ commandBytes .status = some (4, []) := by decide +kernel

theorem witness_CommandTransactionRunsItsCommand :
    Instr.status.wellFormed = true ∧ commandBytes .status = some (4, []) ∧ bare.takesCommand = true := by decide +kernel

theorem witness_FailingFramesAreAnswered :
    bare.takesCommand = true ∧ ([] : List Byte).length ≤ (0 : Byte).toNat ∧ 36 < (37 : Byte).toNat
      ∧ (List.replicate 36 (0 : Byte)).length ≤ 36 ∧ (0x55 : Byte) ≠ crc8 [4, 0] ∧ (0x54 : Byte) = crc8 [4, 0]
      ∧ requiredLength 0xFF = none ∧ requiredLength 4 = some 0 ∧ requiredLength 0x20 = some 34 := by decide +kernel

/-- Never ready; ready only since the fall; not ready at the rise's own moment but at the fall; the slot IN_FLIGHT. -/
theorem witness_CommandsAreDroppedWhileBusy :
    let early := (after .readySet (after (.commandTransaction .falls []) State.reset))
    bare.openingByte.getLsbD 7 = true ∧ bare.port.slot = .free ∧ early.openingByte.getLsbD 7 = false
      ∧ early.port.ready = true ∧ early.takesCommand = false
      ∧ (after (.commandTransaction .falls []) bare).takesCommand = true ∧ State.reset.takesCommand = false
      ∧ (bare.withPort { bare.port with slot := .inFlight .validation }).takesCommand = false
      ∧ commandBytes .status = some (4, []) ∧ (0x5B : Byte) ≠ 0x5A ∧ (0x5B : Byte) ≠ 0xA5
      ∧ bare.port.transaction ≠ .abandoned ∧ (after .powerOn early).port.transaction = .abandoned
      ∧ (after .powerOn (after .powerOn early)).port.transaction = .abandoned
      ∧ ScsEdge.risesEarly ≠ .falls ∧ ScsEdge.rises 0x5A ≠ .falls := by decide +kernel

/-- With no transaction open and with one open, whose fall's slot is the one shifted out. -/
theorem witness_ReadShiftsOutTheResponse :
    let holding x := bare.withPort { bare.port with slot := x }
    let opened x := { after (.commandTransaction .falls []) (holding x) with lineTime := 0 }
    State.reset.openingByte.getLsbD 7 = false ∧ bare.openingByte.getLsbD 7 = true ∧ bare.openingSlot = .free
      ∧ (holding (.answered ⟨4, .ok, []⟩)).openingSlot = .answered ⟨4, .ok, []⟩
      ∧ (opened (.answered ⟨4, .ok, []⟩)).openingSlot = .answered ⟨4, .ok, []⟩
      ∧ (holding (.inFlight .validation)).openingSlot = .inFlight .validation
      ∧ (after .scanExamine (opened (.inFlight (.scan 1023)))).openingSlot = .inFlight (.scan 1023)
      ∧ (after .scanExamine (opened (.inFlight (.scan 1023)))).openingByte.getLsbD 7 = true
      ∧ (holding (.inFlight (.scan 1023))).openingSlot = .inFlight (.scan 1023) ∧ 31 < 8 * (0 + 4) ∧ 8 * (0 + 4) ≤ 32
      ∧ 32 = 8 * (List.replicate 4 (0 : Byte)).length := by decide +kernel

theorem witness_StatusByteShowsThePart :
    State.reset.port.ready = false ∧ bare.port.ready = true ∧ bare.port.transaction = .none
      ∧ (after (.commandTransaction .falls []) bare).port.transaction ≠ .none := by decide +kernel

theorem witness_StatusReadsTheSummary : bare.takesCommand = true := by decide +kernel

theorem witness_TimeMaskAndUntrackedCounts :
    bare.takesCommand = true ∧ (0x80 : Byte).msb = true ∧ (0x7F : Byte).msb = false ∧ 32 ≤ (32 : Byte).toNat
      ∧ 2 ≤ (2 : Byte).toNat := by decide +kernel

theorem witness_StationSetWritesTheRecord :
    bare.takesCommand = true ∧ bare.map.device = .setup ∧ running.takesCommand = true ∧ running.map.device ≠ .setup
      ∧ 32 ≤ (32 : Byte).toNat ∧ 4 ≤ (4 : Byte).toNat
      ∧ (let r := { transfer with exits := [2, 3, 4], skipLimit := 7, defaultExit := 2, rejectExit := some 2 }
        r.type ≠ .unused ∧ r.port0 = some 1 ∧ r.port1 ≠ some 1 ∧ r.exits.Nodup ∧ r.exits.length ≤ 3 ∧ r.skipLimit ≤ 7
          ∧ (2 : Exit).val < r.exits.length ∧ r.rejectExit = some 2 ∧ r.type ≠ .outlet)
      ∧ (let r := chute 2
        r.type ≠ .unused ∧ r.port0 = some 2 ∧ r.port1 ≠ some 2 ∧ r.exits = [] ∧ r.defaultExit = 0 ∧ r.rejectExit = none
          ∧ r.occupancyLimit = 0) := by decide +kernel

/-- One frame for each refusal of R4, at the bound of its range; the frame they are made from is taken. -/
theorem witness_StationSetWritesTheRecord_refusals :
    let p : StationSetParams := ⟨4, 2, 7, 5, 0xFF, 6, 7, 8, 2, 7, 0, 2, 2⟩
    (after (.stationSet p) bare).configured 4 = true
      ∧ ∀ q ∈ [{ p with zone := 8 }, { p with port0 := 48 }, { p with port1 := 48 }, { p with port1 := 5 }, { p with exit0 := 48 },
          { p with exit1 := 48 }, { p with exit2 := 48 }, { p with exit0 := 0xFF }, { p with exit1 := 0xFF },
          { p with exit1 := 6 }, { p with exit2 := 6 }, { p with exit2 := 7 }, { p with checkLevel := 3 },
          { p with skipLimit := 8 }, { p with defaultExit := 3 }, { p with rejectExit := 3 },
          { p with exit0 := 0xFF, exit1 := 0xFF, exit2 := 0xFF, rejectExit := 0xFF, defaultExit := 1 },
          { p with exit0 := 0xFF, exit1 := 0xFF, exit2 := 0xFF, rejectExit := 0, defaultExit := 0 },
          { p with type := 3, occupancyLimit := 1 }, { p with type := 4 }, { p with station := 32 }],
        answer (.stationSet q) bare = some (.badParam, []) := by decide +kernel

/-- The same for SEGMENT_SET and R6. -/
theorem witness_SegmentAndZoneRecordsAreWritten_refusals :
    let p : SegmentSetParams := ⟨9, 1, 0, 1, 2, 3, 1, 64, 5, 6⟩
    ((after (.segmentSet p) bare).segment 9).downstream = some (3, 1)
      ∧ ∀ q ∈ [{ p with kind := 2 }, { p with upStation := 32 }, { p with upExit := 3 }, { p with downStation := 32 },
          { p with downPort := 2 }, { p with upStation := 0xFF }, { p with upExit := 0xFF },
          { p with upStation := 0xFF, upExit := 0xFF }, { p with kind := 1 }, { p with capacity := 0 },
          { p with capacity := 65 }, { p with maxTransit := 0 }, { p with use := 2 }, { p with segment := 48 }],
        answer (.segmentSet q) bare = some (.badParam, []) := by decide +kernel

theorem witness_SegmentAndZoneRecordsAreWritten :
    bare.takesCommand = true ∧ bare.map.device = .setup ∧ running.takesCommand = true ∧ running.map.device ≠ .setup
      ∧ 48 ≤ (48 : Byte).toNat ∧ 2 ≤ (2 : Byte).toNat ∧ 8 ≤ (8 : Byte).toNat
      ∧ (belt 1 2 3 64).upstream = some (1, 2) ∧ (belt 1 2 3 64).downstream = some (3, 0) ∧ 1 ≤ (belt 1 2 3 1).capacity
      ∧ (belt 1 2 3 64).capacity ≤ 64 ∧ (belt 1 2 3 64).maxTransit ≠ 0
      ∧ staging.upstream = none ∧ staging.downstream = some (0, 0) ∧ staging.maxTransit ≠ 0 := by decide +kernel

theorem witness_TunesChangeGivenFields :
    running.takesCommand = true
      ∧ running.configured 1 = true ∧ (0x1F : Byte).toNat < 32 ∧ (1 : Exit).val < (running.station 1).exits.length
      ∧ (running.station 1).type ≠ .outlet
      ∧ (running.station 2).type = .outlet ∧ (0x07 : Byte).getLsbD 3 = false ∧ (0x07 : Byte).getLsbD 4 = false
      ∧ running.configured 4 = false ∧ 32 ≤ (0x20 : Byte).toNat ∧ (0x04 : Byte).getLsbD 2 = true ∧ (1 : Ticks) ≠ 0
      ∧ (0x08 : Byte).getLsbD 3 = true ∧ (running.station 1).exits.length ≤ (2 : Exit).val
      ∧ (moving.segment 1).downstream ≠ none ∧ (0x07 : Byte).toNat < 8 ∧ moving.depth 1 ≤ 1 ∧ (50 : Ticks) ≠ 0
      ∧ (5 : Ticks).toNat ≤ (5 : Ticks).toNat
      ∧ (moving.segment 9).downstream = none ∧ 8 ≤ (0x08 : Byte).toNat
      ∧ (moving.withReserved 1 1).depth 1 = 2 ∧ 1 < (moving.withReserved 1 1).depth 1
      ∧ (moving.segment 1).kind = .conveyor ∧ (4 : Ticks).toNat < (5 : Ticks).toNat := by decide +kernel

/-- Each refusal of R17 at the bound of its range, at a transfer with two exits and at an OUTLET; and with every mask bit
0 no byte is read. -/
theorem witness_TunesChangeGivenFields_refusals :
    ((after (.stationTune ⟨1, 0, 3, 8, 9, 2, 2⟩) running).station 1) = transfer
      ∧ ∀ q ∈ ([⟨1, 1, 3, 0, 0, 0, 0⟩, ⟨1, 2, 0, 8, 0, 0, 0⟩, ⟨1, 8, 0, 0, 0, 2, 0⟩, ⟨1, 16, 0, 0, 0, 0, 2⟩, ⟨1, 32, 0, 0, 0, 0, 0⟩,
          ⟨2, 8, 0, 0, 0, 0, 0⟩, ⟨2, 16, 0, 0, 0, 0, 0xFF⟩, ⟨2, 4, 0, 0, 1, 0, 0⟩, ⟨4, 0, 0, 0, 0, 0, 0⟩,
          ⟨32, 0, 0, 0, 0, 0, 0⟩] : List StationTuneParams),
        answer (.stationTune q) running = some (.badParam, []) := by decide +kernel

theorem witness_StationReadLayout : moving.takesCommand = true := by decide +kernel

theorem witness_SegmentAndRouteReads :
    running.takesCommand = true ∧ (63 : Byte).toNat ≤ 63 ∧ 64 ≤ (64 : Byte).toNat ∧ 48 ≤ (48 : Byte).toNat
      ∧ 32 ≤ (32 : Byte).toNat ∧ (running.slotOf 0).state.program? = some program
      ∧ (running.slotOf 31).state = .empty := by decide +kernel

/-- The small line, while START's validation is in flight. -/
def validating : State := { bare with map := { bare.map with device := .validating } }

/-- The line with no station, while START's validation is in flight. -/
def stationless : State := { State.reset with map := { State.reset.map with device := .validating } }

theorem firstFails_stationless : firstFails stationless.lineChecks [0, 0, 0, 0] :=
  ⟨[], _, _, rfl, nofun, by decide +kernel⟩

/-- The small line passes; the line with no station fails the first check. -/
theorem witness_ValidationDecidesTheDeviceState :
    validating.map.device = .validating ∧ bare.map.device ≠ .validating ∧ validating.LineValid
      ∧ stationless.map.device = .validating ∧ ¬ stationless.LineValid
      ∧ firstFails stationless.lineChecks [0, 0, 0, 0] := by
  refine ⟨by decide +kernel, by decide +kernel, ⟨by decide +kernel, fun st => ?_, fun g => ?_, fun q p h => ?_⟩,
    by decide +kernel, fun h => absurd h.1 (by decide +kernel), firstFails_stationless⟩
  · revert st; unfold State.StationValid State.feeds; decide +kernel
  · revert g; unfold State.SegmentValid; decide +kernel
  · rw [show validating.slotOf q = ⟨.empty, 0⟩ from Table.get_fill _ _] at h; cases h

/-- The small line with segment 3 unused: exit 1 of station 1 names no used segment. -/
def unmatched : State := validating.withMap { validating.map with segments := validating.map.segments.set 3 .powerOn }

/-- Station 1 there passes the six checks before that of its exit 1 and fails that one (R12). -/
theorem firstFails_exit1 : firstFails (unmatched.stationChecks 1) [0x04, 1] := by
  refine ⟨List.take 6 (unmatched.stationChecks 1), _, _, rfl, ?_, ?_⟩
  · simp only [State.stationChecks, State.feeds, List.take, List.forall_mem_cons]
    refine ⟨?_, by decide +kernel, by decide +kernel, by decide +kernel, by decide +kernel, by decide +kernel, nofun⟩
    rw [if_neg (by decide +kernel)]; decide +kernel
  · decide +kernel

theorem witness_StartStopAndScan :
    bare.takesCommand = true ∧ bare.map.device = .setup ∧ running.takesCommand = true ∧ running.map.device = .running
      ∧ (∃ h : Handle, (moving.record h).state ≠ .free) ∧ moving.takesCommand = true ∧ moving.map.device = .running
      ∧ 1024 ≤ (1024 : BitVec 16).toNat
      ∧ (moving.withPort { moving.port with slot := .inFlight (.scan 1023) }).port.slot = .inFlight (.scan 1023)
      ∧ (moving.record 1023).state = .free ∧ (moving.record 5).exception = none ∧ (6 : Handle).val = (5 : Handle).val + 1
      ∧ ((moving.setException 5 .stranded).record 5).state ≠ .free
      ∧ ((moving.setException 5 .stranded).record 5).exception = some .stranded := by
  refine ⟨by decide +kernel, by decide +kernel, by decide +kernel, by decide +kernel, ⟨5, by decide +kernel⟩, ?_⟩
  decide +kernel

/-- With no carrier at all STOP is taken. -/
theorem witness_StartStopAndScan_stop : ∀ h, (running.record h).state = .free := by
  intro h
  rw [show running.record h = .free 0 from Table.get_fill _ _]; rfl

theorem witness_ResetTrackingForgetsEveryCarrier :
    bare.takesCommand = true ∧ bare.map.device ≠ .running ∧ running.takesCommand = true ∧ running.map.device = .running
      ∧ (∃ st, running.configured st = true ∧ running.zoneHalted (running.station st).zone = false)
      ∧ halted.takesCommand = true ∧ halted.map.device = .running
      ∧ ∀ st, halted.configured st = true → halted.zoneHalted (halted.station st).zone = true := by decide +kernel

/-- By class and by slot, with a tag and without; the refusals in the order of the checks. -/
theorem witness_InductFillsARecord :
    running.takesCommand = true ∧ running.map.device = .running ∧ (running.station 0).type = .infeed
      ∧ (running.station 0).port0 = some 0 ∧ TagIndex.lookup 0xA1 running.tags = none
      ∧ running.routes.classes.get 7 = some 0 ∧ (running.slotOf 0).state = .active program
      ∧ (running.record 0).state = .free ∧ (∀ j : Handle, ¬ j < 0) ∧ (0 : Handle) ∉ running.queue 0
      ∧ running.depth 0 < (running.segment 0).capacity
      ∧ bare.takesCommand = true ∧ bare.map.device ≠ .running ∧ (running.station 1).type ≠ .infeed
      ∧ 32 ≤ (32 : Byte).toNat ∧ 64 ≤ (64 : Byte).toNat ∧ (3 : Byte) ≠ 1 ∧ (3 : Byte) ≠ 2
      ∧ TagIndex.lookup 7 (running.withTags [(7, 5)]).tags = some 5 ∧ (0xA1 : Tag) ≠ 0
      ∧ running.routes.classes.get 8 = none ∧ (running.slotOf 3).state = .draining program
      ∧ ((running.withQueue 0 [1, 2, 3, 4]).segment 0).capacity ≤ (running.withQueue 0 [1, 2, 3, 4]).depth 0 := by
  refine ⟨by decide +kernel, by decide +kernel, by decide +kernel, by decide +kernel, by decide +kernel, by decide +kernel,
    by decide +kernel, by decide +kernel, fun j h => absurd h (Nat.not_lt_zero j.val), ?_⟩
  decide +kernel

/-- Every record in use. -/
def crowded : State := { running with carriers := { records := Table.fill _ (carrier .lost .nowhere none), exceptionCount := 0 } }

theorem witness_InductFillsARecord_full : crowded.takesCommand = true ∧ ∀ h, (crowded.record h).state ≠ .free := by
  refine ⟨by decide +kernel, fun h => ?_⟩
  rw [show crowded.record h = carrier .lost .nowhere none from Table.get_fill _ _]; decide

theorem witness_QueryAndLookupRead :
    moving.takesCommand = true ∧ (moving.record 5).state ≠ .free ∧ (moving.record 1023).state = .free
      ∧ (3 : Byte) ≠ (moving.record 5).generation ∧ 1024 ≤ (1024 : BitVec 16).toNat
      ∧ (moving.record 5).state.queued = true ∧ (moving.record 5).location = .onSegment 1 ∧ moving.queue 1 = [] ++ 5 :: []
      ∧ (directed.record 5).state.inCustody = true ∧ (directed.record 5).location = .atStation 1 ∧ directed.takesCommand = true
      ∧ (0xFFFFFFFFFFFF : Tag) ≠ 0
      ∧ TagIndex.lookup 0xFFFFFFFFFFFF (moving.withTags [(0xFFFFFFFFFFFF, 5)]).tags = some 5
      ∧ TagIndex.lookup 1 moving.tags = none := by decide +kernel

theorem witness_RerouteBindsOrPends :
    moving.takesCommand = true ∧ (moving.slotOf 1).state = .active loop ∧ (moving.record 5).state.queued = true
      ∧ directed.takesCommand = true ∧ (directed.slotOf 1).state = .active loop ∧ (directed.record 5).state.inCustody = true
      ∧ 32 ≤ (32 : Byte).toNat ∧ 1024 ≤ (1024 : BitVec 16).toNat ∧ (moving.record 6).state = .free
      ∧ (3 : Byte) ≠ (moving.record 5).generation ∧ ((withFive running (carrier .lost .nowhere none)).record 5).state = .lost
      ∧ (moving.slotOf 31).state = .empty := by decide +kernel

theorem witness_RetireFreesTheRecord :
    let lost := withFive running (carrier .lost .nowhere none)
    let staged := (withFive running (carrier .staged (.onSegment 0) (some (.timed 100 400)))).withQueue 0 [5]
    lost.takesCommand = true ∧ (lost.record 5).state = .lost ∧ staged.takesCommand = true
      ∧ (staged.record 5).state = .staged ∧ (staged.record 5).location = .onSegment 0
      ∧ (moving.record 5).state = .inTransit ∧ (moving.record 6).state = .free ∧ (3 : Byte) ≠ (moving.record 5).generation
      ∧ 1024 ≤ (1024 : BitVec 16).toNat := by decide +kernel

/-- Granted, granted but blocked again (segment 3 of a balance at a closed outlet), no room, no event, and one place for two. -/
theorem witness_GrantWakesTheWaiter :
    3 ∉ blocked.tracker.roomEvents ∧ 2 ∈ blocked.tracker.roomEvents
      ∧ ((blocked.withReserved 2 2).segment 2).capacity ≤ (blocked.withReserved 2 2).depth 2
      ∧ blocked.waiterList 2 = [1] ∧ blocked.custodyOf 1 = .heldBlocked 5 ∧ blocked.depth 2 < (blocked.segment 2).capacity
      ∧ (blocked.decide 1 5).choice = .toExit 0 ∧ (blocked.station 1).exitSegment 0 = some 2
      ∧ (let s := blocked.withOutlet 2 ⟨4, 0, true, false, false⟩
        (s.decide 1 5).choice = .blocked (some 2) ∧ s.waiterList 2 = [1] ∧ s.custodyOf 1 = .heldBlocked 5
          ∧ s.depth 2 < (s.segment 2).capacity)
      ∧ (let s := ((blocked.withWaiters 2 [2, 1, 3]).withCustody 2 (.halted (.heldBlocked 6))).withReserved 2 1
        2 ∈ s.tracker.roomEvents ∧ s.waiterList 2 = [2] ++ 1 :: [3] ∧ (1 : Station) ∉ [(2 : Station)]
          ∧ (s.custodyOf 2).isHalted = true ∧ s.custodyOf 1 = .heldBlocked 5 ∧ s.depth 2 + 1 = (s.segment 2).capacity
          ∧ (s.decide 1 5).choice = .toExit 0 ∧ (s.station 1).exitSegment 0 = some 2) := by decide +kernel

/-- The deadline is reached at 150 and not at 149. -/
theorem witness_ReachedDeadlineLosesTheHead :
    moving.queue 1 = 5 :: [] ∧ (moving.record 5).window = some (.timed 90 150) ∧ moving.segmentHalted 1 = false
      ∧ Time.isAfter 150 150 = false ∧ Time.isAfter 149 150 = true ∧ moving.queue 2 = []
      ∧ halted.segmentHalted 1 = true := by decide +kernel

theorem witness_StationTimersEndDwellsAndJam :
    let s := custodyAt (.heldDwell 5 100)
    s.custodyOf 1 = .heldDwell 5 100 ∧ s.zoneHalted (s.station 1).zone = false ∧ Time.isAfter s.lineTime 100 = false
      ∧ Time.isAfter s.lineTime 101 = true ∧ (s.decide 1 5).choice = .toExit 0 ∧ (s.station 1).exitSegment 0 = some 2
      ∧ ((s.withReserved 2 2).decide 1 5).choice = .blocked (some 2)
      ∧ directed.custodyOf 1 = .occupied 5 0 (some 100) ∧ directed.zoneHalted (directed.station 1).zone = false
      ∧ halted.zoneHalted (halted.station 1).zone = true := by decide +kernel

theorem witness_ReleaseEndsADwell :
    let s := custodyAt (.heldDwell 5 200)
    s.takesCommand = true ∧ s.map.device = .running ∧ s.configured 1 = true ∧ s.custodyOf 1 = .heldDwell 5 200
      ∧ (s.decide 1 5).choice = .toExit 0 ∧ (s.station 1).exitSegment 0 = some 2
      ∧ ((s.withReserved 2 2).decide 1 5).choice = .blocked (some 2) ∧ bare.takesCommand = true ∧ bare.map.device ≠ .running
      ∧ 32 ≤ (32 : Byte).toNat ∧ s.configured 31 = false ∧ halted.configured 1 = true ∧ (halted.custodyOf 1).isHalted = true
      ∧ blocked.custodyOf 1 = .heldBlocked 5 ∧ running.custodyOf 1 = .idle
      ∧ directed.custodyOf 1 = .occupied 5 0 (some 100) ∧ jammed.custodyOf 1 = .jammed 5 0 := by decide +kernel

theorem witness_PurgeLosesTheWholeQueue :
    let s := moving.withZones halted.zones
    s.takesCommand = true ∧ s.map.device = .running ∧ (s.segment 1).downstream = some (1, 0) ∧ (s.segment 1).kind = .conveyor
      ∧ s.zoneHalted (s.station 1).zone = true ∧ (s.queue 1).Nodup ∧ moving.zoneHalted (moving.station 1).zone = false
      ∧ (s.segment 47).downstream = none ∧ (s.segment 0).kind = .staging ∧ 48 ≤ (48 : Byte).toNat
      ∧ bare.takesCommand = true ∧ bare.map.device ≠ .running := by decide +kernel

theorem witness_AppendedWindowsNeverOvertakeTheTail :
    let s := moving.withZones halted.zones
    let u := s.modRecord 5 fun r => { r with window := some (.remaining 0 60) }
    moving.segmentSuspended 1 = false ∧ moving.queue 2 = [] ∧ (moving.queue 1).getLast? = some 5
      ∧ (moving.record 5).window = some (.timed 90 150) ∧ s.segmentSuspended 1 = true ∧ s.queue 2 = []
      ∧ u.segmentSuspended 1 = true ∧ (u.queue 1).getLast? = some 5 ∧ (u.record 5).window = some (.remaining 0 60) := by
  decide +kernel

/-- Station 1 has a poll outstanding, is configured and the device RUNNING, with nothing accepted. -/
theorem handsOn_moving (seq : Byte) : moving.HandsOn 1 seq := by
  refine ⟨by decide +kernel, by decide +kernel, by decide +kernel, fun a _ h => ?_⟩
  rw [show (moving.linkOf 1).accepted = none by decide +kernel] at h
  cases h

/-- Carrier 5 at the head of segment 1 is due. -/
theorem dueHead_moving : moving.dueHead 1 5 [] := by
  refine ⟨by decide +kernel, fun e d h => ?_⟩
  rw [show (moving.record 5).window = some (.timed 90 150) by decide +kernel] at h
  injection h with h; injection h with h1 h2; subst h1; decide +kernel

/-- Carrier 5 on segment 1 with a tag of its own, at a station that reads tags, before its earliest time. -/
def tagged : State :=
  { (moving.modRecord 5 fun r => { r with tag := some 9, window := some (.timed 101 150) }).withTags [(9, 5)] with
    map := { moving.map with stations := moving.map.stations.set 1 { transfer with checkLevel := .lenient } } }

/-- On the looping route carrier 5 dwells at station 1; else it is directed, or blocked with segment 2 full. -/
theorem witness_ArrivalIsTakenByPosition :
    moving.HandsOn 1 0 ∧ moving.custodyOf 1 = .idle ∧ (moving.station 1).type ≠ .outlet ∧ moving.byPosition 1 0
      ∧ (moving.station 1).entrySegment 0 = some 1 ∧ moving.dueHead 1 5 []
      ∧ (moving.modRecord 5 fun r => { r with route := some ⟨1, 0, 0⟩ }).dwellTest 1 5 = some 3
      ∧ moving.dwellTest 1 5 = none ∧ ((moving.takenFrom 1 []).decide 1 5).choice = .toExit 0
      ∧ (moving.station 1).exitSegment 0 = some 2
      ∧ (((moving.withReserved 2 2).takenFrom 1 []).decide 1 5).choice = .blocked (some 2) :=
  ⟨handsOn_moving 0, by decide +kernel, by decide +kernel, .inl (by decide +kernel), by decide +kernel, dueHead_moving,
    by decide +kernel, by decide +kernel, by decide +kernel, by decide +kernel, by decide +kernel⟩

theorem handsOn_tagged (seq : Byte) : tagged.HandsOn 1 seq := handsOn_moving seq

/-- Bound by its tag, early: dwelling, directed, or blocked. -/
theorem witness_ArrivalIsTakenByPosition_byTag :
    let u := tagged.applyBinding (some 1) 5 .tagMatch
    let v := (tagged.modRecord 5 fun r => { r with route := some ⟨1, 0, 0⟩ }).applyBinding (some 1) 5 .tagMatch
    tagged.HandsOn 1 0 ∧ tagged.custodyOf 1 = .idle ∧ (tagged.station 1).type ≠ .outlet
      ∧ tagged.resolve 1 ((tagged.station 1).entrySegment 0) 9 = .bind 5 .tagMatch ∧ (u.record 5).flags.early = true
      ∧ v.dwellTest 1 5 = some 3 ∧ u.dwellTest 1 5 = none ∧ (u.decide 1 5).choice = .toExit 0
      ∧ (tagged.station 1).exitSegment 0 = some 2
      ∧ (((tagged.withReserved 2 2).applyBinding (some 1) 5 .tagMatch).decide 1 5).choice = .blocked (some 2) :=
  ⟨handsOn_tagged 0, by decide +kernel⟩

/-- Marked EARLY, taken and directed; the earliest time is one tick ahead (R72). -/
theorem test_arrival_by_tag :
    let t := after (.arrival ⟨1, none⟩ 9 0 9) tagged
    t.custodyOf 1 = .occupied 5 0 (some 105) ∧ (t.record 5).flags.early = true ∧ t.queue 1 = [] := by decide +kernel

/-- Carrier 5 on segment 2 before outlet 2, in stage 1, FINISH there; station 2 has been polled. -/
def approaching : State :=
  ((withFive running { carrier .inTransit (.onSegment 2) (some (.timed 90 150)) with route := some ⟨0, 1, 0⟩ }).withQueue 2
    [5]).withLink { running.link with outstanding := some 2 }

theorem handsOn_approaching (seq : Byte) : approaching.HandsOn 2 seq := by
  refine ⟨by decide +kernel, by decide +kernel, by decide +kernel, fun a h _ => ?_⟩
  rw [show (approaching.linkOf 2).state = .down by decide +kernel] at h
  cases h

/-- Correct in stage 1, not correct in stage 0, with and without auto-retire and an exception. -/
theorem witness_ArrivalAtAnOutletIsDelivered :
    approaching.HandsOn 2 255 ∧ approaching.custodyOf 2 = .idle ∧ (approaching.station 2).type = .outlet
      ∧ approaching.byPosition 2 0 ∧ (approaching.station 2).entrySegment 0 = some 2 ∧ approaching.dueHead 2 5 []
      ∧ (∃ r stage, (approaching.record 5).route = some r ∧ approaching.stageOf r = some stage ∧ stage.endAction = .finish
        ∧ stage.boundary = 2)
      ∧ (approaching.outlet 2).autoRetire = false
      ∧ ((approaching.withOutlet 2 ⟨1, 0, false, false, true⟩).outlet 2).autoRetire = true
      ∧ (approaching.record 5).exception = none
      ∧ approaching.stageOf ⟨0, 0, 0⟩ = some ⟨0, 1, .advance, 0⟩ := by
  refine ⟨handsOn_approaching 255, by decide +kernel, by decide +kernel, .inl (by decide +kernel), by decide +kernel,
    ⟨by decide +kernel, fun e d h => ?_⟩, ⟨⟨0, 1, 0⟩, ⟨0, 2, .finish, 0⟩, by decide +kernel⟩, by decide +kernel,
    by decide +kernel, by decide +kernel, by decide +kernel⟩
  rw [show (approaching.record 5).window = some (.timed 90 150) by decide +kernel] at h
  injection h with h; injection h with h1 h2; subst h1; decide +kernel

/-- A LOST carrier whose tag the outlet reads is bound from nowhere, its exception cleared; on the way to outlet 2 (correct),
to outlet 3 (not), and with auto-retire. -/
theorem witness_ArrivalAtAnOutletIsDelivered_byTag :
    let s (stage : StageNo) : State :=
      { ((approaching.withQueue 2 []).modRecord 5 fun r =>
          { r with
            state := .lost, location := .nowhere, lastSegment := some 2, window := none, tag := some 9
            route := some ⟨0, stage, 0⟩, exception := some .lostTimeout }).withTags [(9, 5)] with
        map := { approaching.map with stations := approaching.map.stations.set 2 { chute 2 with checkLevel := .strict } } }
    let v := (s 1).applyBinding (some 2) 5 .lateRecovery
    (s 1).HandsOn 2 255 ∧ (s 1).custodyOf 2 = .idle ∧ ((s 1).station 2).type = .outlet
      ∧ (s 1).resolve 2 (((s 1).station 2).entrySegment 0) 9 = .bind 5 .lateRecovery
      ∧ (v.record 5).exception = none ∧ (s 1).stageOf ⟨0, 1, 0⟩ = some ⟨0, 2, .finish, 0⟩
      ∧ (s 0).stageOf ⟨0, 0, 0⟩ = some ⟨0, 1, .advance, 0⟩ ∧ ((s 1).outlet 2).autoRetire = false
      ∧ (((s 1).withOutlet 2 ⟨1, 0, false, false, true⟩).outlet 2).autoRetire = true :=
  ⟨handsOn_approaching 255, by decide +kernel⟩

/-- Station 1 with nothing queued before it: directed to its default exit, or blocked with segment 2 full. -/
def unexpected : State := moving.withQueue 1 []

theorem handsOn_unexpected (seq : Byte) : unexpected.HandsOn 1 seq := handsOn_moving seq

theorem witness_StrangerGetsARecord :
    unexpected.HandsOn 1 7 ∧ unexpected.custodyOf 1 = .idle ∧ (unexpected.station 1).type ≠ .outlet
      ∧ unexpected.resolve 1 ((unexpected.station 1).entrySegment 0) 0 = .stranger none
      ∧ (unexpected.record 0).state = .free ∧ (∀ j : Handle, ¬ j < 0)
      ∧ (unexpected.station 1).exitSegment (unexpected.station 1).defaultExit.val = some 2
      ∧ unexpected.hasRoom 2 = true ∧ (unexpected.withReserved 2 2).hasRoom 2 = false :=
  ⟨handsOn_unexpected 7, by decide +kernel, by decide +kernel, by decide +kernel, by decide +kernel,
    fun j h => absurd h (Nat.not_lt_zero j.val), by decide +kernel, by decide +kernel, by decide +kernel⟩

theorem witness_UntrackedArrivalsAreCounted :
    unexpected.HandsOn 1 7 ∧ unexpected.custodyOf 1 = .idle
      ∧ unexpected.resolve 1 ((unexpected.station 1).entrySegment 0) 0 = .stranger none
      ∧ (unexpected.station 1).type ≠ .outlet
      ∧ (let s := approaching.withQueue 2 []
        s.HandsOn 2 7 ∧ s.custodyOf 2 = .idle ∧ (s.station 2).type = .outlet
          ∧ s.resolve 2 ((s.station 2).entrySegment 0) 0 = .stranger none)
      ∧ ∀ h, (crowded.record h).state ≠ .free :=
  ⟨handsOn_unexpected 7, by decide +kernel, by decide +kernel, by decide +kernel,
    ⟨handsOn_approaching 7, by decide +kernel, by decide +kernel, by decide +kernel⟩, witness_InductFillsARecord_full.2⟩

/-- Carriers 4, 5 and 6 on segment 1, tags 4 and 6 known; station 1 reads tags. -/
def reading (level : CheckLevel) : State :=
  { (((moving.modRecord 4 fun _ => { carrier .inTransit (.onSegment 1) (some (.timed 90 150)) with tag := some 4 }).modRecord 6
      fun _ => { carrier .inTransit (.onSegment 1) (some (.timed 90 150)) with tag := some 6 }).withQueue 1 [4, 5, 6]).withTags
      [(4, 4), (6, 6)] with
    map := { moving.map with stations := moving.map.stations.set 1 { transfer with checkLevel := level } } }

theorem witness_TagPathOutcomes :
    moving.byPosition 1 5 ∧ moving.dueHead 1 5 [] ∧ unexpected.queue 1 = []
      ∧ Time.isAfter 89 90 = true ∧ Time.isAfter 90 90 = false
      ∧ ((reading .strict).station 1).checkLevel = .strict ∧ ((reading .lenient).station 1).checkLevel ≠ .off
      ∧ (0xFFFFFFFFFFFF : Tag) ≠ 0 ∧ TagIndex.lookup 9 (reading .lenient).tags = none
      ∧ ((reading .lenient).record 4).tag ≠ none ∧ (moving.record 5).tag = none
      ∧ TagIndex.lookup 4 (reading .lenient).tags = some 4 ∧ (reading .lenient).queue 1 = [] ++ 4 :: [5, 6]
      ∧ TagIndex.lookup 6 (reading .lenient).tags = some 6 ∧ (reading .lenient).queue 1 = [4, 5] ++ 6 :: []
      ∧ (6 : Handle) ∉ [(4 : Handle), 5] ∧ ((reading .lenient).record 6).state.queued = true
      ∧ [(4 : Handle), 5].length ≤ 2 ∧ ¬ [(4 : Handle), 5].length ≤ ((reading .lenient).station 1).skipLimit
      ∧ (6 : Handle) ∉ ((reading .lenient).withQueue 1 [4, 5]).queue 1
      ∧ (let s := (reading .lenient).modRecord 6 fun r => { r with state := .lost, lastSegment := some 1 }
        (s.record 6).state = .lost ∧ (s.record 6).lastSegment = some 1)
      ∧ (((reading .lenient).modRecord 6 fun r => { r with state := .delivered }).record 6).state = .delivered
      ∧ tagged.queue 1 = 5 :: [] ∧ (tagged.record 5).window = some (.timed 101 150)
      ∧ Time.isAfter tagged.lineTime 101 = true ∧ (reading .strict).resolve 1 none 6 = .bind 6 .misrouteTake
      ∧ (reading .strict).resolve 1 none 0 = .stranger none ∧ (reading .strict).resolve 1 none 9 = .stranger (some 9) :=
  ⟨.inl (by decide +kernel), dueHead_moving, by decide +kernel⟩

theorem witness_OutcomesMarkAndRemove :
    (reading .off).queue 1 = 4 :: [5, 6] ∧ (reading .off).queue 1 = [4, 5] ++ 6 :: [] ∧ (6 : Handle) ∉ [(4 : Handle), 5]
      ∧ ((reading .off).queue 1).Nodup := by decide +kernel

theorem handsOn_directed (seq : Byte) : directed.HandsOn 1 seq := by
  refine ⟨by decide +kernel, by decide +kernel, by decide +kernel, fun a _ h => ?_⟩
  rw [show (directed.linkOf 1).accepted = none by decide +kernel] at h
  cases h

theorem handsOn_blocked (seq : Byte) : blocked.HandsOn 1 seq := handsOn_directed seq

theorem witness_ClearByTheDirectedExit :
    directed.HandsOn 1 0 ∧ directed.custodyOf 1 = .occupied 5 0 (some 100) ∧ (directed.station 1).exitSegment 0 = some 2
      ∧ 0 < directed.reservedCount 2 ∧ directed.depth 2 ≤ (directed.segment 2).capacity
      ∧ jammed.custodyOf 1 = .jammed 5 0 :=
  ⟨handsOn_directed 0, by decide +kernel, by decide +kernel, by decide +kernel, by decide +kernel, by decide +kernel⟩

theorem witness_ClearByAnotherExit :
    directed.HandsOn 1 0 ∧ directed.custodyOf 1 = .occupied 5 0 (some 100) ∧ (1 : Byte).toNat ≠ (0 : Exit).val
      ∧ (directed.station 1).exitSegment 0 = some 2 ∧ (directed.station 1).exitSegment 1 = some 3 ∧ (3 : Segment) ≠ 2
      ∧ directed.depth 3 < (directed.segment 3).capacity
      ∧ ((directed.withReserved 3 1).segment 3).capacity ≤ (directed.withReserved 3 1).depth 3
      ∧ (directed.station 1).exitSegment 2 = none :=
  ⟨handsOn_directed 0, by decide +kernel, by decide +kernel, by decide +kernel, by decide +kernel, by decide +kernel,
    by decide +kernel, by decide +kernel, by decide +kernel⟩

theorem witness_ClearOfAHeldCarrier :
    blocked.HandsOn 1 0 ∧ blocked.custodyOf 1 = .heldBlocked 5 ∧ (blocked.station 1).exitSegment 0 = some 2
      ∧ blocked.depth 2 < (blocked.segment 2).capacity
      ∧ ((blocked.withReserved 2 2).segment 2).capacity ≤ (blocked.withReserved 2 2).depth 2
      ∧ (blocked.station 1).exitSegment 2 = none ∧ (custodyAt (.heldDwell 5 200)).custodyOf 1 = .heldDwell 5 200 :=
  ⟨handsOn_blocked 0, by decide +kernel, by decide +kernel, by decide +kernel, by decide +kernel, by decide +kernel,
    by decide +kernel⟩

theorem witness_ClearJamRemovesOrSendsOn :
    jammed.takesCommand = true ∧ jammed.map.device = .running ∧ jammed.configured 1 = true ∧ jammed.custodyOf 1 = .jammed 5 0
      ∧ (jammed.station 1).exitSegment 0 = some 2 ∧ 0 < jammed.reservedCount 2 ∧ jammed.depth 2 ≤ (jammed.segment 2).capacity
      ∧ bare.takesCommand = true ∧ bare.map.device ≠ .running ∧ 32 ≤ (32 : Byte).toNat ∧ jammed.configured 31 = false
      ∧ (2 : Byte) ≠ 0xFF ∧ (jammed.station 1).exits.length ≤ (2 : Byte).toNat
      ∧ (1 : Byte).toNat < (jammed.station 1).exits.length ∧ halted.takesCommand = true ∧ halted.map.device = .running
      ∧ halted.configured 1 = true ∧ (halted.custodyOf 1).isHalted = true ∧ running.takesCommand = true
      ∧ (running.custodyOf 1).isHalted = false ∧ running.custodyOf 1 = .idle
      ∧ (1 : Exit) ≠ 0 ∧ (jammed.station 1).exitSegment (1 : Exit).val = some 3 ∧ (3 : Segment) ≠ 2
      ∧ jammed.depth 3 < (jammed.segment 3).capacity
      ∧ ((jammed.withReserved 3 1).segment 3).capacity ≤ (jammed.withReserved 3 1).depth 3 := by decide +kernel

/-- By the other exit: answered IN_TRANSIT (2) on segment 3, or, segment 3 full, LOST (5). -/
theorem test_clearJam_by_another_exit :
    answer (.clearJam 1 1) jammed = some (.ok, [5, 0, 2, 2])
      ∧ answer (.clearJam 1 1) (jammed.withReserved 3 1) = some (.ok, [5, 0, 2, 5]) := by decide +kernel

/-- Exit 0 open and with room, open and full, closed with exit 1 preferred, both closed; a balance of equal and unequal depths. -/
theorem witness_DecisionsChooseAvailableExits :
    (moving.decide 1 5).choice = .toExit 0 ∧ (moving.station 0).exits.length = 1 ∧ (moving.station 1).exits.length ≠ 1
      ∧ (moving.record 6).route = none ∧ (moving.record 5).route = some ⟨0, 0, 0⟩
      ∧ moving.stageOf ⟨0, 0, 0⟩ = some ⟨0, 1, .advance, 0⟩ ∧ (moving.setOf 0).entryFor 1 = some (.fixed 0)
      ∧ (moving.setOf 63).entryFor 1 = none ∧ moving.stageOf ⟨1, 0, 0⟩ = some ⟨1, 1, .loop, 3⟩
      ∧ (moving.setOf 1).entryFor 1 = some (.balance 0 1) ∧ (moving.station 1).exitSegment 0 = some 2
      ∧ (moving.station 1).exitSegment 1 = some 3 ∧ moving.depth 2 = moving.depth 3
      ∧ (moving.withReserved 2 1).depth 3 < (moving.withReserved 2 1).depth 2
      ∧ (moving.withReserved 3 1).depth 2 < (moving.withReserved 3 1).depth 3
      ∧ (moving.segment 2).downstream = some (2, 0) ∧ (moving.station 2).type = .outlet
      ∧ ((moving.withOutlet 2 ⟨4, 4, false, true, false⟩).outlet 2).full = true
      ∧ ((moving.withOutlet 2 ⟨4, 0, true, false, false⟩).outlet 2).closed = true
      ∧ (moving.preferredExit 1 5).exit = 0
      ∧ ((moving.withOutlet 2 ⟨4, 0, true, false, false⟩).decide 1 5).choice = .blocked (some 2)
      ∧ (let s := (moving.modRecord 5 fun r => { r with route := some ⟨1, 0, 0⟩ }).withReserved 2 1
        (s.preferredExit 1 5).exit = 1 ∧ (s.preferredExit 1 5).exit ≠ 0) := by decide +kernel

/-- A pending route, none, an ADVANCE boundary, a LOOP boundary below and at the lap limit, a FINISH missed at its approach. -/
theorem witness_StageTransitionsFollowTheProgram :
    let pending := directed.modRecord 5 fun r => { r with pendingRoute := some 1 }
    let looping := directed.modRecord 5 fun r => { r with route := some ⟨1, 0, 0⟩ }
    (pending.record 5).pendingRoute = some 1 ∧ (directed.record 5).pendingRoute = none ∧ (directed.record 6).route = none
      ∧ (directed.record 5).route = some ⟨0, 0, 0⟩ ∧ directed.programOf 0 = some program
      ∧ program.stages.get 0 = some ⟨0, 1, .advance, 0⟩ ∧ (1 : StageNo).val = (0 : StageNo).val + 1
      ∧ (looping.record 5).route = some ⟨1, 0, 0⟩ ∧ (looping.record 5).pendingRoute = none ∧ directed.programOf 1 = some loop
      ∧ loop.stages.get 0 = some ⟨1, 1, .loop, 3⟩ ∧ loop.loopBase = some 0 ∧ (looping.record 5).flags.exhausted = false
      ∧ 0 + 1 < loop.lapLimit ∧ loop.lapLimit = 1 + 1 ∧ loop.exhaustStage = none
      ∧ ({ loop with exhaustStage := some 8 } : Program).exhaustStage = some 8
      ∧ ((looping.modRecord 5 fun r => { r with flags := { r.flags with exhausted := true } }).record 5).flags.exhausted = true
      ∧ program.stages.get 1 = some ⟨0, 2, .finish, 0⟩ ∧ (directed.station 2).port0 = some 2
      ∧ (directed.segment 2).upstream = some (1, 0) ∧ (1 : Byte).toNat ≠ (0 : Exit).val ∧ (0 : Byte).toNat = (0 : Exit).val
      ∧ program.loopBase ≠ none ∧ ({ program with loopBase := none } : Program).loopBase = none := by decide +kernel

theorem witness_DecisionSetsAreWrittenAndRead :
    running.takesCommand = true ∧ (List.replicate 8 (⟨0, .fixed 0⟩ : DecisionEntry)).length + ([] : List EntryPlace).length = 8
      ∧ (([⟨0, .fixed 0⟩, ⟨31, .balance 0 2⟩] : List DecisionEntry).map DecisionEntry.station).Nodup ∧ (0 : Exit) ≠ 2
      ∧ (running.setOf 63).references = 0 ∧ 0 < (running.setOf 0).references
      ∧ (List.replicate 8 (⟨0, 1, 0, 0⟩ : EntryPlace)).length = 8 ∧ 64 ≤ (64 : Byte).toNat ∧ 8 < (9 : Byte).toNat
      ∧ ¬ (((List.replicate 8 (⟨0, 1, 0, 0⟩ : EntryPlace)).take 2).map EntryPlace.station).Nodup
      ∧ 32 ≤ (32 : Byte).toNat ∧ 3 ≤ (3 : Byte).toNat ∧ (0 : Byte) ≠ 1 ∧ (0 : Byte) ≠ 2
      ∧ (running.setOf 0).entries.Perm (running.setOf 0).entries ∧ (running.setOf 0).entries.Pairwise (fun x y => x.station < y.station) := by decide +kernel

/-- The exit b byte of a FIXED entry may hold anything. -/
theorem witness_DecisionSetsAreWrittenAndRead_spelled :
    List.Forall₂ DecisionEntry.spelledBy [⟨0, .fixed 0⟩, ⟨31, .balance 0 2⟩] [⟨0, 1, 0, 0x77⟩, ⟨31, 2, 0, 2⟩] :=
  .cons ⟨rfl, rfl, rfl⟩ (.cons ⟨rfl, rfl, rfl, rfl⟩ .nil)

theorem witness_DraftsAreWritten :
    running.takesCommand = true ∧ (running.slotOf 31).state = .empty ∧ (running.slotOf 0).state ≠ .empty
      ∧ (running.slotOf 2).state = .draft program ∧ 32 ≤ (32 : Byte).toNat ∧ 9 ≤ (9 : Byte).toNat ∧ 64 ≤ (64 : Byte).toNat
      ∧ 3 ≤ (3 : Byte).toNat ∧ (8 : StageNo).val < 9 ∧ 9 < (10 : Byte).toNat ∧ (1 : Byte) ≠ 0xFF
      ∧ (1 : Byte).toNat ≤ (1 : Byte).toNat := by decide +kernel

/-- Every other state than DRAFT: an EMPTY slot, an ACTIVE one and a DRAINING one. -/
theorem witness_DraftsAreWritten_otherStates :
    (∀ p, (running.slotOf 31).state ≠ .draft p) ∧ (∀ p, (running.slotOf 0).state ≠ .draft p)
      ∧ (∀ p, (running.slotOf 3).state ≠ .draft p) ∧ (∀ p, (running.slotOf 2).state ≠ .active p) := by
  rw [show (running.slotOf 31).state = .empty by decide +kernel, show (running.slotOf 0).state = .active program by decide +kernel,
    show (running.slotOf 3).state = .draining program by decide +kernel,
    show (running.slotOf 2).state = .draft program by decide +kernel]
  exact ⟨nofun, nofun, nofun, nofun⟩

/-- The set of both stages of `program`, on this line, passes the ENTRY check. -/
theorem entryValid_zero {s : State} (hst : ∀ k, s.station k = running.station k) (hset : s.setOf 0 = running.setOf 0) :
    ∀ e ∈ (s.setOf 0).entries, s.EntryValid e := by
  intro e he
  rw [hset, show (running.setOf 0).entries = [⟨1, .fixed 0⟩] by decide +kernel, List.mem_singleton] at he
  subst he
  exact ⟨by rw [State.configured, hst]; decide +kernel, by rw [hst]; decide +kernel,
    show (0 : Exit).val < (s.station 1).exits.length by rw [hst]; decide +kernel⟩

/-- Stage 0 of `program`, wherever it stands in a program of two stages. -/
theorem stageValid_advance {s : State} (hst : ∀ k, s.station k = running.station k) (hset : s.setOf 0 = running.setOf 0)
    {p : Program} (h : p.stages.get 0 = some ⟨0, 1, .advance, 0⟩) (hn : p.stageCount = 2) : s.StageValid p 0 :=
  ⟨_, h, by rw [State.configured, hst]; decide +kernel, entryValid_zero hst hset, fun _ => by rw [hn]; decide,
    by rw [hst]; decide +kernel, nofun⟩

theorem stageValid_program {s : State} (hst : ∀ k, s.station k = running.station k) (hset : s.setOf 0 = running.setOf 0)
    (k : StageNo) (hk : k.val < program.stageCount) : s.StageValid program k := by
  have : k.val < 2 := hk
  rcases (by omega : k.val = 0 ∨ k.val = 1) with h | h
  · rw [show k = 0 from Fin.ext h]; exact stageValid_advance hst hset (by decide +kernel) rfl
  · rw [show k = 1 from Fin.ext h]
    exact ⟨⟨0, 2, .finish, 0⟩, by decide +kernel, by rw [State.configured, hst]; decide +kernel, entryValid_zero hst hset,
      nofun, by rw [hst]; decide +kernel, nofun⟩

theorem stageValid_loop {s : State} (hst : ∀ k, s.station k = running.station k) (hset : s.setOf 1 = running.setOf 1)
    (k : StageNo) (hk : k.val < loop.stageCount) : s.StageValid loop k := by
  have : k.val < 1 := hk
  rw [show k = 0 from Fin.ext (Nat.lt_one_iff.mp this)]
  refine ⟨⟨1, 1, .loop, 3⟩, by decide +kernel, by rw [State.configured, hst]; decide +kernel, fun e he => ?_, nofun,
    by rw [hst]; decide +kernel, fun _ => by decide +kernel⟩
  rw [hset, show (running.setOf 1).entries = [⟨1, .balance 0 1⟩] by decide +kernel, List.mem_singleton] at he
  subst he
  exact ⟨by rw [State.configured, hst]; decide +kernel, by rw [hst]; decide +kernel,
    show (0 : Exit).val < (s.station 1).exits.length ∧ (1 : Exit).val < (s.station 1).exits.length by
      rw [hst]; decide +kernel⟩

/-- The DRAFT in slot 2 passes; with stage 1 unwritten it fails there, and stage 0 still passes. -/
theorem witness_ActivationChecksEveryStage :
    let unwritten := { program with stages := program.stages.set 1 none }
    running.takesCommand = true ∧ (running.slotOf 2).state = .draft program
      ∧ (∀ k : StageNo, k.val < program.stageCount → running.StageValid program k)
      ∧ (1 : StageNo).val < unwritten.stageCount ∧ ¬ running.StageValid unwritten 1
      ∧ (∀ j : StageNo, j < 1 → running.StageValid unwritten j) ∧ firstFails (running.stageChecks unwritten 1) 0x10
      ∧ 32 ≤ (32 : Byte).toNat := by
  have none1 : ({ program with stages := program.stages.set 1 none } : Program).stages.get 1 = none := by decide +kernel
  refine ⟨by decide +kernel, by decide +kernel, stageValid_program (fun _ => rfl) rfl, by decide, fun ⟨x, h, _⟩ => ?_,
    fun j hj => ?_, ⟨[], _, _, rfl, nofun, fun h => h none1⟩, by decide⟩
  · exact absurd h (by rw [none1]; nofun)
  · have : j.val < 1 := hj
    rw [show j = 0 from Fin.ext (Nat.lt_one_iff.mp this)]
    exact stageValid_advance (fun _ => rfl) rfl (by decide +kernel) rfl

/-- A stage whose set names an OUTLET passes the first two checks and fails ENTRY. -/
theorem firstFails_entry :
    firstFails ((running.withSets (running.routes.sets.set 0 ⟨[⟨2, .fixed 0⟩], 0⟩)).stageChecks program 0) 0x12 := by
  have at0 : ∀ stage, program.stages.get 0 = some stage → stage = ⟨0, 1, .advance, 0⟩ := by
    intro stage h
    rw [show program.stages.get 0 = some ⟨0, 1, .advance, 0⟩ by decide +kernel] at h
    exact (Option.some.inj h).symm
  refine ⟨List.take 2 (State.stageChecks (running.withSets _) program 0), _, _, rfl, fun c hc => ?_, fun h => ?_⟩
  · simp only [State.stageChecks, List.take, List.mem_cons, List.not_mem_nil, or_false] at hc
    rcases hc with rfl | rfl
    · show program.stages.get 0 ≠ none
      decide +kernel
    · intro stage h; rw [at0 stage h]; decide +kernel
  · exact (h _ (show program.stages.get 0 = some ⟨0, 1, .advance, 0⟩ by decide +kernel) ⟨2, .fixed 0⟩ (by decide +kernel)).2.1
      (by decide +kernel)

theorem witness_WithdrawalsAndClassBindings :
    running.takesCommand = true ∧ (running.slotOf 0).state = .active program ∧ running.routes.classes.get 7 = some 0
      ∧ (running.slotOf 1).state = .active loop ∧ (∀ c, running.routes.classes.get c ≠ some 1)
      ∧ (running.slotOf 1).bound = 0 ∧ 0 < ((running.withSlot 1 ⟨.active loop, 1⟩).slotOf 1).bound
      ∧ 32 ≤ (32 : Byte).toNat ∧ 64 ≤ (64 : Byte).toNat ∧ (32 : Byte) ≠ 0xFF := by decide +kernel

theorem witness_BoundCountsAndDraining :
    (running.slotOf 3).state = .draining program ∧ (running.slotOf 3).bound ≤ 1
      ∧ 1 < ((running.withSlot 3 ⟨.draining program, 2⟩).slotOf 3).bound := by decide +kernel

theorem witness_OutletCommandsKeepTheAccount :
    running.takesCommand = true ∧ (running.station 2).type = .outlet ∧ (running.station 2).port0 = some 2
      ∧ (3 : Byte).toNat < 4 ∧ 4 ≤ (4 : Byte).toNat ∧ (1 : Byte).getLsbD 0 = true ∧ 4095 < 4096
      ∧ (let s := (running.withOutlet 2 ⟨4, 3, false, false, false⟩).withReserved 2 1
        (s.outlet 2).delivered + s.depth 2 ≤ 4 ∧ 3 < (s.outlet 2).delivered + s.depth 2)
      ∧ (2 : Byte).getLsbD 1 = true ∧ (1 : Byte).getLsbD 1 = false ∧ 2 ≤ (2 : Byte).toNat
      ∧ (running.station 1).type ≠ .outlet ∧ ∀ k : Station, ¬ 32 = k.val := by
  refine ⟨by decide +kernel, by decide +kernel, by decide +kernel, by decide, by decide, by decide, by decide,
    by decide +kernel, by decide, by decide, by decide, by decide +kernel, fun k h => absurd k.isLt (by simp [← h, Config.stations])⟩

theorem witness_ZonesEnterHalted :
    let sampled := running.withZones { running.zones with lastSample := 1, priorSample := 1 }
    running.takesCommand = true ∧ 8 ≤ (8 : Byte).toNat ∧ sampled.zones.levels.getLsbD 0 = false
      ∧ sampled.zones.lastSample.getLsbD 0 = true ∧ sampled.zones.priorSample.getLsbD 0 = true
      ∧ bare.takesCommand = true ∧ bare.map.device = .setup ∧ running.map.device ≠ .setup ∧ 4 ≤ (4 : Byte).toNat
      ∧ bare.zones.levels.getLsbD 3 = false
      ∧ (bare.withZones { bare.zones with levels := 8 }).zones.levels.getLsbD 3 = true := by decide +kernel

/-- The running line satisfies Law 1 with every queue empty. -/
theorem queueLaw_running : running.QueueLaw := by
  have hq : ∀ g, running.queue g = [] := by decide +kernel
  have hf := witness_StartStopAndScan_stop
  refine ⟨fun g => by simp [hq], fun g h hm => by simp [hq] at hm, fun h hm => ?_⟩
  rw [hf] at hm; cases hm

theorem witness_ResumeRestoresTheZone :
    running.takesCommand = true ∧ running.QueueLaw ∧ 8 ≤ (8 : Byte).toNat
      ∧ (∀ n, ¬ running.lineHolds 0 n) ∧ running.zoneHalted 0 = false
      ∧ (let s := running.withZones { halted.zones with levels := 9 }
        s.lineHolds 0 0 ∧ (∀ m : HaltLine, ¬ m < 0) ∧ s.takesCommand = true ∧ s.QueueLaw)
      ∧ halted.takesCommand = true ∧ halted.QueueLaw ∧ (∀ n, ¬ halted.lineHolds 0 n) ∧ halted.zoneHalted 0 = true := by
  refine ⟨by decide +kernel, queueLaw_running, by decide, fun n h => ?_, by decide +kernel,
    ⟨⟨by decide +kernel, by decide +kernel⟩, fun m h => absurd h (Nat.not_lt_zero m.val), by decide +kernel, queueLaw_running⟩,
    by decide +kernel, queueLaw_running, fun n h => ?_, by decide +kernel⟩
  · have h1 := h.1
    rw [show running.zones.levels = 0 by decide +kernel] at h1
    simp at h1
  · have h1 := h.1
    rw [show halted.zones.levels = 0 by decide +kernel] at h1
    simp at h1

/-- First the lowest station, then the next above, then round again; nothing outstanding, or a poll outstanding. -/
theorem witness_PollGoesRoundRobin :
    bare.link.outstanding = none ∧ bare.nextInRound 0
      ∧ (bare.withLink { bare.link with lastPolled := some 1 }).nextInRound 2
      ∧ (bare.withLink { bare.link with lastPolled := some 3 }).nextInRound 0
      ∧ moving.link.outstanding ≠ none ∧ ∀ k, State.reset.configured k = false := by
  refine ⟨by decide +kernel, ⟨by decide +kernel, ?_⟩, ⟨by decide +kernel, ?_⟩, ⟨by decide +kernel, ?_⟩, by decide +kernel,
    by decide +kernel⟩
  · exact fun j h => absurd h (Nat.not_lt_zero j.val)
  · exact .inl ⟨by decide, fun j h1 h2 => absurd h2 (by
      have h1' : 1 < j.val := h1
      have h2' : j.val < 2 := h2
      omega)⟩
  · exact .inr ⟨by decide +kernel, fun j h => absurd h (Nat.not_lt_zero j.val)⟩

theorem witness_TransactionsEnd : moving.link.outstanding = some 1 ∧ bare.link.outstanding = none := by decide +kernel

/-- Too short; a bad check byte; another station's number; report kind 3. -/
theorem witness_InvalidAnswersAreDiscarded :
    let b : List Byte := [1, 0, 0, 0, 0, 0, 0, 0, 0, 0, 0]
    moving.link.outstanding = some 1 ∧ b.length ≠ 12 ∧ (b ++ [crc8 b + 1]).getLast? ≠ some (crc8 (b ++ [crc8 b + 1]).dropLast)
      ∧ ([2, 0] : List Byte).head? ≠ some (byteNat 1)
      ∧ (([1, 6] : List Byte)[1]?.map fun x => x.extractLsb' 1 2) = some 3#2 := by decide +kernel

theorem witness_ReportsNotActedOnTouchOnlyTheLink :
    moving.link.outstanding = some 1 ∧ moving.configured 1 = true ∧ ((moving.linkOf 1).heard none).accepted = none
      ∧ moving.map.device = .running ∧ (moving.custodyOf 1).isHalted = false ∧ moving.custodyOf 1 = .idle
      ∧ directed.link.outstanding = some 1 ∧ (directed.custodyOf 1).isHalted = false ∧ directed.custodyOf 1 ≠ .idle
      ∧ (let s := moving.withLinkOf 1 { (moving.linkOf 1) with accepted := some ⟨7, .ok⟩ }
        ((s.linkOf 1).heard none).accepted = some ⟨7, .ok⟩ ∧ s.configured 1 = true)
      ∧ ((bare.withLink moving.link).map.device ≠ .running) ∧ ((halted.withLink moving.link).custodyOf 1).isHalted = true
      ∧ (running.withLink { running.link with outstanding := some 31 }).configured 31 = false := by decide +kernel

/-- A carrier queued on segment 1 until `d`, its route slot `q`. -/
def queued (d : Time) (q : Slot) : CarrierRecord :=
  { CarrierRecord.free 2 with
    state := .inTransit, location := .onSegment 1, window := some (.timed 90 d), route := some ⟨q, 0, 0⟩ }

/-- Carrier 5 HELD BLOCKED at station 1, which waits on segment 2, and carriers 6 and 7 queued on segment 1; slot 0 bound
twice and the DRAINING slot 3 once; a transaction open. -/
def busy : State :=
  ((((blocked.modRecord 6 fun _ => queued 150 0).modRecord 7 fun _ => queued 160 3).withQueue 1 [6, 7]).withSlot 0
      ⟨.active program, 2⟩).withPort
    { running.port with transaction := .underWay ⟨0x82, .free⟩ }

theorem record_busy (h : Handle) :
    busy.record h =
      if 7 = h then queued 160 3 else if 6 = h then queued 150 0
      else if 5 = h then carrier .held (.atStation 1) none else CarrierRecord.free 0 := by
  rw [show busy.record h
      = ((blocked.modRecord 6 fun _ => queued 150 0).modRecord 7 fun _ => queued 160 3).record h from rfl,
    State.record_modRecord, State.record_modRecord, show blocked.record h
      = (running.modRecord 5 fun _ => carrier .held (.atStation 1) none).record h from rfl, State.record_modRecord,
    show running.record h = CarrierRecord.free 0 from Table.get_fill _ _]

theorem queue_busy (g : Segment) : busy.queue g = if g = 1 then [6, 7] else [] := by revert g; decide +kernel

theorem waiterList_busy (g : Segment) : busy.waiterList g = if g = 2 then [1] else [] := by revert g; decide +kernel

theorem placeLaws_busy : busy.PlaceLaws := by
  have hc : ∀ st, (busy.custodyOf st).occupant? = if st = 1 then some 5 else none := by decide +kernel
  refine ⟨⟨fun g => ?_, fun g h hm => ?_, fun h hm => ?_⟩, ⟨fun st c hm => ?_, fun c hm => ?_⟩,
    fun h => absurd (by decide +kernel) h⟩
  · rw [queue_busy]; split <;> decide
  · rw [queue_busy] at hm
    split at hm
    · next e => subst e; rcases List.mem_pair.mp hm with rfl | rfl <;> decide +kernel
    · cases hm
  · rw [record_busy] at hm
    split at hm
    · next e => subst e; exact ⟨1, by decide +kernel⟩
    · split at hm
      · next e => subst e; exact ⟨1, by decide +kernel⟩
      · split at hm <;> cases hm
  · rw [hc] at hm
    split at hm
    · next e => subst e; cases hm; decide +kernel
    · cases hm
  · rw [record_busy] at hm
    split at hm
    · cases hm
    · split at hm
      · cases hm
      · split at hm
        · next e => subst e; exact ⟨1, by decide +kernel⟩
        · cases hm

theorem witness_StepsKeepPlaceLaws : busy.PlaceLaws := placeLaws_busy

theorem witness_StepsKeepRecordLaws : busy.FreeLaw ∧ busy.TagLaw ∧ busy.ExceptionLaw := by
  refine ⟨fun h hf => ?_, ⟨by decide +kernel, fun t h => ?_, fun h => ?_⟩, by unfold State.ExceptionLaw; decide +kernel⟩
  · rw [record_busy] at hf ⊢
    split at hf
    · cases hf
    · split at hf
      · cases hf
      · split at hf
        · cases hf
        · next h7 h6 h5 => rw [if_neg h7, if_neg h6, if_neg h5]; rfl
  · rw [record_busy, show TagIndex.lookup t busy.tags = none from rfl]
    repeat' split
    all_goals simp [queued, carrier, CarrierRecord.free]
  · rw [record_busy]
    repeat' split
    all_goals simp [queued, carrier, CarrierRecord.free]

/-- The program of each slot of `busy` that has one. -/
theorem program_busy (q : Slot) :
    (busy.programOf q = none ∨ busy.programOf q = some program ∨ busy.programOf q = some loop)
      ∧ ((busy.slotOf q).state.counted? = none ∨ (busy.slotOf q).state.counted? = some program
        ∨ (busy.slotOf q).state.counted? = some loop) := by
  revert q; decide +kernel

theorem boundLaw_busy : busy.BoundLaw := by
  refine ⟨by decide +kernel, fun q => ?_, fun c q h => ?_⟩
  · have : ∀ q, (match (busy.slotOf q).state with
        | .empty | .draft _ => (busy.slotOf q).bound == 0
        | .active _ => true
        | .draining _ => 0 < (busy.slotOf q).bound) = true := by decide +kernel
    have := this q
    split <;> simp_all
  · have : ∀ c, (match busy.routes.classes.get c with
        | some q => (busy.slotOf q).state.isActive
        | none => true) = true := by decide +kernel
    have := this c
    rw [h] at this
    exact this

theorem referenceLaw_busy : busy.ReferenceLaw := by unfold State.ReferenceLaw; decide +kernel

theorem routeLaw_busy : busy.RouteLaw := by
  have ranged : program.InRange ∧ loop.InRange := by unfold Program.InRange; decide +kernel
  have hst : ∀ k, running.station k = running.station k := fun _ => rfl
  refine ⟨fun q p h => ?_, fun q p h k hk => ?_, fun h r hr => ?_⟩
  · rcases (program_busy q).1 with e | e | e <;> rw [e] at h <;> cases h
    · exact ranged.1
    · exact ranged.2
  · rcases (program_busy q).2 with e | e | e <;> rw [e] at h <;> cases h
    · obtain ⟨stage, hs, -, -, ha, -, hl⟩ := stageValid_program hst rfl k hk
      exact ⟨stage, hs, ha, hl⟩
    · obtain ⟨stage, hs, -, -, ha, -, hl⟩ := stageValid_loop hst rfl k hk
      exact ⟨stage, hs, ha, hl⟩
  · rw [record_busy] at hr
    split at hr
    · cases hr; exact ⟨program, by decide +kernel, by decide, by decide⟩
    · split at hr
      · cases hr; exact ⟨program, by decide +kernel, by decide, by decide⟩
      · split at hr
        · cases hr; exact ⟨program, by decide +kernel, by decide, by decide⟩
        · cases hr

theorem validLaw_busy : busy.ValidLaw := by
  refine fun _ => ⟨by decide +kernel, fun st => ?_, fun g => ?_, fun q p h k hk => ?_⟩
  · revert st; unfold State.StationValid State.feeds; decide +kernel
  · revert g; unfold State.SegmentValid; decide +kernel
  · rcases (program_busy q).2 with e | e | e <;> rw [e] at h <;> cases h
    · exact stageValid_program (fun _ => rfl) rfl k hk
    · exact stageValid_loop (fun _ => rfl) rfl k hk

theorem standingLaws_busy : busy.StandingLaws := by
  refine ⟨by unfold State.HaltLaw; decide +kernel, by unfold State.AccountLaw; decide +kernel, fun st => ?_,
    ⟨by decide +kernel, by decide +kernel, fun i => ⟨by decide +kernel +revert, by decide +kernel +revert, fun e a b he hp => ?_⟩⟩,
    ⟨by decide +kernel, fun o ho => ?_⟩⟩
  · have : ∀ st, busy.linkOf st = .powerOn ∨ busy.linkOf st = { LinkRecord.powerOn with state := .up } := by decide +kernel
    rcases this st with e | e <;> rw [e] <;> exact ⟨by decide, by decide, trivial⟩
  · have : ∀ i, ∀ e ∈ (busy.setOf i).entries, (match e.preference with | .balance a b => a != b | _ => true) = true := by
      decide +kernel
    have := this i e he
    rw [hp] at this
    exact bne_iff_ne.mp this
  · cases ho; exact ⟨by decide, by decide +kernel⟩

theorem windowLaw_busy : busy.WindowLaw := by
  have w6 : (busy.record 6).window = some (.timed 90 150) := by decide +kernel
  have w7 : (busy.record 7).window = some (.timed 90 160) := by decide +kernel
  intro g
  rw [queue_busy]
  split
  · next e =>
    subst e
    refine ⟨fun h hm => ?_, .cons (fun h hm w w' hw hw' => ?_) (.cons (by simp) .nil)⟩
    · rcases List.mem_pair.mp hm with rfl | rfl
      · exact ⟨_, w6, by decide +kernel⟩
      · exact ⟨_, w7, by decide +kernel⟩
    · rw [List.mem_singleton.mp hm] at hw'
      rw [w6] at hw; rw [w7] at hw'
      cases hw; cases hw'
      show Time.isAfter _ _ = true → _
      decide +kernel
  · exact ⟨by simp, .nil⟩

theorem witness_StepsKeepRoomLaws :
    busy.PlaceLaws ∧ busy.ReservationLaw ∧ busy.CapacityLaw ∧ busy.FreeLaw ∧ busy.BoundLaw ∧ busy.RouteLaw ∧ busy.ValidLaw
      ∧ busy.StandingLaws ∧ busy.WaiterLaw ∧ busy.WindowLaw
      ∧ ∀ g, ∀ h ∈ busy.queue g, ∀ e d, (busy.record h).window = some (.timed e d) → d ≠ busy.lineTime + 65536 := by
  refine ⟨placeLaws_busy, by unfold State.ReservationLaw; decide +kernel, by unfold State.CapacityLaw; decide +kernel,
    witness_StepsKeepRecordLaws.1, boundLaw_busy, routeLaw_busy, validLaw_busy, standingLaws_busy, ?_, windowLaw_busy,
    fun g h hm e d hw => ?_⟩
  · have hc : ∀ st, (busy.custodyOf st).waits = decide (st = 1) := by decide +kernel
    refine ⟨fun g => ?_, fun g g' st hg hg' => ?_, fun st => ⟨fun ⟨g, hg⟩ => ?_, fun h => ⟨2, ?_⟩⟩⟩
    · rw [waiterList_busy]; split <;> decide
    · rw [waiterList_busy] at hg hg'
      split at hg <;> split at hg' <;> simp_all
    · rw [waiterList_busy] at hg
      split at hg
      · rw [List.mem_singleton.mp hg]; decide +kernel
      · cases hg
    · rw [hc] at h
      rw [waiterList_busy, of_decide_eq_true h]; decide
  · rw [queue_busy] at hm
    split at hm
    · rcases List.mem_pair.mp hm with rfl | rfl
      · rw [show (busy.record 6).window = some (.timed 90 150) by decide +kernel] at hw; cases hw; decide +kernel
      · rw [show (busy.record 7).window = some (.timed 90 160) by decide +kernel] at hw; cases hw; decide +kernel
    · cases hm

theorem witness_StepsKeepRouteStoreLaws : busy.FreeLaw ∧ busy.BoundLaw ∧ busy.ReferenceLaw ∧ busy.RouteLaw :=
  ⟨witness_StepsKeepRecordLaws.1, boundLaw_busy, referenceLaw_busy, routeLaw_busy⟩

theorem witness_StepsKeepStandingLaws : busy.StandingLaws ∧ busy.ReferenceLaw ∧ busy.ValidLaw :=
  ⟨standingLaws_busy, referenceLaw_busy, validLaw_busy⟩

end Sys2Proof.Tests
end

section
/-! RELEASE (R99): what a taken command leaves in the port, the fresh decision of a held occupant, and the command. -/

namespace Sys2Proof.Machine

/-! ### A command taken -/

/-- A command taken, its block doing the same whatever the port holds: the block's state, with the answer in the buffer. -/
theorem hostCommand_answered {s t : State} {code : Byte} {len : Nat} {block : State → State × Reply} {r : Reply}
    (h : s.takesCommand = true) (hb : ∀ p, block (s.withPort p) = (t.withPort p, r)) :
    hostCommand code len block s = .next { t with port := s.portAfter code len r.code r.data } := by
  have ha : s.port.transaction ≠ .abandoned := fun e => by
    rw [State.takesCommand_of_abandoned e] at h; cases h
  have hu : s.shiftFill (len + 3) = s.withPort (s.portIdle (len + 3)) := State.shiftFill_eq s _
  rw [hostCommand_taken h, hu, hb]
  simp only [State.respond, State.withPort, State.portIdle, State.portEnded, State.portAfter, if_neg ha]

/-- A command taken and refused by its block, whatever the port holds: the code alone in the buffer. -/
theorem hostCommand_refused {s : State} {code : Byte} {len : Nat} {block : State → State × Reply} {a : AnswerCode}
    (h : s.takesCommand = true) (hb : ∀ p, block (s.withPort p) = refuse (s.withPort p) a) :
    hostCommand code len block s = .next (s.refusedWith code len a) :=
  hostCommand_answered h hb

theorem byteNat_toNat {n : Nat} (h : n < 256) : (byteNat n).toNat = n := by
  simp only [byteNat, BitVec.toNat_ofNat]; exact Nat.mod_eq_of_lt h

theorem byteNat_exit_toNat (e : Exit) : (byteNat e.val).toNat = e.val := byteNat_toNat (lt_trans e.isLt (by decide))

theorem index?_station (k : Station) : index? Config.stations (byteNat k.val) = some k := index?_byteNat (by decide) k

/-- A carrier's name is unchanged as long as its generation is. -/
theorem State.carrierBytes_congr {s t : State} {c : Handle} (h : (t.record c).generation = (s.record c).generation) :
    t.carrierBytes c = s.carrierBytes c := by
  simp only [State.carrierBytes, h]

theorem State.carrierBytes_eq_nameOf (s : State) (c : Handle) : s.carrierBytes c = s.nameOf c := by
  have h0 : byteOf (BitVec.ofNat 16 c.val) 0 = BitVec.ofNat 8 (c.val % 256) := by
    apply BitVec.eq_of_toNat_eq; simp [byteOf]
  have h1 : byteOf (BitVec.ofNat 16 c.val) 1 = BitVec.ofNat 8 (c.val / 256) := by
    apply BitVec.eq_of_toNat_eq
    have : c.val < 1024 := c.isLt
    simp [byteOf, Nat.shiftRight_eq_div_pow]; omega
  simp [State.carrierBytes, State.nameOf, wordNat, leBytes, List.range_succ, h0, h1]

theorem Custody.exists_of_isHalted {c : Custody} (h : c.isHalted = true) : ∃ v, c = .halted v := by
  cases c with
  | halted v => exact ⟨v, rfl⟩
  | _ => cases h

/-! ### A fresh decision (R98, R99) -/

theorem State.redecide_toExit {s : State} {k : Station} {c : Handle} {e : Exit} {g : Segment}
    (hd : (s.decide k c).choice = .toExit e) (hg : (s.station k).exitSegment e.val = some g) :
    s.redecide k c
      = s.directed k c (s.record c) (s.decide k c) e g (s.linkWith k ((s.linkOf k).placed (.release e) none)) := by
  simp only [State.redecide, hd]
  exact State.markDecision_directTo s k c _ e _ _ g hg

theorem State.redecide_blocked {s : State} {k : Station} {c : Handle} {g : Segment}
    (hd : (s.decide k c).choice = .blocked (some g)) :
    s.redecide k c = s.blockedOn k c (s.record c) (s.decide k c) g s.link := by
  simp only [State.redecide, hd]
  exact State.markDecision_block s k c _ g

theorem State.decide_withPort (s : State) (k : Station) (c : Handle) (p : HostPort) :
    (s.withPort p).decide k c = s.decide k c := State.decide_congr k c rfl rfl rfl rfl rfl rfl rfl

/-- The port has no part in a fresh decision. -/
theorem State.redecide_withPort (s : State) (k : Station) (c : Handle) (p : HostPort) :
    (s.withPort p).redecide k c = (s.redecide k c).withPort p := by
  simp only [State.redecide, State.decide_withPort]
  generalize s.decide k c = d
  rw [State.markDecision_eq, State.markDecision_eq s]
  cases d.choice with
  | toExit e =>
    simp only [State.directTo, State.station]
    cases hx : (s.map.stations.get k).exitSegment e.val <;> simp [State.putInCustody, hx] <;> rfl
  | blocked g => cases g <;> rfl

/-- Which carrier a handle names does not change by a fresh decision. -/
theorem State.redecide_generation (s : State) (k : Station) (c : Handle) :
    ((s.redecide k c).record c).generation = (s.record c).generation := by
  simp only [State.redecide]
  generalize s.decide k c = d
  rw [State.markDecision_eq]
  cases d.choice with
  | toExit e =>
    simp only [State.directTo, State.reserve]
    split <;> simp [State.record, State.putInCustody, State.modRecord, Table.get_modify, State.placeDirective]
  | blocked g =>
    cases g <;> simp [State.record, State.block, State.joinWaiters, State.putInCustody, State.modRecord, Table.get_modify]

/-! ### RELEASE (R99) -/

theorem exec_release_refused {s : State} {b : Byte} {a : AnswerCode} (h : s.takesCommand = true)
    (hb : ∀ p, (s.withPort p).releaseCommand b = refuse (s.withPort p) a) :
    exec (.release b) s = .next (s.refusedWith 0x53 1 a) :=
  hostCommand_refused (block := (·.releaseCommand b)) h hb

theorem State.releaseCommand_notRunning (s : State) (b : Byte) (hr : s.map.device ≠ .running) :
    s.releaseCommand b = refuse s .notRunning := if_pos hr

theorem State.releaseCommand_noStation (s : State) {b : Byte} (hr : s.map.device = .running) (hb : 32 ≤ b.toNat) :
    s.releaseCommand b = refuse s .badParam := by
  simp [State.releaseCommand, hr, index?_eq_none.mpr hb]

theorem State.releaseCommand_unconfigured (s : State) {k : Station} (hr : s.map.device = .running)
    (hc : s.configured k = false) : s.releaseCommand (byteNat k.val) = refuse s .badParam := by
  simp [State.releaseCommand, hr, hc, index?_station]

section
variable (s : State) {k : Station} (hr : s.map.device = .running) (hc : s.configured k = true)
include hr hc

theorem State.releaseCommand_halted {v : SavedCustody} (h : s.custodyOf k = .halted v) :
    s.releaseCommand (byteNat k.val) = refuse s .zoneHalted := by
  simp [State.releaseCommand, hr, hc, index?_station, h]

theorem State.releaseCommand_heldBlocked {c : Handle} (h : s.custodyOf k = .heldBlocked c) :
    s.releaseCommand (byteNat k.val) = refuse s .wrongState := by
  simp [State.releaseCommand, hr, hc, index?_station, h]

theorem State.releaseCommand_notHeld (h : s.custodyOf k = .idle ∨ (∃ c e x, s.custodyOf k = .occupied c e x)
    ∨ ∃ c e, s.custodyOf k = .jammed c e) : s.releaseCommand (byteNat k.val) = refuse s .notHeld := by
  rcases h with h | ⟨c, e, x, h⟩ | ⟨c, e, h⟩ <;> simp [State.releaseCommand, hr, hc, index?_station, h]

/-- The answer of a dwell's release names the carrier, which a fresh decision leaves the same. -/
theorem State.releaseCommand_heldDwell {c : Handle} {x : Time} (h : s.custodyOf k = .heldDwell c x) :
    s.releaseCommand (byteNat k.val)
      = accept (s.redecide k c) (s.carrierBytes c ++ (s.decide k c).choice.bytes) := by
  simp [State.releaseCommand, hr, hc, index?_station, h, State.carrierBytes_congr (s.redecide_generation k c)]

end

/-- RELEASE of a dwell is the fresh decision, answered with the carrier and the choice. -/
theorem exec_release_heldDwell {k : Station} {s : State} {c : Handle} {x : Time} (ht : s.takesCommand = true)
    (hr : s.map.device = .running) (hc : s.configured k = true) (hd : s.custodyOf k = .heldDwell c x) :
    exec (.release (byteNat k.val)) s
      = .next { s.redecide k c with
          port := s.portAfter 0x53 1 .ok (s.carrierBytes c ++ (s.decide k c).choice.bytes) } := by
  refine hostCommand_answered (block := (·.releaseCommand (byteNat k.val)))
    (r := ⟨.ok, s.carrierBytes c ++ (s.decide k c).choice.bytes⟩) ht fun p => ?_
  have hb := (s.withPort p).releaseCommand_heldDwell hr hc hd
  rwa [State.redecide_withPort, State.decide_withPort] at hb

end Sys2Proof.Machine

open Sys2Proof Sys2Proof.Machine

/-- Settles O28: each refusal by its check, and a dwell by the fresh decision that ends it. -/
theorem releaseEndsADwell : Obligations.ReleaseEndsADwell := by
  intro k s ht
  refine ⟨fun hr b => ?_, fun hr => ⟨fun b hb => ?_, fun hc => ?_, fun hc =>
    ⟨fun hh => ?_, fun c hd => ?_, fun hn => ?_, fun c x hd => ⟨fun e g he hg => ?_, fun g hb => ?_⟩⟩⟩⟩
  · exact exec_release_refused ht fun p => (s.withPort p).releaseCommand_notRunning b hr
  · exact exec_release_refused ht fun p => (s.withPort p).releaseCommand_noStation hr hb
  · exact exec_release_refused ht fun p => (s.withPort p).releaseCommand_unconfigured hr hc
  · obtain ⟨v, hv⟩ := Custody.exists_of_isHalted hh
    exact exec_release_refused ht fun p => (s.withPort p).releaseCommand_halted hr hc hv
  · exact exec_release_refused ht fun p => (s.withPort p).releaseCommand_heldBlocked hr hc hd
  · exact exec_release_refused ht fun p => (s.withPort p).releaseCommand_notHeld hr hc hn
  · rw [exec_release_heldDwell ht hr hc hd, State.redecide_toExit he hg, State.carrierBytes_eq_nameOf, he]; rfl
  · rw [exec_release_heldDwell ht hr hc hd, State.redecide_blocked hb, hb]; rfl
end

section
/-! CLEAR_JAM (R105, R106): what a stage transition reads and keeps, what the steps of a clear come to, and the command. -/

namespace Sys2Proof.Machine

/-! ### What a stage transition reads and keeps -/

/-- Two states with the same Line Map, carriers and Route Store: all that a stage transition goes by. -/
structure State.SameRouting (s t : State) : Prop where
  map : t.map = s.map
  carriers : t.carriers = s.carriers
  routes : t.routes = s.routes

namespace State.SameRouting

variable {s t : State}

theorem of_eq (h : s = t) : s.SameRouting t := by subst h; exact ⟨rfl, rfl, rfl⟩

theorem record (h : s.SameRouting t) (c : Handle) : t.record c = s.record c := by
  simp only [State.record, h.carriers]

theorem modRecord (h : s.SameRouting t) (c : Handle) (f : CarrierRecord → CarrierRecord) :
    (s.modRecord c f).SameRouting (t.modRecord c f) :=
  ⟨h.map, by simp only [State.modRecord, State.withCarriers_carriers, h.carriers], h.routes⟩

theorem unbindSlot? (h : s.SameRouting t) (q : Option Slot) : (s.unbindSlot? q).SameRouting (t.unbindSlot? q) := by
  have hr := State.unbindSlot?_congr s t q h.routes
  rw [State.unbindSlot?_eq s, State.unbindSlot?_eq t]
  exact ⟨h.map, h.carriers, hr⟩

theorem strand (h : s.SameRouting t) (c : Handle) : (s.strand c).SameRouting (t.strand c) := by
  have hr := State.unbindSlot?_congr s t ((s.record c).route.map RouteRef.slot) h.routes
  rw [State.strand_eq, State.strand_eq, h.record]
  exact ⟨h.map, by simp only [h.carriers], hr⟩

theorem applyPending (h : s.SameRouting t) (c : Handle) (q : Slot) :
    (s.applyPending c q).SameRouting (t.applyPending c q) := by
  simp only [State.applyPending, h.record]
  exact (h.unbindSlot? _).modRecord c _

theorem takeAdvance (h : s.SameRouting t) (c : Handle) (r : RouteRef) :
    (s.takeAdvance c r).SameRouting (t.takeAdvance c r) := by
  simp only [State.takeAdvance]
  split
  · exact h.modRecord c _
  · exact h

theorem takeLoop (h : s.SameRouting t) (c : Handle) (r : RouteRef) (p : Program) :
    (s.takeLoop c r p).SameRouting (t.takeLoop c r p) := by
  simp only [State.takeLoop, h.record]
  split
  · exact h.strand c
  · split
    · exact h.strand c
    · split
      · exact h.modRecord c _
      · split
        · exact (h.modRecord c _).modRecord c _
        · exact (h.modRecord c _).strand c

theorem endAction (h : s.SameRouting t) (k : Station) (e : Byte) (c : Handle) (r : RouteRef) (p : Program)
    (stage : Stage) : (s.endAction k e c r p stage).SameRouting (t.endAction k e c r p stage) := by
  have ha : t.approach stage.boundary = s.approach stage.boundary := by
    simp only [State.approach, State.station, State.segment, h.map]
  simp only [State.endAction, ha]
  split
  · split
    · exact h.takeAdvance c r
    · exact h
  · split
    · exact h.takeLoop c r p
    · exact h
  · split
    · split
      · exact h.takeLoop c r p
      · exact h
    · exact h

theorem stageTransition (h : s.SameRouting t) (k : Station) (e : Byte) (c : Handle) :
    (s.stageTransition k e c).SameRouting (t.stageTransition k e c) := by
  have hp (q : Slot) : t.programOf q = s.programOf q := by simp only [State.programOf, State.slotOf, h.routes]
  simp only [State.stageTransition, h.record, hp]
  split
  · exact h.applyPending c _
  · exact h
  · split
    · exact h
    · split
      · exact h
      · exact h.endAction ..

end State.SameRouting

/-! ### Generations -/

/-- The two states give each handle the same generation. -/
def State.SameGenerations (s t : State) : Prop := ∀ h, (t.record h).generation = (s.record h).generation

namespace State.SameGenerations

theorem refl (s : State) : s.SameGenerations s := fun _ => rfl

theorem trans {s t u : State} (h : s.SameGenerations t) (h' : t.SameGenerations u) : s.SameGenerations u :=
  fun x => (h' x).trans (h x)

theorem modRecord (s : State) (c : Handle) (f : CarrierRecord → CarrierRecord)
    (hf : ∀ r, (f r).generation = r.generation) : s.SameGenerations (s.modRecord c f) := fun h => by
  rw [State.record_modRecord]
  split
  · exact hf _
  · rfl

theorem unbindSlot? (s : State) (q : Option Slot) : s.SameGenerations (s.unbindSlot? q) := by
  rw [State.unbindSlot?_eq]; exact refl s

theorem setException (s : State) (c : Handle) (x : ExceptionKind) : s.SameGenerations (s.setException c x) :=
  modRecord s c (fun r => { r with exception := some x }) fun _ => rfl

theorem strand (s : State) (c : Handle) : s.SameGenerations (s.strand c) := by
  have hx := (unbindSlot? s ((s.record c).route.map RouteRef.slot)).trans
    (modRecord _ c (fun r => { r with route := none, flags := { r.flags with dwelt := false } }) fun _ => rfl)
  exact hx.trans (setException _ c _)

theorem takeLoop (s : State) (c : Handle) (r : RouteRef) (p : Program) : s.SameGenerations (s.takeLoop c r p) := by
  simp only [State.takeLoop]
  split
  · exact strand s c
  · split
    · exact strand s c
    · split
      · exact modRecord s c _ fun _ => rfl
      · have hx := modRecord s c (fun rec => { rec with flags := { rec.flags with exhausted := true } }) fun _ => rfl
        split
        · exact hx.trans (modRecord _ c _ fun _ => rfl)
        · exact hx.trans (strand _ c)

theorem endAction (s : State) (k : Station) (e : Byte) (c : Handle) (r : RouteRef) (p : Program) (stage : Stage) :
    s.SameGenerations (s.endAction k e c r p stage) := by
  simp only [State.endAction, State.takeAdvance]
  split
  · split
    · split
      · exact modRecord s c _ fun _ => rfl
      · exact refl s
    · exact refl s
  · split
    · exact takeLoop s c r p
    · exact refl s
  · split
    · split
      · exact takeLoop s c r p
      · exact refl s
    · exact refl s

theorem stageTransition (s : State) (k : Station) (e : Byte) (c : Handle) :
    s.SameGenerations (s.stageTransition k e c) := by
  simp only [State.stageTransition]
  split
  · exact (unbindSlot? s _).trans (modRecord _ c _ fun _ => rfl)
  · exact refl s
  · split
    · exact refl s
    · split
      · exact refl s
      · exact endAction s k e c _ _ _

end State.SameGenerations

/-! ### The steps of a clear (R94, R95, R106) -/

theorem State.withdrawDirective_eq (s : State) (k : Station) :
    s.withdrawDirective k = s.withLink (s.linkWith k (s.linkOf k).withdrawn) := by
  have : (s.linkOf k).withdraw = (s.linkOf k).withdrawn := by
    rcases s.linkOf k with ⟨st, mc, acc, ack, _ | x | x, ln⟩ <;> rfl
  simp only [State.withdrawDirective, this]; rfl

/-- Where the occupant has a directed exit, its reservation is released. -/
theorem State.releaseHold_of_exit {s : State} {k : Station} {e : Exit} {g : Segment}
    (hc : (s.custodyOf k).exit? = some e) (hg : (s.station k).exitSegment e.val = some g) :
    s.releaseHold k = s.withReserved g (s.reservedCount g - 1) := by
  cases hk : s.custodyOf k <;> rw [hk] at hc <;> cases hc <;> simp [State.releaseHold, hk, State.unreserve, hg]

theorem Custody.exit?_of_jammed {x : Custody} {c : Handle} {e : Exit} (h : x = .jammed c e) : x.exit? = some e := by
  rw [h]; rfl

theorem Custody.deviates_iff {c : Custody} {e : Exit} (h : c.exit? = some e) (b : Byte) :
    c.deviates b = true ↔ b.toNat ≠ e.val := by
  simp [Custody.deviates, h]

/-- A carrier that finds no room, or no exit: LOST_DEVIATED, its last segment the exit's. -/
theorem State.leaveBy_lost (s : State) (c : Handle) (g : Option Segment) (h : ∀ x, g = some x → s.hasRoom x = false) :
    s.leaveBy c g
      = ({ s with
          carriers :=
            { records := s.carriers.records.set c { (s.record c).lostBy .lostDeviated with lastSegment := g }
              exceptionCount := (s.record c).raised s.carriers.exceptionCount } }, false) := by
  have lost : s.leaveBy c g = ((s.modRecord c fun r => { r with lastSegment := g }).makeLost c .lostDeviated, false) := by
    cases g with
    | none => rfl
    | some x => simp [State.leaveBy, h x rfl]
  rw [lost, State.makeLost_eq, State.modRecord_eq]
  simp only [State.record, Table.get_set_self, Table.set_set]
  rfl

theorem State.leaveBy_appended (s : State) (c : Handle) {g : Segment} (h : s.hasRoom g = true) :
    s.leaveBy c (some g) = (s.append g c .inTransit, true) := by
  simp [State.leaveBy, h]

theorem State.leaveBy_withPort (s : State) (c : Handle) (g : Option Segment) (p : HostPort) :
    (s.withPort p).leaveBy c g = ((s.leaveBy c g).1.withPort p, (s.leaveBy c g).2) := by
  cases g with
  | none => rfl
  | some x =>
    simp only [State.leaveBy, show (s.withPort p).hasRoom x = s.hasRoom x from rfl]
    split <;> rfl

/-- Step 2 of a clear: DEVIATED on the occupant where the exit taken is not the directed one (R95). -/
def State.markDeviation (s : State) (k : Station) (c : Handle) (b : Byte) : State :=
  if (s.custodyOf k).deviates b then s.modRecord c fun r => { r with flags := { r.flags with deviated := true } } else s

theorem State.SameRouting.markDeviation {s t : State} (h : s.SameRouting t) (hc : t.custody = s.custody) (k : Station)
    (c : Handle) (b : Byte) : (s.markDeviation k c b).SameRouting (t.markDeviation k c b) := by
  have hk : t.custodyOf k = s.custodyOf k := by simp only [State.custodyOf, hc]
  simp only [State.markDeviation, hk]
  by_cases hd : (s.custodyOf k).deviates b = true
  · simp only [hd, if_true]; exact h.modRecord c _
  · simp only [hd]; exact h

theorem State.markDeviation_onRoutes (s : State) (k : Station) (c : Handle) (b : Byte) :
    s.OnRoutes (s.markDeviation k c b) := by
  simp only [State.markDeviation]
  split
  · exact .modRecord s c _ fun _ => ⟨rfl, rfl, rfl, rfl⟩
  · exact .refl s

theorem State.SameGenerations.markDeviation (s : State) (k : Station) (c : Handle) (b : Byte) :
    s.SameGenerations (s.markDeviation k c b) := by
  simp only [State.markDeviation]
  split
  · exact .modRecord s c _ fun _ => rfl
  · exact .refl s

/-- The occupant marked and its stage transition taken: steps 2 and 3 of a clear. -/
def State.routedOut (s : State) (k : Station) (c : Handle) (b : Byte) : State :=
  (s.markDeviation k c b).stageTransition k b c

theorem State.SameRouting.routedOut {s t : State} (h : s.SameRouting t) (hc : t.custody = s.custody) (k : Station)
    (c : Handle) (b : Byte) : (s.routedOut k c b).SameRouting (t.routedOut k c b) :=
  (h.markDeviation hc k c b).stageTransition k b c

theorem State.routedOut_onRoutes (s : State) (k : Station) (c : Handle) (b : Byte) : s.OnRoutes (s.routedOut k c b) :=
  (s.markDeviation_onRoutes k c b).trans (State.stageTransition_onRoutes ..)

theorem State.SameGenerations.routedOut (s : State) (k : Station) (c : Handle) (b : Byte) :
    s.SameGenerations (s.routedOut k c b) :=
  (markDeviation s k c b).trans (stageTransition (s.markDeviation k c b) k b c)

/-- The state in which the occupant leaves: the reservation on `g` released, carriers and routes those of `v`. -/
def State.readyToLeave (s : State) (g : Segment) (v : State) : State :=
  { s.withReserved g (s.reservedCount g - 1) with carriers := v.carriers, routes := v.routes }

/-- A reservation released on one segment makes no room on another. -/
theorem State.hasRoom_readyToLeave {s v : State} {g x : Segment} (h : x ≠ g) :
    (s.readyToLeave g v).hasRoom x = s.hasRoom x := by
  have hr : (s.readyToLeave g v).reservedCount x = s.reservedCount x := Table.get_set_ne _ h.symm _
  simp only [State.hasRoom, State.depth, hr]; rfl

section
variable {s v : State} {k : Station} {c : Handle} {b : Byte} {e : Exit} {g : Segment}
  (hc : (s.custodyOf k).exit? = some e) (hg : (s.station k).exitSegment e.val = some g)
  (hv : (s.routedOut k c b).SameRouting v)
include hc hg hv

/-- A clear of an occupant with a directed exit, up to the segment it leaves by. -/
theorem State.clearOccupant_eq :
    s.clearOccupant k c b
      = let taken := (s.station k).exitSegment b.toNat
        let left := (s.readyToLeave g v).leaveBy c taken
        ((left.1.withCustody k .idle).withdrawDirective k).clearRoomEvent (some g) taken left.2 := by
  have hs : ((s.withReserved g (s.reservedCount g - 1)).routedOut k c b) = s.readyToLeave g v := by
    have h : (s.routedOut k c b).SameRouting ((s.withReserved g (s.reservedCount g - 1)).routedOut k c b) :=
      .routedOut (s := s) (t := s.withReserved g _) ⟨rfl, rfl, rfl⟩ rfl k c b
    rw [(State.routedOut_onRoutes _ k c b).1, h.carriers, h.routes, ← hv.carriers, ← hv.routes]; rfl
  rw [← hs]
  simp only [State.clearOccupant, State.releaseHold_of_exit hc hg, hc, Option.bind_some, hg]
  rfl

omit hv in
/-- The port has no part in a clear. -/
theorem State.clearOccupant_withPort (p : HostPort) :
    (s.withPort p).clearOccupant k c b = (s.clearOccupant k c b).withPort p := by
  have hv : ((s.withPort p).routedOut k c b).SameRouting (s.routedOut k c b) :=
    .routedOut (s := s.withPort p) (t := s) ⟨rfl, rfl, rfl⟩ rfl k c b
  have hl := State.leaveBy_withPort (s.readyToLeave g (s.routedOut k c b)) c ((s.station k).exitSegment b.toNat) p
  rw [State.clearOccupant_eq hc hg ⟨rfl, rfl, rfl⟩, State.clearOccupant_eq (s := s.withPort p) hc hg hv]
  simp only [show (s.withPort p).station k = s.station k from rfl,
    show (s.withPort p).readyToLeave g (s.routedOut k c b) = (s.readyToLeave g (s.routedOut k c b)).withPort p from rfl,
    hl, State.clearRoomEvent]
  split <;> rfl

omit hc hg in
/-- The append of a clear sees the queues and windows of the state before it. -/
theorem State.appendWindow_readyToLeave (x : Segment) : (s.readyToLeave g v).appendWindow x = s.appendWindow x :=
  State.appendWindow_congr x rfl rfl rfl rfl fun h _ => by
    obtain ⟨-, -, -, hw⟩ := (s.routedOut_onRoutes k c b).2 h
    exact (congrArg CarrierRecord.window (hv.record h)).trans hw

/-- A clear by the directed exit: the reservation becomes the carrier at that segment's tail. -/
theorem State.clearOccupant_directed (hb : b.toNat = e.val) (h0 : 0 < s.reservedCount g)
    (hr : s.depth g ≤ (s.segment g).capacity) :
    s.clearOccupant k c b
      = { s with
          carriers := { v.carriers with
            records := v.carriers.records.set c
              { v.record c with
                state := .inTransit, location := .onSegment g, lastSegment := some g
                window := some (s.appendWindow g) } }
          routes := v.routes
          tracker := { s.tracker with
            queues := s.tracker.queues.set g (s.queue g ++ [c])
            reserved := s.tracker.reserved.set g (s.reservedCount g - 1) }
          custody := s.custody.set k .idle
          link := s.linkWith k (s.linkOf k).withdrawn } := by
  have room : (s.readyToLeave g v).hasRoom g = true := by
    have hd : (s.readyToLeave g v).depth g = (s.queue g).length + (s.reservedCount g - 1) := by
      simp [State.depth, State.readyToLeave, State.queue, State.reservedCount]
    simp only [State.depth] at hr
    have hs : (s.readyToLeave g v).segment g = s.segment g := rfl
    simp only [State.hasRoom, hd, hs, decide_eq_true_eq]
    omega
  rw [State.clearOccupant_eq hc hg hv, hb, hg]
  simp only [State.leaveBy_appended _ c room, State.clearRoomEvent, and_self, if_true, State.append_eq,
    State.appendWindow_readyToLeave hv, State.withdrawDirective_eq]
  rfl

/-- A clear by another exit whose segment has room: the reservation released with its room event, the carrier moved on. -/
theorem State.clearOccupant_moved {x : Segment} (hx : (s.station k).exitSegment b.toNat = some x) (hne : x ≠ g)
    (hr : s.depth x < (s.segment x).capacity) :
    s.clearOccupant k c b
      = { s with
          carriers := { v.carriers with
            records := v.carriers.records.set c
              { v.record c with
                state := .inTransit, location := .onSegment x, lastSegment := some x
                window := some (s.appendWindow x) } }
          routes := v.routes
          tracker := { s.tracker with
            queues := s.tracker.queues.set x (s.queue x ++ [c])
            reserved := s.tracker.reserved.set g (s.reservedCount g - 1), roomEvents := s.tracker.roomEvents ++ [g] }
          custody := s.custody.set k .idle
          link := s.linkWith k (s.linkOf k).withdrawn } := by
  have room : (s.readyToLeave g v).hasRoom x = true := by
    rw [State.hasRoom_readyToLeave hne]; exact decide_eq_true hr
  rw [State.clearOccupant_eq hc hg hv, hx]
  simp only [State.leaveBy_appended _ c room, State.clearRoomEvent, Option.some.injEq, hne, and_false, if_false,
    State.append_eq, State.appendWindow_readyToLeave hv, State.withdrawDirective_eq]
  rfl

/-- A clear by another exit, without room or without a segment: the reservation released with its room event, the carrier
LOST_DEVIATED. -/
theorem State.clearOccupant_lost {taken : Option Segment} (hx : (s.station k).exitSegment b.toNat = taken)
    (hr : ∀ x, taken = some x → x ≠ g ∧ (s.segment x).capacity ≤ s.depth x) :
    s.clearOccupant k c b
      = { s with
          carriers :=
            { records := v.carriers.records.set c { (v.record c).lostBy .lostDeviated with lastSegment := taken }
              exceptionCount := (v.record c).raised v.carriers.exceptionCount }
          routes := v.routes
          tracker := { s.tracker with
            reserved := s.tracker.reserved.set g (s.reservedCount g - 1), roomEvents := s.tracker.roomEvents ++ [g] }
          custody := s.custody.set k .idle
          link := s.linkWith k (s.linkOf k).withdrawn } := by
  have full : ∀ x, taken = some x → (s.readyToLeave g v).hasRoom x = false := fun x hxt => by
    rw [State.hasRoom_readyToLeave (hr x hxt).1]; exact decide_eq_false (hr x hxt).2.not_gt
  rw [State.clearOccupant_eq hc hg hv, hx]
  simp only [State.leaveBy_lost _ c taken full, State.clearRoomEvent, Bool.false_eq_true, false_and, if_false,
    State.withdrawDirective_eq]
  rfl

end

/-! ### CLEAR_JAM (R105, R106) -/

/-- A jammed carrier removed: its reservation and pending route gone, LOST_JAM, the station IDLE. -/
theorem State.removeJammed_eq (s : State) (k : Station) (c : Handle) {e : Exit} {g : Segment}
    (hg : (s.station k).exitSegment e.val = some g) :
    s.removeJammed k c e
      = { s with
          carriers :=
            { records := s.carriers.records.set c { (s.record c).lostBy .lostJam with pendingRoute := none }
              exceptionCount := (s.record c).raised s.carriers.exceptionCount }
          routes := (s.unbindSlot? (s.record c).pendingRoute).routes
          tracker := { s.tracker with
            reserved := s.tracker.reserved.set g (s.reservedCount g - 1), roomEvents := s.tracker.roomEvents ++ [g] }
          custody := s.custody.set k .idle
          link := s.linkWith k (s.linkOf k).withdrawn } := by
  have hu := State.unbindSlot?_congr s (s.withReserved g (s.reservedCount g - 1)) (s.record c).pendingRoute rfl
  simp only [State.removeJammed, hg, State.unreserve]
  rw [State.unbindSlot?_eq (s.withReserved g _),
    show (s.withReserved g (s.reservedCount g - 1)).record c = s.record c from rfl, hu, State.makeLost_eq,
    State.modRecord_eq, State.withdrawDirective_eq]
  simp only [State.record, Table.get_set_self, Table.set_set]
  rfl

theorem State.removeJammed_withPort (s : State) (k : Station) (c : Handle) {e : Exit} {g : Segment} (p : HostPort)
    (hg : (s.station k).exitSegment e.val = some g) :
    (s.withPort p).removeJammed k c e = (s.removeJammed k c e).withPort p := by
  have hu := State.unbindSlot?_congr s (s.withPort p) (s.record c).pendingRoute rfl
  rw [State.removeJammed_eq s k c hg, State.removeJammed_eq (s.withPort p) k c hg,
    show (s.withPort p).record c = s.record c from rfl, hu]
  rfl

theorem exec_clearJam_refused {s : State} {st b : Byte} {a : AnswerCode} (h : s.takesCommand = true)
    (hb : ∀ p, (s.withPort p).clearJamCommand st b = refuse (s.withPort p) a) :
    exec (.clearJam st b) s = .next (s.refusedWith 0x54 2 a) :=
  hostCommand_refused (block := (·.clearJamCommand st b)) h hb

theorem State.clearJamCommand_notRunning (s : State) (st b : Byte) (hr : s.map.device ≠ .running) :
    s.clearJamCommand st b = refuse s .notRunning := if_pos hr

theorem State.clearJamCommand_noStation (s : State) {st : Byte} (b : Byte) (hr : s.map.device = .running)
    (hs : 32 ≤ st.toNat) : s.clearJamCommand st b = refuse s .badParam := by
  simp [State.clearJamCommand, hr, index?_eq_none.mpr hs]

theorem State.clearJamCommand_badParam (s : State) {k : Station} {b : Byte} (hr : s.map.device = .running)
    (h : s.configured k = false ∨ b ≠ 0xFF ∧ (s.station k).exits.length ≤ b.toNat) :
    s.clearJamCommand (byteNat k.val) b = refuse s .badParam := by
  have h' : ¬ s.configured k = true ∨ b ≠ noneByte ∧ (s.station k).exits.length ≤ b.toNat := by
    rwa [Bool.not_eq_true]
  simp only [State.clearJamCommand, hr, index?_station, if_pos h']
  rfl

section
variable (s : State) {k : Station} {b : Byte} (hc : s.configured k = true)
  (hb : b = 0xFF ∨ b.toNat < (s.station k).exits.length)
include hc hb

/-- A station and an outcome that pass the checks: CLEAR_JAM goes by the station's custody. -/
theorem State.clearJam_checked : ¬ (¬ s.configured k = true ∨ b ≠ noneByte ∧ (s.station k).exits.length ≤ b.toNat) := by
  rintro (h | ⟨h1, h2⟩)
  · exact h hc
  · exact hb.elim h1 h2.not_gt

variable (hr : s.map.device = .running)
include hr

theorem State.clearJamCommand_halted {v : SavedCustody} (h : s.custodyOf k = .halted v) :
    s.clearJamCommand (byteNat k.val) b = refuse s .zoneHalted := by
  simp only [State.clearJamCommand, hr, index?_station, if_neg (s.clearJam_checked hc hb), h]
  rfl

theorem State.clearJamCommand_notJammed (hh : (s.custodyOf k).isHalted = false)
    (h : ∀ c d, s.custodyOf k ≠ .jammed c d) :
    s.clearJamCommand (byteNat k.val) b = refuse s .wrongState := by
  simp only [State.clearJamCommand, hr, index?_station, if_neg (s.clearJam_checked hc hb)]
  cases hk : s.custodyOf k with
  | halted v => rw [hk] at hh; cases hh
  | jammed c d => exact absurd hk (h c d)
  | _ => rfl

/-- The way a jammed occupant goes: removed for FFh, else cleared by the exit named. -/
theorem State.clearJamCommand_jammed {c : Handle} {e : Exit} (h : s.custodyOf k = .jammed c e) :
    s.clearJamCommand (byteNat k.val) b
      = let t := if b = noneByte then s.removeJammed k c e else s.clearOccupant k c b
        accept t (t.carrierBytes c ++ [(t.record c).state.code]) := by
  simp only [State.clearJamCommand, hr, index?_station, if_neg (s.clearJam_checked hc hb), h]
  rfl

end

/-- A jammed occupant dealt with, whatever the port holds: `t` is the state made, `r` the occupant's record in it. The answer
names the occupant and the state it is in. -/
theorem exec_clearJam_jammed {s t : State} {k : Station} {b : Byte} {c : Handle} {e : Exit} {r : CarrierRecord}
    {records : Table Config.handles CarrierRecord}
    (ht : s.takesCommand = true) (hr : s.map.device = .running) (hc : s.configured k = true)
    (hb : b = 0xFF ∨ b.toNat < (s.station k).exits.length) (hj : s.custodyOf k = .jammed c e)
    (hto : ∀ p, (if b = noneByte then (s.withPort p).removeJammed k c e else (s.withPort p).clearOccupant k c b)
      = t.withPort p)
    (hrec : t.carriers.records = records.set c r) (hgen : r.generation = (s.record c).generation) :
    exec (.clearJam (byteNat k.val) b) s
      = .next { t with port := s.portAfter 0x54 2 .ok (s.nameOf c ++ [r.state.code]) } := by
  have hcr : t.record c = r := by simp only [State.record, hrec, Table.get_set_self]
  subst hcr
  refine hostCommand_answered (block := (·.clearJamCommand (byteNat k.val) b))
    (r := ⟨.ok, s.nameOf c ++ [(t.record c).state.code]⟩) ht fun p => ?_
  have hn : (t.withPort p).carrierBytes c = s.nameOf c :=
    (State.carrierBytes_congr hgen).trans (s.carrierBytes_eq_nameOf c)
  have hjam := (s.withPort p).clearJamCommand_jammed hc hb hr hj
  simp only [hto, hn] at hjam
  exact hjam

/-- The exit of a number in range is not FFh. -/
theorem byteNat_exit_ne_noneByte (e : Exit) : byteNat e.val ≠ noneByte := fun h => by
  have := byteNat_exit_toNat e
  rw [h] at this
  exact absurd (this ▸ e.isLt : noneByte.toNat < 3) (by decide)

/-- A segment fed by an exit shows that the station has the exit. -/
theorem State.exit_lt_of_exitSegment {s : State} {k : Station} {e : Exit} {g : Segment}
    (h : (s.station k).exitSegment e.val = some g) : (byteNat e.val).toNat < (s.station k).exits.length := by
  rw [byteNat_exit_toNat]; exact (List.getElem?_eq_some_iff.mp h).1

section
variable {s : State} {k : Station} {c : Handle} {e : Exit}

theorem State.routedOut_directed (hc : (s.custodyOf k).exit? = some e) :
    s.routedOut k c (byteNat e.val) = s.stageTransition k (byteNat e.val) c := by
  have hd : ¬ (s.custodyOf k).deviates (byteNat e.val) = true := by
    rw [Custody.deviates_iff hc]; exact not_not.mpr (byteNat_exit_toNat e)
  simp only [State.routedOut, State.markDeviation, if_neg hd]

theorem State.routedOut_another {b : Byte} (hc : (s.custodyOf k).exit? = some e) (hb : b.toNat ≠ e.val) :
    s.routedOut k c b
      = (s.modRecord c fun r => { r with flags := { r.flags with deviated := true } }).stageTransition k b c := by
  simp only [State.routedOut, State.markDeviation, if_pos ((Custody.deviates_iff hc b).mpr hb)]

end

section
variable {s t : State} {k : Station} {c : Handle} {e : Exit} {g : Segment} {r : CarrierRecord}
  {records : Table Config.handles CarrierRecord}
  (ht : s.takesCommand = true) (hr : s.map.device = .running) (hc : s.configured k = true)
  (hj : s.custodyOf k = .jammed c e) (hg : (s.station k).exitSegment e.val = some g)
include ht hr hc hj hg

/-- R106, *remove*, where the removal makes `t` of `s`. -/
theorem exec_clearJam_remove (hto : s.removeJammed k c e = t) (hrec : t.carriers.records = records.set c r)
    (hgen : r.generation = (s.record c).generation) :
    exec (.clearJam (byteNat k.val) 0xFF) s
      = .next { t with port := s.portAfter 0x54 2 .ok (s.nameOf c ++ [r.state.code]) } :=
  exec_clearJam_jammed ht hr hc (.inl rfl) hj
    (fun p => (if_pos rfl).trans (by rw [State.removeJammed_withPort s k c p hg, hto])) hrec hgen

/-- R106, by an exit, where the clear by that exit makes `t` of `s`. -/
theorem exec_clearJam_exit {b : Exit} {x : Segment} (hx : (s.station k).exitSegment b.val = some x)
    (hto : s.clearOccupant k c (byteNat b.val) = t) (hrec : t.carriers.records = records.set c r)
    (hgen : r.generation = (s.record c).generation) :
    exec (.clearJam (byteNat k.val) (byteNat b.val)) s
      = .next { t with port := s.portAfter 0x54 2 .ok (s.nameOf c ++ [r.state.code]) } :=
  exec_clearJam_jammed ht hr hc (.inr (State.exit_lt_of_exitSegment hx)) hj
    (fun p => (if_neg (byteNat_exit_ne_noneByte b)).trans
      (by rw [State.clearOccupant_withPort (Custody.exit?_of_jammed hj) hg, hto])) hrec hgen

end

end Sys2Proof.Machine

open Sys2Proof Sys2Proof.Machine

/-- Settles O40: the removal, the clear by the directed exit, the clear by another exit with and without room, and each
refusal by its check. -/
theorem clearJamRemovesOrSendsOn : Obligations.ClearJamRemovesOrSendsOn := by
  refine ⟨fun k c e g s ht hr hc hj hg => ?_, fun k s ht => ⟨fun c e g hr hc hj hg h0 hcap => ?_,
    fun c e b g x hr hc hj hbe hg hx hne => ?_, fun hr st b => ?_,
    fun hr => ⟨fun st b hs => ?_, fun b hb => ?_, fun b hc hb => ⟨fun hh => ?_, fun hh hn => ?_⟩⟩⟩⟩
  · exact exec_clearJam_remove ht hr hc hj hg (State.removeJammed_eq s k c hg) rfl rfl
  · have he := Custody.exit?_of_jammed hj
    have hv := State.routedOut_directed (c := c) he
    have hgen := State.SameGenerations.routedOut s k c (byteNat e.val) c
    have hto := State.clearOccupant_directed he hg (.of_eq hv) (byteNat_exit_toNat e) h0 hcap
    exact exec_clearJam_exit ht hr hc hj hg hg hto rfl (hv ▸ hgen)
  · have he := Custody.exit?_of_jammed hj
    have hb : (byteNat b.val).toNat ≠ e.val := fun h => hbe (Fin.ext ((byteNat_exit_toNat b).symm.trans h))
    have hv := State.routedOut_another (c := c) he hb
    have hgen := State.SameGenerations.routedOut s k c (byteNat b.val) c
    have hx' : (s.station k).exitSegment (byteNat b.val).toNat = some x := by rw [byteNat_exit_toNat]; exact hx
    refine ⟨fun hroom => ?_, fun hfull => ?_⟩
    · have hto := State.clearOccupant_moved he hg (.of_eq hv) hx' hne hroom
      exact exec_clearJam_exit ht hr hc hj hg hx hto rfl (hv ▸ hgen)
    · have hto := State.clearOccupant_lost he hg (.of_eq hv) hx' fun y hy => by cases hy; exact ⟨hne, hfull⟩
      exact exec_clearJam_exit ht hr hc hj hg hx hto rfl (hv ▸ hgen)
  · exact exec_clearJam_refused ht fun p => (s.withPort p).clearJamCommand_notRunning st b hr
  · exact exec_clearJam_refused ht fun p => (s.withPort p).clearJamCommand_noStation b hr hs
  · exact exec_clearJam_refused ht fun p => (s.withPort p).clearJamCommand_badParam hr hb
  · obtain ⟨v, hv⟩ := Custody.exists_of_isHalted hh
    exact exec_clearJam_refused ht fun p => (s.withPort p).clearJamCommand_halted hc hb hr hv
  · exact exec_clearJam_refused ht fun p => (s.withPort p).clearJamCommand_notJammed hc hb hr hh hn
end

section
/-! The Route Store's programs (R114 to R116, R120, R124): operand bytes that spell numbers, what each block does by the
state of its slot, and the commands ROUTE_OPEN, ROUTE_DISCARD, ROUTE_STAGE, ROUTE_PARAMS, ROUTE_WITHDRAW and CLASS_BIND. -/

namespace Sys2Proof.Machine

/-! ### Operands -/

theorem index?_slot (q : Slot) : index? Config.slots (byteNat q.val) = some q := index?_byteNat (by decide) q

theorem optIndex?_noneByte (n : Nat) : optIndex? n noneByte = some none := if_pos rfl

theorem optIndex?_of_ne {n : Nat} {b : Byte} (h : b ≠ noneByte) : optIndex? n b = (index? n b).map some := if_neg h

/-- A number below 255 never reads as *none*. -/
theorem byteNat_ne_noneByte {n : Nat} (h : n < 255) : byteNat n ≠ noneByte := fun e => by
  have hn : n = 255 := (byteNat_toNat (by omega)).symm.trans (congrArg BitVec.toNat e)
  omega

/-- The byte of an optional number reads back as that number. -/
theorem optIndex?_indexByte {n : Nat} (hn : n ≤ 255) (x : Option (Fin n)) : optIndex? n (indexByte x) = some x := by
  cases x with
  | none => exact optIndex?_noneByte n
  | some i =>
    rw [indexByte, optIndex?_of_ne (byteNat_ne_noneByte (by omega)), index?_byteNat (by omega)]; rfl

@[simp] theorem EndAction.ofCode_code (a : EndAction) : EndAction.ofCode a.code = some a := by cases a <;> rfl

theorem EndAction.ofCode_eq_none {b : Byte} (h : 3 ≤ b.toNat) : EndAction.ofCode b = none := by
  unfold EndAction.ofCode
  split
  case h_4 => rfl
  all_goals omega

/-! ### The states of a slot -/

@[simp] theorem SlotState.draft?_draft (p : Program) : (SlotState.draft p).draft? = some p := rfl

theorem SlotState.draft?_eq_none {x : SlotState} (h : ∀ p, x ≠ .draft p) : x.draft? = none := by
  cases x with
  | draft p => exact absurd rfl (h p)
  | _ => rfl

theorem SlotState.isActive_eq_false {x : SlotState} (h : ∀ p, x ≠ .active p) : x.isActive = false := by
  cases x with
  | active p => exact absurd rfl (h p)
  | _ => rfl

/-! ### ROUTE_OPEN and ROUTE_DISCARD (R114) -/

theorem State.routeOpenCommand_empty (s : State) {q : Slot} (h : (s.slotOf q).state = .empty) :
    s.routeOpenCommand (byteNat q.val) = accept (s.withSlotState q (.draft .cleared)) := by
  simp [State.routeOpenCommand, index?_slot, h]

theorem State.routeOpenCommand_wrongState (s : State) {q : Slot} (h : (s.slotOf q).state ≠ .empty) :
    s.routeOpenCommand (byteNat q.val) = refuse s .wrongState := by
  cases hx : (s.slotOf q).state with
  | empty => exact absurd hx h
  | _ => simp [State.routeOpenCommand, index?_slot, hx]

theorem State.routeOpenCommand_badParam (s : State) {b : Byte} (h : 32 ≤ b.toNat) :
    s.routeOpenCommand b = refuse s .badParam := by
  simp [State.routeOpenCommand, index?_eq_none.mpr h]

theorem State.routeDiscardCommand_draft (s : State) {q : Slot} {p : Program} (h : (s.slotOf q).state = .draft p) :
    s.routeDiscardCommand (byteNat q.val) = accept (s.withSlotState q .empty) := by
  simp [State.routeDiscardCommand, index?_slot, h]

theorem State.routeDiscardCommand_wrongState (s : State) {q : Slot} (h : ∀ p, (s.slotOf q).state ≠ .draft p) :
    s.routeDiscardCommand (byteNat q.val) = refuse s .wrongState := by
  cases hx : (s.slotOf q).state with
  | draft p => exact absurd hx (h p)
  | _ => simp [State.routeDiscardCommand, index?_slot, hx]

theorem State.routeDiscardCommand_badParam (s : State) {b : Byte} (h : 32 ≤ b.toNat) :
    s.routeDiscardCommand b = refuse s .badParam := by
  simp [State.routeDiscardCommand, index?_eq_none.mpr h]

/-! ### ROUTE_STAGE (R115) -/

/-- A stage spelled as bytes is the stage written (R115). -/
theorem stageWritten?_spelled (slot k : Byte) (stage : Stage) :
    stageWritten? ⟨slot, k, byteNat stage.set.val, byteNat stage.boundary.val, stage.endAction.code, stage.dwell⟩
      = some stage := by
  simp [stageWritten?, index?_station, index?_byteNat (show Config.sets ≤ 256 by decide)]

theorem stageWritten?_eq_none {p : RouteStageParams}
    (h : 64 ≤ p.set.toNat ∨ 32 ≤ p.boundary.toNat ∨ 3 ≤ p.endAction.toNat) : stageWritten? p = none := by
  rcases h with h | h | h
  · simp [stageWritten?, index?_eq_none.mpr h]
  · simp [stageWritten?, index?_eq_none.mpr h]
  · simp [stageWritten?, EndAction.ofCode_eq_none h]

section
variable (s : State) {p : RouteStageParams} {q : Slot} {k : StageNo} {stage : Stage}
  (hq : index? Config.slots p.slot = some q) (hk : index? Config.stages p.stage = some k)
  (hw : stageWritten? p = some stage)
include hq hk hw

theorem State.routeStageCommand_draft {program : Program} (h : (s.slotOf q).state = .draft program) :
    s.routeStageCommand p
      = accept (s.withSlotState q (.draft { program with stages := program.stages.set k (some stage) })) := by
  simp [State.routeStageCommand, hq, hk, hw, h]

theorem State.routeStageCommand_wrongState (h : ∀ program, (s.slotOf q).state ≠ .draft program) :
    s.routeStageCommand p = refuse s .wrongState := by
  simp [State.routeStageCommand, hq, hk, hw, SlotState.draft?_eq_none h]

end

theorem State.routeStageCommand_badParam (s : State) {p : RouteStageParams}
    (h : 32 ≤ p.slot.toNat ∨ 9 ≤ p.stage.toNat ∨ 64 ≤ p.set.toNat ∨ 32 ≤ p.boundary.toNat ∨ 3 ≤ p.endAction.toNat) :
    s.routeStageCommand p = refuse s .badParam := by
  rcases h with h | h | h
  · simp [State.routeStageCommand, index?_eq_none.mpr h]
  · simp [State.routeStageCommand, index?_eq_none.mpr h]
  · simp [State.routeStageCommand, stageWritten?_eq_none h]

/-! ### ROUTE_PARAMS (R116) -/

theorem stageBelow?_indexByte {n : Nat} {x : Option StageNo} (h : ∀ k, x = some k → k.val < n) :
    stageBelow? n (indexByte x) = some x := by
  rw [stageBelow?, optIndex?_indexByte (by decide)]
  cases x with
  | none => rfl
  | some k => simp [h k rfl]

theorem stageBelow?_eq_none {n : Nat} {b : Byte} (hb : b ≠ 0xFF) (h : n ≤ b.toNat) : stageBelow? n b = none := by
  rw [stageBelow?, optIndex?_of_ne hb]
  cases hk : index? Config.stages b with
  | none => rfl
  | some k => simp [← index?_eq_some hk, h]

/-- Four items in range, spelled as bytes, are the items written (R116). -/
theorem paramsWritten?_spelled (slot : Byte) {n laps : Nat} {base exhaust : Option StageNo} (hn : 1 ≤ n) (hn' : n ≤ 9)
    (hl : 1 ≤ laps) (hl' : laps ≤ 255) (hbase : ∀ k, base = some k → k.val < n)
    (hexhaust : ∀ k, exhaust = some k → k.val < n) (program : Program) :
    paramsWritten? ⟨slot, byteNat n, indexByte base, byteNat laps, indexByte exhaust⟩ program
      = some { program with stageCount := n, loopBase := base, lapLimit := laps, exhaustStage := exhaust } := by
  have hcount : (byteNat n).toNat = n := byteNat_toNat (by omega)
  have hlaps : (byteNat laps).toNat = laps := byteNat_toNat (by omega)
  have inRange : ¬ (byteNat n = 0 ∨ Config.stages < n ∨ byteNat laps = 0) := by
    rintro (h | h | h)
    · rw [h] at hcount; simp at hcount; omega
    · exact absurd hn' (not_le.mpr h)
    · rw [h] at hlaps; simp at hlaps; omega
  simp only [paramsWritten?, hcount, hlaps, inRange, if_false, stageBelow?_indexByte hbase,
    stageBelow?_indexByte hexhaust]
  rfl

theorem paramsWritten?_eq_none {p : RouteParamsParams} (program : Program)
    (h : p.stageCount = 0 ∨ 9 < p.stageCount.toNat ∨ p.lapLimit = 0
      ∨ (p.loopBase ≠ 0xFF ∧ p.stageCount.toNat ≤ p.loopBase.toNat)
      ∨ (p.exhaustStage ≠ 0xFF ∧ p.stageCount.toNat ≤ p.exhaustStage.toNat)) :
    paramsWritten? p program = none := by
  rcases h with h | h | h | ⟨hne, h⟩ | ⟨hne, h⟩
  · simp [paramsWritten?, h]
  · simp [paramsWritten?, h]
  · simp [paramsWritten?, h]
  · simp [paramsWritten?, stageBelow?_eq_none hne h]
  · simp [paramsWritten?, stageBelow?_eq_none hne h]

section
variable (s : State) {p : RouteParamsParams} {q : Slot} {f : Program → Program}
  (hq : index? Config.slots p.slot = some q) (hw : ∀ program, paramsWritten? p program = some (f program))
include hq hw

theorem State.routeParamsCommand_draft {program : Program} (h : (s.slotOf q).state = .draft program) :
    s.routeParamsCommand p = accept (s.withSlotState q (.draft (f program))) := by
  simp [State.routeParamsCommand, hq, hw, h]

theorem State.routeParamsCommand_wrongState (h : ∀ program, (s.slotOf q).state ≠ .draft program) :
    s.routeParamsCommand p = refuse s .wrongState := by
  simp [State.routeParamsCommand, hq, hw, SlotState.draft?_eq_none h]

end

theorem State.routeParamsCommand_badParam (s : State) {p : RouteParamsParams}
    (h : 32 ≤ p.slot.toNat ∨ p.stageCount = 0 ∨ 9 < p.stageCount.toNat ∨ p.lapLimit = 0
      ∨ (p.loopBase ≠ 0xFF ∧ p.stageCount.toNat ≤ p.loopBase.toNat)
      ∨ (p.exhaustStage ≠ 0xFF ∧ p.stageCount.toNat ≤ p.exhaustStage.toNat)) :
    s.routeParamsCommand p = refuse s .badParam := by
  rcases h with h | h
  · simp [State.routeParamsCommand, index?_eq_none.mpr h]
  · simp [State.routeParamsCommand, paramsWritten?_eq_none .cleared h]

/-! ### ROUTE_WITHDRAW (R120) -/

/-- Releasing a program's references lowers each set's count by the stages naming the set (R112). -/
theorem State.setOf_releaseReferences (s : State) (p : Program) (i : SetNo) :
    (s.releaseReferences p).setOf i = { s.setOf i with references := (s.setOf i).references - p.uses i } :=
  Table.get_mapRows _ _ i

theorem State.classBoundTo_iff (s : State) (q : Slot) :
    s.classBoundTo q = true ↔ ∃ c, s.routes.classes.get c = some q := by
  simp [State.classBoundTo, Table.mem_rows]

section
variable (s : State) {q : Slot} {p : Program} (h : (s.slotOf q).state = .active p)
include h

theorem State.routeWithdrawCommand_referenced (hc : ∃ c, s.routes.classes.get c = some q) :
    s.routeWithdrawCommand (byteNat q.val) = refuse s .classReferenced := by
  simp [State.routeWithdrawCommand, index?_slot, h, (s.classBoundTo_iff q).mpr hc]

variable (hc : ∀ c, s.routes.classes.get c ≠ some q)
include hc

theorem State.routeWithdrawCommand_emptied (hb : (s.slotOf q).bound = 0) :
    s.routeWithdrawCommand (byteNat q.val)
      = accept ((s.withSlot q { state := .empty, bound := 0 }).releaseReferences p) [0, noneByte, noneByte] := by
  simp [State.routeWithdrawCommand, index?_slot, h, s.classBoundTo_iff, hc, hb]

theorem State.routeWithdrawCommand_draining (hb : 0 < (s.slotOf q).bound) :
    s.routeWithdrawCommand (byteNat q.val)
      = accept (s.withSlotState q (.draining p)) (1 :: wordNat (s.slotOf q).bound) := by
  simp [State.routeWithdrawCommand, index?_slot, h, s.classBoundTo_iff, hc, hb.ne']

end

theorem State.routeWithdrawCommand_wrongState (s : State) {q : Slot} (h : ∀ p, (s.slotOf q).state ≠ .active p) :
    s.routeWithdrawCommand (byteNat q.val) = refuse s .wrongState := by
  cases hx : (s.slotOf q).state with
  | active p => exact absurd hx (h p)
  | _ => simp [State.routeWithdrawCommand, index?_slot, hx]

theorem State.routeWithdrawCommand_badParam (s : State) {b : Byte} (h : 32 ≤ b.toNat) :
    s.routeWithdrawCommand b = refuse s .badParam := by
  simp [State.routeWithdrawCommand, index?_eq_none.mpr h]

/-! ### CLASS_BIND (R124) -/

section
variable (s : State) {c : Class} {cls slot : Byte} {x : Option Slot} (hc : index? Config.classes cls = some c)
  (hx : optIndex? Config.slots slot = some x)
include hc hx

/-- A binding to an ACTIVE slot, or none. -/
theorem State.classBindCommand_bound (h : ∀ q, x = some q → ∃ p, (s.slotOf q).state = .active p) :
    s.classBindCommand cls slot
      = accept (s.withRoutes { s.routes with classes := s.routes.classes.set c x }) := by
  have active : (x.all fun q => (s.slotOf q).state.isActive) = true := by
    cases x with
    | none => rfl
    | some q =>
      obtain ⟨p, hp⟩ := h q rfl
      simp [hp, SlotState.isActive]
  simp [State.classBindCommand, hc, hx, active]

theorem State.classBindCommand_unavailable {q : Slot} (hq : x = some q) (h : ∀ p, (s.slotOf q).state ≠ .active p) :
    s.classBindCommand cls slot = refuse s .routeUnavailable := by
  simp [State.classBindCommand, hc, hx, hq, SlotState.isActive_eq_false h]

end

theorem State.classBindCommand_badParam (s : State) {b q : Byte} (h : 64 ≤ b.toNat ∨ (32 ≤ q.toNat ∧ q ≠ 0xFF)) :
    s.classBindCommand b q = refuse s .badParam := by
  rcases h with h | ⟨h, hne⟩
  · simp [State.classBindCommand, index?_eq_none.mpr h]
  · simp [State.classBindCommand, optIndex?_of_ne hne, index?_eq_none.mpr h]

/-! ### The commands, each by its block -/

theorem exec_routeOpen (b : Byte) (s : State) :
    exec (.routeOpen b) s = hostCommand 0x22 1 (·.routeOpenCommand b) s := rfl

theorem exec_routeDiscard (b : Byte) (s : State) :
    exec (.routeDiscard b) s = hostCommand 0x27 1 (·.routeDiscardCommand b) s := rfl

theorem exec_routeStage (p : RouteStageParams) (s : State) :
    exec (.routeStage p) s = hostCommand 0x23 7 (·.routeStageCommand p) s := rfl

theorem exec_routeParams (p : RouteParamsParams) (s : State) :
    exec (.routeParams p) s = hostCommand 0x24 5 (·.routeParamsCommand p) s := rfl

theorem exec_routeWithdraw (b : Byte) (s : State) :
    exec (.routeWithdraw b) s = hostCommand 0x26 1 (·.routeWithdrawCommand b) s := rfl

theorem exec_classBind (c q : Byte) (s : State) :
    exec (.classBind c q) s = hostCommand 0x29 2 (·.classBindCommand c q) s := rfl

end Sys2Proof.Machine

open Sys2Proof Sys2Proof.Machine

/-- Settles O44: each command by its block, the slot in the state it asks for, in another, or a parameter out of range. -/
theorem draftsAreWritten : Obligations.DraftsAreWritten := by
  refine ⟨fun q s ht => ⟨fun h => ?_, fun h => ?_, fun p h => ?_, fun h => ?_, fun b hb => ⟨?_, ?_⟩⟩,
    fun q k stage s ht => ⟨fun program h => ?_, fun h => ?_, fun p hbad => ?_⟩,
    fun q n laps base exhaust s ht hn hn' hl hl' hbase hexhaust => ⟨fun program h => ?_, fun h => ?_, fun p hbad => ?_⟩⟩
  · exact (exec_routeOpen ..).trans <| hostCommand_answered (t := s.withSlotState q (.draft .cleared)) (r := ⟨.ok, []⟩) ht
      fun port => (s.withPort port).routeOpenCommand_empty h
  · exact (exec_routeOpen ..).trans <| hostCommand_refused ht fun port => (s.withPort port).routeOpenCommand_wrongState h
  · exact (exec_routeDiscard ..).trans <| hostCommand_answered (t := s.withSlotState q .empty) (r := ⟨.ok, []⟩) ht
      fun port => (s.withPort port).routeDiscardCommand_draft h
  · exact (exec_routeDiscard ..).trans <| hostCommand_refused ht
      fun port => (s.withPort port).routeDiscardCommand_wrongState h
  · exact (exec_routeOpen ..).trans <| hostCommand_refused ht fun port => (s.withPort port).routeOpenCommand_badParam hb
  · exact (exec_routeDiscard ..).trans <| hostCommand_refused ht
      fun port => (s.withPort port).routeDiscardCommand_badParam hb
  · exact (exec_routeStage ..).trans <| hostCommand_answered (r := ⟨.ok, []⟩)
      (t := s.withSlotState q (.draft { program with stages := program.stages.set k (some stage) })) ht
      fun port => (s.withPort port).routeStageCommand_draft (index?_slot q) (index?_byteNat (by decide) k)
        (stageWritten?_spelled ..) h
  · exact (exec_routeStage ..).trans <| hostCommand_refused ht
      fun port => (s.withPort port).routeStageCommand_wrongState (index?_slot q) (index?_byteNat (by decide) k)
        (stageWritten?_spelled ..) h
  · exact (exec_routeStage ..).trans <| hostCommand_refused ht
      fun port => (s.withPort port).routeStageCommand_badParam hbad
  · exact (exec_routeParams ..).trans <| hostCommand_answered (r := ⟨.ok, []⟩)
      (t := s.withSlotState q (.draft
        { program with stageCount := n, loopBase := base, lapLimit := laps, exhaustStage := exhaust })) ht
      fun port => (s.withPort port).routeParamsCommand_draft (index?_slot q)
        (paramsWritten?_spelled _ hn hn' hl hl' hbase hexhaust) h
  · exact (exec_routeParams ..).trans <| hostCommand_refused ht
      fun port => (s.withPort port).routeParamsCommand_wrongState (index?_slot q)
        (paramsWritten?_spelled _ hn hn' hl hl' hbase hexhaust) h
  · exact (exec_routeParams ..).trans <| hostCommand_refused ht
      fun port => (s.withPort port).routeParamsCommand_badParam hbad

/-- Settles O46: a withdrawal by the slot's state, its classes and its bound count; a binding by the state of the slot
named. -/
theorem withdrawalsAndClassBindings : Obligations.WithdrawalsAndClassBindings := by
  refine ⟨fun q s ht => ⟨fun p h => ⟨fun hc => ?_, fun hc => ⟨fun hb => ?_, fun hb => ?_⟩⟩, fun h => ?_, fun b hb => ?_⟩,
    fun c s ht => ?_⟩
  · exact (exec_routeWithdraw ..).trans <| hostCommand_refused ht
      fun port => (s.withPort port).routeWithdrawCommand_referenced h hc
  · have emptied := (exec_routeWithdraw (byteNat q.val) s).trans <|
      hostCommand_answered (t := (s.withSlot q { state := .empty, bound := 0 }).releaseReferences p)
        (r := ⟨.ok, [0, noneByte, noneByte]⟩) ht fun port => (s.withPort port).routeWithdrawCommand_emptied h hc hb
    exact ⟨_, emptied, rfl, State.setOf_releaseReferences (s.withSlot q { state := .empty, bound := 0 }) p⟩
  · exact (exec_routeWithdraw ..).trans <| hostCommand_answered (t := s.withSlotState q (.draining p))
      (r := ⟨.ok, 1 :: wordNat (s.slotOf q).bound⟩) ht
      fun port => (s.withPort port).routeWithdrawCommand_draining h hc hb
  · exact (exec_routeWithdraw ..).trans <| hostCommand_refused ht
      fun port => (s.withPort port).routeWithdrawCommand_wrongState h
  · exact (exec_routeWithdraw ..).trans <| hostCommand_refused ht
      fun port => (s.withPort port).routeWithdrawCommand_badParam hb
  · have hc : index? Config.classes (byteNat c.val) = some c := index?_byteNat (by decide) c
    have hslot (q : Slot) : optIndex? Config.slots (byteNat q.val) = some (some q) :=
      optIndex?_indexByte (by decide) (some q)
    refine ⟨?_, fun q p h => ?_, fun q h => ?_, fun b q hbad => ?_⟩
    · exact (exec_classBind ..).trans <| hostCommand_answered (r := ⟨.ok, []⟩)
        (t := s.withRoutes { s.routes with classes := s.routes.classes.set c none }) ht
        fun port => (s.withPort port).classBindCommand_bound hc (optIndex?_noneByte _) nofun
    · exact (exec_classBind ..).trans <| hostCommand_answered (r := ⟨.ok, []⟩)
        (t := s.withRoutes { s.routes with classes := s.routes.classes.set c (some q) }) ht
        fun port => (s.withPort port).classBindCommand_bound hc (hslot q) fun _ e => by cases e; exact ⟨p, h⟩
    · exact (exec_classBind ..).trans <| hostCommand_refused ht
        fun port => (s.withPort port).classBindCommand_unavailable hc (hslot q) rfl h
    · exact (exec_classBind ..).trans <| hostCommand_refused ht
        fun port => (s.withPort port).classBindCommand_badParam hbad
end

section
/-! REROUTE (R142 to R144): what a carrier reference names, the state a reroute makes, and the command. -/

namespace Sys2Proof.Machine

/-! ### Carrier references (R27) -/

theorem index?_handle (c : Handle) : index? Config.handles (BitVec.ofNat 16 c.val) = some c := by
  have hc : (BitVec.ofNat 16 c.val).toNat = c.val := by
    rw [BitVec.toNat_ofNat]; exact Nat.mod_eq_of_lt (lt_trans c.isLt (by decide))
  simp [index?, hc]

theorem State.checkRef_badParam (s : State) {ref : CarrierRef} (h : 1024 ≤ ref.handle.toNat) :
    s.checkRef ref = .badParam := by
  simp only [State.checkRef, index?_eq_none.mpr h]

theorem State.checkRef_noSuchCarrier (s : State) {c : Handle} {n : Byte}
    (h : (s.record c).state = .free ∨ n ≠ (s.record c).generation) :
    s.checkRef ⟨BitVec.ofNat 16 c.val, n⟩ = .noSuchCarrier := by
  rcases h with hfree | hgen
  · simp [State.checkRef, index?_handle, CarrierRecord.live, hfree]
  · simp [State.checkRef, index?_handle, hgen.symm]

theorem State.checkRef_refTo (s : State) {c : Handle} (h : (s.record c).state ≠ .free) :
    s.checkRef (s.refTo c) = .live c := by
  simp [State.checkRef, State.refTo, index?_handle, CarrierRecord.live, h]

theorem CarrierState.ne_free_of_queued {x : CarrierState} (h : x.queued = true) : x ≠ .free := by
  rintro rfl; cases h

theorem CarrierState.ne_free_of_inCustody {x : CarrierState} (h : x.inCustody = true) : x ≠ .free := by
  rintro rfl; cases h

/-! ### The state a reroute makes (R30, R143, R144) -/

/-- The exception a reroute leaves a record: STRANGER and STRANDED are cleared, another stands (R30). -/
def CarrierRecord.mended (r : CarrierRecord) : Option ExceptionKind :=
  if r.exception = some .stranger ∨ r.exception = some .stranded then none else r.exception

/-- The exception count after a reroute of the record: one less where its exception is cleared (R31). -/
def CarrierRecord.mendedCount (r : CarrierRecord) (count : Nat) : Nat :=
  if r.exception = some .stranger ∨ r.exception = some .stranded then count - 1 else count

/-- The state after a reroute of `c` that makes its record `r`: slot `q` bound, the slot replaced unbound, and a STRANGER or
STRANDED exception cleared. -/
def State.rerouted (s : State) (c : Handle) (q : Slot) (replaced : Option Slot) (r : CarrierRecord) : State :=
  { s with
    carriers :=
      { records := s.carriers.records.set c { r with exception := r.mended }
        exceptionCount := r.mendedCount s.carriers.exceptionCount }
    routes := ((s.bindSlot q).unbindSlot? replaced).routes }

theorem State.clearForReroute_eq (s : State) (c : Handle) :
    s.clearForReroute c
      = { s with
          carriers :=
            { records := s.carriers.records.set c { s.record c with exception := (s.record c).mended }
              exceptionCount := (s.record c).mendedCount s.carriers.exceptionCount } } := by
  by_cases h : (s.record c).exception = some .stranger ∨ (s.record c).exception = some .stranded
  · have cleared : s.clearForReroute c = s.clearException c := by
      rcases h with hx | hx <;> simp only [State.clearForReroute, hx]
    have held : (s.record c).exception.isSome = true := by rcases h with hx | hx <;> rw [hx] <;> rfl
    simp only [cleared, State.clearException_eq, CarrierRecord.mended, CarrierRecord.mendedCount, if_pos h, if_pos held]
  · have stands : s.clearForReroute c = s := by
      simp only [State.clearForReroute]
      split
      · next hx => exact absurd (.inl hx) h
      · next hx => exact absurd (.inr hx) h
      · rfl
    have same : s.carriers.records.set c (s.record c) = s.carriers.records := Table.set_get_self _ _
    simp only [stands, CarrierRecord.mended, CarrierRecord.mendedCount, if_neg h, same]

/-- What both kinds of reroute do: they differ in the slot replaced and in the record made. -/
theorem State.rerouted_of_steps (s : State) (c : Handle) (q : Slot) (replaced : Option Slot)
    (f : CarrierRecord → CarrierRecord) :
    (((s.bindSlot q).unbindSlot? replaced).modRecord c f).clearForReroute c
      = s.rerouted c q replaced (f (s.record c)) := by
  rw [State.clearForReroute_eq, State.modRecord_eq, State.unbindSlot?_eq]
  simp only [State.record, Table.get_set_self, Table.set_set]
  rfl

theorem State.rerouteNow_eq (s : State) (c : Handle) (q : Slot) :
    s.rerouteNow c q
      = s.rerouted c q ((s.record c).route.map RouteRef.slot) ((s.record c).newRoute q) := by
  have hr : (s.bindSlot q).record c = s.record c := rfl
  simp only [State.rerouteNow, hr]
  exact s.rerouted_of_steps c q _ fun r => r.newRoute q

theorem State.rerouteLater_eq (s : State) (c : Handle) (q : Slot) :
    s.rerouteLater c q
      = s.rerouted c q (s.record c).pendingRoute { s.record c with pendingRoute := some q } := by
  have hr : (s.bindSlot q).record c = s.record c := rfl
  simp only [State.rerouteLater, hr]
  exact s.rerouted_of_steps c q _ fun r => { r with pendingRoute := some q }

/-- The port has no part in a reroute. -/
theorem State.rerouted_withPort (s : State) (p : HostPort) (c : Handle) (q : Slot) (replaced : Option Slot)
    (r : CarrierRecord) : (s.withPort p).rerouted c q replaced r = (s.rerouted c q replaced r).withPort p := by
  have hroutes := State.unbindSlot?_congr (s.bindSlot q) ((s.withPort p).bindSlot q) replaced rfl
  simp only [State.rerouted, hroutes]
  rfl

/-! ### REROUTE (R142) -/

theorem State.rerouteCommand_badParam (s : State) {ref : CarrierRef} {b : Byte}
    (h : 32 ≤ b.toNat ∨ 1024 ≤ ref.handle.toNat) : s.rerouteCommand ref b = refuse s .badParam := by
  rcases h with hb | hr
  · simp only [State.rerouteCommand, index?_eq_none.mpr hb]
  · cases hq : index? Config.slots b <;> simp only [State.rerouteCommand, hq, s.checkRef_badParam hr]

theorem State.rerouteCommand_noSuchCarrier (s : State) {c : Handle} (q : Slot) {n : Byte}
    (h : (s.record c).state = .free ∨ n ≠ (s.record c).generation) :
    s.rerouteCommand ⟨BitVec.ofNat 16 c.val, n⟩ (byteNat q.val) = refuse s .noSuchCarrier := by
  simp only [State.rerouteCommand, index?_slot, s.checkRef_noSuchCarrier h]

theorem State.rerouteCommand_wrongState (s : State) {c : Handle} (q : Slot)
    (h : (s.record c).state = .lost ∨ (s.record c).state = .delivered) :
    s.rerouteCommand (s.refTo c) (byteNat q.val) = refuse s .wrongState := by
  have live : (s.record c).state ≠ .free := by rcases h with h | h <;> simp [h]
  rcases h with h | h <;> simp only [State.rerouteCommand, index?_slot, s.checkRef_refTo live, h]

/-- A queued carrier: rerouted at once to an ACTIVE slot. -/
theorem State.rerouteCommand_queued (s : State) {c : Handle} (q : Slot) (h : (s.record c).state.queued = true) :
    s.rerouteCommand (s.refTo c) (byteNat q.val)
      = if (s.slotOf q).state.isActive then accept (s.rerouteNow c q) (s.carrierBytes c ++ [0])
        else refuse s .routeUnavailable := by
  simp only [State.rerouteCommand, index?_slot, s.checkRef_refTo (CarrierState.ne_free_of_queued h)]
  cases hx : (s.record c).state with
  | staged => rfl
  | inTransit => rfl
  | _ => rw [hx] at h; cases h

/-- A carrier in custody: an ACTIVE slot is stored as its pending route. -/
theorem State.rerouteCommand_inCustody (s : State) {c : Handle} (q : Slot)
    (h : (s.record c).state.inCustody = true) :
    s.rerouteCommand (s.refTo c) (byteNat q.val)
      = if (s.slotOf q).state.isActive then accept (s.rerouteLater c q) (s.carrierBytes c ++ [1])
        else refuse s .routeUnavailable := by
  simp only [State.rerouteCommand, index?_slot, s.checkRef_refTo (CarrierState.ne_free_of_inCustody h)]
  cases hx : (s.record c).state with
  | atStation => rfl
  | held => rfl
  | _ => rw [hx] at h; cases h

theorem State.rerouteCommand_unavailable (s : State) {c : Handle} {q : Slot}
    (h : (s.record c).state.queued = true ∨ (s.record c).state.inCustody = true)
    (hq : ∀ p, (s.slotOf q).state ≠ .active p) :
    s.rerouteCommand (s.refTo c) (byteNat q.val) = refuse s .routeUnavailable := by
  have inactive : ¬ (s.slotOf q).state.isActive = true := by simp [SlotState.isActive_eq_false hq]
  rcases h with h | h
  · rw [s.rerouteCommand_queued q h, if_neg inactive]
  · rw [s.rerouteCommand_inCustody q h, if_neg inactive]

theorem exec_reroute (ref : CarrierRef) (b : Byte) (s : State) :
    exec (.reroute ref b) s = hostCommand 0x33 4 (·.rerouteCommand ref b) s := rfl

theorem exec_reroute_refused {s : State} {ref : CarrierRef} {b : Byte} {a : AnswerCode} (ht : s.takesCommand = true)
    (hb : ∀ p, (s.withPort p).rerouteCommand ref b = refuse (s.withPort p) a) :
    exec (.reroute ref b) s = .next (s.refusedWith 0x33 4 a) :=
  hostCommand_refused (block := (·.rerouteCommand ref b)) ht hb

/-- A reroute done, whatever the port holds: the answer names the carrier and says whether the route is pending. -/
theorem exec_reroute_accepted {s : State} {c : Handle} {q : Slot} {replaced : Option Slot} {r : CarrierRecord}
    {pending : Byte} (ht : s.takesCommand = true)
    (hb : ∀ p, (s.withPort p).rerouteCommand (s.refTo c) (byteNat q.val)
      = accept ((s.withPort p).rerouted c q replaced r) (s.carrierBytes c ++ [pending])) :
    exec (.reroute (s.refTo c) (byteNat q.val)) s
      = .next { s.rerouted c q replaced r with port := s.portAfter 0x33 4 .ok (s.nameOf c ++ [pending]) } := by
  rw [← State.carrierBytes_eq_nameOf]
  refine hostCommand_answered (block := (·.rerouteCommand (s.refTo c) (byteNat q.val)))
    (r := ⟨.ok, s.carrierBytes c ++ [pending]⟩) ht fun p => ?_
  rw [hb p, State.rerouted_withPort]
  rfl

section
variable {s : State} {c : Handle} {q : Slot} (ht : s.takesCommand = true) (hq : (s.slotOf q).state.isActive = true)
include ht hq

/-- R143: the new slot bound at once. -/
theorem exec_reroute_queued (h : (s.record c).state.queued = true) :
    exec (.reroute (s.refTo c) (byteNat q.val)) s
      = .next { s.rerouted c q ((s.record c).route.map RouteRef.slot) ((s.record c).newRoute q) with
          port := s.portAfter 0x33 4 .ok (s.nameOf c ++ [0]) } :=
  exec_reroute_accepted ht fun p =>
    ((s.withPort p).rerouteCommand_queued q h).trans <| (if_pos hq).trans <| by
      rw [State.rerouteNow_eq]; rfl

/-- R144: the new slot pending. -/
theorem exec_reroute_inCustody (h : (s.record c).state.inCustody = true) :
    exec (.reroute (s.refTo c) (byteNat q.val)) s
      = .next { s.rerouted c q (s.record c).pendingRoute { s.record c with pendingRoute := some q } with
          port := s.portAfter 0x33 4 .ok (s.nameOf c ++ [1]) } :=
  exec_reroute_accepted ht fun p =>
    ((s.withPort p).rerouteCommand_inCustody q h).trans <| (if_pos hq).trans <| by
      rw [State.rerouteLater_eq]; rfl

end

end Sys2Proof.Machine

open Sys2Proof Sys2Proof.Machine

/-- Settles O23: a reroute by where the carrier is, and each refusal by its check. -/
theorem rerouteBindsOrPends : Obligations.RerouteBindsOrPends := by
  refine ⟨fun c q p s ht hp => ?_, fun c s ht => ⟨fun ref b hb => ?_, fun q n hn => ?_, fun q hw => ?_,
    fun q hl hq => ?_⟩⟩
  · have active : (s.slotOf q).state.isActive = true := by rw [hp]; rfl
    exact ⟨fun h => exec_reroute_queued ht active h, fun h => exec_reroute_inCustody ht active h⟩
  · exact exec_reroute_refused ht fun port => (s.withPort port).rerouteCommand_badParam hb
  · exact exec_reroute_refused ht fun port => (s.withPort port).rerouteCommand_noSuchCarrier q hn
  · exact exec_reroute_refused ht fun port => (s.withPort port).rerouteCommand_wrongState q hw
  · exact exec_reroute_refused ht fun port => (s.withPort port).rerouteCommand_unavailable hl hq
end

section
/-! What the operations on carriers leave alone, said once: an operation either stays inside the Carrier Table, the Tag
Index, the Segment Tracker, the Route Store and the toggles, or keeps the standing facts of the blocks beyond them: the
halts of stations, the accounts, the link records and the untracked counts. -/

-- One declaration at a time, which holds the text's memory down.
set_option Elab.async false

namespace Sys2Proof.Machine

/-! ### Operations inside the blocks of carriers -/

/-- Nothing beyond the carriers, tags, queues, routes and toggles changes. -/
def State.Inside (s t : State) : Prop :=
  t = { s with carriers := t.carriers, tags := t.tags, tracker := t.tracker, routes := t.routes, toggles := t.toggles }

namespace State.Inside

variable {s t u : State}

theorem refl (s : State) : s.Inside s := rfl

theorem trans (h : s.Inside t) (h' : t.Inside u) : s.Inside u := by
  rw [State.Inside] at *; rw [h', h]

theorem map (h : s.Inside t) : t.map = s.map := by rw [h]
theorem zones (h : s.Inside t) : t.zones = s.zones := by rw [h]
theorem custody (h : s.Inside t) : t.custody = s.custody := by rw [h]
theorem outlets (h : s.Inside t) : t.outlets = s.outlets := by rw [h]
theorem link (h : s.Inside t) : t.link = s.link := by rw [h]
theorem untracked (h : s.Inside t) : t.untracked = s.untracked := by rw [h]
theorem port (h : s.Inside t) : t.port = s.port := by rw [h]
theorem pending (h : s.Inside t) : t.pending = s.pending := by rw [h]

theorem isOutlet (h : s.Inside t) (k : Station) : t.isOutlet k = s.isOutlet k := by
  simp only [State.isOutlet, State.station, h.map]

theorem modRecord (s : State) (c : Handle) (f : CarrierRecord → CarrierRecord) : s.Inside (s.modRecord c f) := rfl
theorem withTags (s : State) (x : TagIndex) : s.Inside (s.withTags x) := rfl
theorem withTracker (s : State) (x : SegmentTracker) : s.Inside (s.withTracker x) := rfl
theorem withRoutes (s : State) (x : RouteStore) : s.Inside (s.withRoutes x) := rfl
theorem setException (s : State) (c : Handle) (k : ExceptionKind) : s.Inside (s.setException c k) := rfl
theorem clearException (s : State) (c : Handle) : s.Inside (s.clearException c) := rfl
theorem makeLost (s : State) (c : Handle) (k : ExceptionKind) : s.Inside (s.makeLost c k) := rfl
theorem append (s : State) (g : Segment) (c : Handle) (x : CarrierState) : s.Inside (s.append g c x) := rfl

theorem unbindSlot? (s : State) (q : Option Slot) : s.Inside (s.unbindSlot? q) := by
  rw [State.unbindSlot?_eq]; rfl

theorem markDecision (s : State) (k : Station) (c : Handle) (d : Decision) : s.Inside (s.markDecision k c d) := by
  rw [State.markDecision_eq]; rfl

theorem stageTransition (s : State) (k : Station) (e : Byte) (c : Handle) : s.Inside (s.stageTransition k e c) := by
  rw [(s.stageTransition_onRoutes k e c).1]; rfl

theorem reserve (s : State) (g : Option Segment) : s.Inside (s.reserve g) := by cases g <;> rfl
theorem unreserve (s : State) (g : Option Segment) : s.Inside (s.unreserve g) := by cases g <;> rfl
theorem joinWaiters (s : State) (g : Option Segment) (k : Station) : s.Inside (s.joinWaiters g k) := by cases g <;> rfl

theorem releaseHold (s : State) (k : Station) : s.Inside (s.releaseHold k) := by
  unfold State.releaseHold
  split
  · exact unreserve s _
  · exact unreserve s _
  · rfl
  · rfl

theorem leaveBy (s : State) (c : Handle) (g : Option Segment) : s.Inside (s.leaveBy c g).1 := by
  cases g with
  | none => rfl
  | some g => simp only [State.leaveBy]; split <;> rfl

theorem clearRoomEvent (s : State) (d t : Option Segment) (b : Bool) : s.Inside (s.clearRoomEvent d t b) := by
  unfold State.clearRoomEvent
  split
  · split <;> rfl
  · rfl

theorem foldl_makeLost (k : ExceptionKind) (l : List Handle) (s : State) :
    s.Inside (l.foldl (fun s h => s.makeLost h k) s) := by
  induction l generalizing s with
  | nil => rfl
  | cons c l ih => exact (makeLost s c k).trans (ih _)

theorem purge (s : State) (g : Segment) : s.Inside (s.purge g) := by
  have lost := (withTracker s _).trans (foldl_makeLost .lostPurged (s.queue g) (s.withQueue g []))
  simp only [State.purge]
  split
  · exact lost
  · exact lost.trans (withTracker _ _)

theorem extract (s : State) (c : Handle) : s.Inside (s.extract c) := by
  unfold State.extract; split <;> rfl

theorem takeFromEntry (s : State) (g : Option Segment) (c : Handle) : s.Inside (s.takeFromEntry g c) := by
  cases g <;> rfl

theorem markEarly (s : State) (c : Handle) : s.Inside (s.markEarly c) := by
  unfold State.markEarly; split <;> rfl

theorem skipTo (s : State) (g : Segment) (j : Nat) : s.Inside (s.skipTo g j) :=
  ((withTracker s _).trans (foldl_makeLost .lostSkipped _ _)).trans (withTracker _ _)

theorem applyBinding (s : State) (g : Option Segment) (c : Handle) (how : Binding) :
    s.Inside (s.applyBinding g c how) := by
  cases how with
  | position => exact takeFromEntry s g c
  | tagMatch => exact (markEarly s c).trans (takeFromEntry _ g c)
  | tagLearning t => exact ((modRecord s c _).trans (withTags _ _)).trans (takeFromEntry _ g c)
  | skip j =>
    cases g with
    | none => exact refl s
    | some g => exact (markEarly s c).trans (skipTo _ g j)
  | extraction => exact ((markEarly s c).trans (modRecord _ c _)).trans (takeFromEntry _ g c)
  | lateRecovery => exact (clearException s c).trans (modRecord _ c _)
  | misrouteTake => exact ((extract s c).trans (clearException _ c)).trans (modRecord _ c _)

theorem freeRecord (s : State) (c : Handle) : s.Inside (s.freeRecord c) := by
  have tags : ∀ t : Option Tag, s.Inside (match t with | some t => s.withTags (TagIndex.remove t s.tags) | none => s) :=
    fun t => by cases t <;> rfl
  have bound := (((tags (s.record c).tag).trans (unbindSlot? _ ((s.record c).route.map RouteRef.slot))).trans
    (unbindSlot? _ (s.record c).pendingRoute)).trans (clearException _ c)
  simp only [State.freeRecord]
  split
  · exact (bound.trans (extract _ c)).trans (modRecord _ c _)
  · exact bound.trans (modRecord _ c _)

theorem induct (s : State) (g : Segment) (c : Handle) (t : Tag) (cls : Option Class) (q : Slot) :
    s.Inside (s.induct g c t cls q) := by
  simp only [State.induct]; split <;> rfl

theorem rerouteNow (s : State) (c : Handle) (q : Slot) : s.Inside (s.rerouteNow c q) := by
  rw [State.rerouteNow_eq]; rfl

theorem rerouteLater (s : State) (c : Handle) (q : Slot) : s.Inside (s.rerouteLater c q) := by
  rw [State.rerouteLater_eq]; rfl

end State.Inside

/-! ### Standing facts -/

/-- What R156, R160 and R164 ask of one station: HALTED exactly while its zone is, IDLE while UNUSED, an OUTLET without an
occupant. -/
def State.HaltSound (s : State) (k : Station) : Prop :=
  (if s.configured k = true then (s.custodyOf k).isHalted = s.zoneHalted (s.station k).zone else s.custodyOf k = .idle)
    ∧ (s.isOutlet k = true → (s.custodyOf k).occupant? = none)

/-- What R147 and R148 ask of one account. -/
def OutletAccount.Sound (a : OutletAccount) : Prop :=
  1 ≤ a.capacity ∧ a.capacity ≤ 4095 ∧ a.delivered ≤ 4095 ∧ (a.full = true ↔ a.capacity ≤ a.delivered)

/-- What R168, R171 and R177 ask of one link record. -/
def LinkRecord.Sound (l : LinkRecord) : Prop :=
  l.missCount ≤ 3 ∧ (l.missCount = 3 → l.state = .down)
    ∧ match l.slot with
      | .empty => True
      | .undelivered d | .delivered d => d.number = l.lastNumber

theorem LinkRecord.Sound.place {l : LinkRecord} (h : l.Sound) (kind : DirectiveKind) (a : Option Byte) :
    (l.place kind a).Sound := ⟨h.1, h.2.1, rfl⟩

theorem LinkRecord.Sound.withdraw {l : LinkRecord} (h : l.Sound) : l.withdraw.Sound := by
  unfold LinkRecord.withdraw
  split
  · exact ⟨h.1, h.2.1, trivial⟩
  · exact h

theorem OutletAccount.Sound.deliver {a : OutletAccount} (h : a.Sound) : a.deliver.Sound :=
  ⟨h.1, h.2.1, Nat.min_le_right _ _, decide_eq_true_iff⟩

/-- From `s` to `t` the map, the zones, the port and the queue of commands stay, and the standing facts of each station
hold where they held. -/
structure State.Keeps (s t : State) : Prop where
  map : t.map = s.map
  zones : t.zones = s.zones
  port : t.port = s.port
  pending : t.pending = s.pending
  halts : ∀ k, s.HaltSound k → t.HaltSound k
  accounts : ∀ k, (s.outlet k).Sound → (t.outlet k).Sound
  links : ∀ k, (s.linkOf k).Sound → (t.linkOf k).Sound
  untracked : ∀ k, s.untracked.get k ≤ 255 → t.untracked.get k ≤ 255

/-- Where the standing facts hold of station `k`, it is a configured transfer or infeed of a RUNNING zone. -/
def State.Serves (s : State) (k : Station) : Prop :=
  s.HaltSound k → s.configured k = true ∧ s.isOutlet k = false ∧ s.zoneHalted (s.station k).zone = false

theorem State.HaltSound.congr {s t : State} {k : Station} (h : s.HaltSound k) (hm : t.map = s.map) (hz : t.zones = s.zones)
    (hc : t.custody = s.custody) : t.HaltSound k := by
  cases s; cases t; cases hm; cases hz; cases hc; exact h

theorem State.Serves.congr {s t : State} {k : Station} (h : s.Serves k) (hm : t.map = s.map) (hz : t.zones = s.zones)
    (hc : t.custody = s.custody) : t.Serves k := fun ht => by
  simpa only [State.configured, State.station, State.zoneHalted, State.isOutlet, hm, hz]
    using h (ht.congr hm.symm hz.symm hc.symm)

theorem State.Inside.serves {s t : State} {k : Station} (hi : s.Inside t) (h : s.Serves k) : t.Serves k :=
  h.congr hi.map hi.zones hi.custody

/-- A station with an occupant that is not HALTED serves. -/
theorem State.serves_of_occupant {s : State} {k : Station} {c : Handle} (hc : (s.custodyOf k).occupant? = some c)
    (hh : (s.custodyOf k).isHalted = false) : s.Serves k := fun ⟨halted, outlet⟩ => by
  have ho : s.isOutlet k = false := by
    cases he : s.isOutlet k with
    | false => rfl
    | true => rw [outlet he] at hc; cases hc
  split at halted
  · next hk => exact ⟨hk, ho, halted.symm.trans hh⟩
  · rw [halted] at hc; cases hc

namespace State.Keeps

variable {s t u : State}

theorem refl (s : State) : s.Keeps s := ⟨rfl, rfl, rfl, rfl, fun _ => id, fun _ => id, fun _ => id, fun _ => id⟩

theorem trans (h : s.Keeps t) (h' : t.Keeps u) : s.Keeps u :=
  ⟨h'.map.trans h.map, h'.zones.trans h.zones, h'.port.trans h.port, h'.pending.trans h.pending,
    fun k hk => h'.halts k (h.halts k hk), fun k hk => h'.accounts k (h.accounts k hk),
    fun k hk => h'.links k (h.links k hk), fun k hk => h'.untracked k (h.untracked k hk)⟩

theorem inside (h : s.Inside t) : s.Keeps t := by
  refine ⟨h.map, h.zones, h.port, h.pending, fun k hk => hk.congr h.map h.zones h.custody, fun k hk => ?_, fun k hk => ?_,
    fun k hk => ?_⟩
  · simpa only [State.outlet, h.outlets] using hk
  · simpa only [State.linkOf, h.link] using hk
  · rw [h.untracked]; exact hk

theorem withLinkOf (s : State) (k : Station) {l : LinkRecord} (hl : (s.linkOf k).Sound → l.Sound) :
    s.Keeps (s.withLinkOf k l) :=
  ⟨rfl, rfl, rfl, rfl, fun _ => id, fun _ => id, fun j hj => by
    rw [State.linkOf_withLinkOf]; split
    · next e => subst e; exact hl hj
    · exact hj, fun _ => id⟩

theorem placeDirective (s : State) (k : Station) (kind : DirectiveKind) (a : Option Byte) :
    s.Keeps (s.placeDirective k kind a) := withLinkOf s k fun h => h.place kind a

theorem withdrawDirective (s : State) (k : Station) : s.Keeps (s.withdrawDirective k) := withLinkOf s k fun h => h.withdraw

theorem countUntracked (s : State) (k : Station) : s.Keeps (s.countUntracked k) :=
  ⟨rfl, rfl, rfl, rfl, fun _ => id, fun _ => id, fun _ => id, fun j hj => by
    show ((s.untracked.set k _).get j) ≤ 255
    rw [Table.get_set]; split
    · exact Nat.min_le_right _ _
    · exact hj⟩

/-- A serving station's custody changed to one that is not HALTED. -/
theorem withCustody {k : Station} (h : s.Serves k) {c : Custody} (hc : c.isHalted = false) : s.Keeps (s.withCustody k c) :=
  ⟨rfl, rfl, rfl, rfl, fun j hj => by
    by_cases e : k = j
    · subst e
      obtain ⟨configured, outlet, running⟩ := h hj
      have hcustody : (s.withCustody k c).custodyOf k = c := by rw [State.custodyOf_withCustody, if_pos rfl]
      refine ⟨?_, fun ho => absurd (outlet.symm.trans ho) (by decide)⟩
      rw [hcustody, if_pos (show (s.withCustody k c).configured k = true from configured)]
      exact hc.trans running.symm
    · have hcustody : (s.withCustody k c).custodyOf j = s.custodyOf j := by rw [State.custodyOf_withCustody, if_neg e]
      exact ⟨by rw [hcustody]; exact hj.1, by rw [hcustody]; exact hj.2⟩, fun _ => id, fun _ => id, fun _ => id⟩

/-! ### Custody -/

theorem directTo {k : Station} (h : s.Serves k) (c : Handle) (e : Exit) (kind : DirectiveKind) (a : Option Byte) :
    s.Keeps (s.directTo k c e kind a) := by
  have inner : s.Inside ((s.putInCustody k c .atStation).reserve
      (((s.putInCustody k c .atStation).station k).exitSegment e.val)) :=
    (State.Inside.modRecord s c _).trans (State.Inside.reserve _ _)
  exact ((inside inner).trans (withCustody (inner.serves h) rfl)).trans (placeDirective _ k kind a)

theorem block {k : Station} (h : s.Serves k) (c : Handle) (g : Option Segment) : s.Keeps (s.block k c g) := by
  have inner : s.Inside (s.putInCustody k c .held) := State.Inside.modRecord s c _
  exact ((inside inner).trans (withCustody (inner.serves h) rfl)).trans (inside (State.Inside.joinWaiters _ g k))

theorem takeOccupant {k : Station} (h : s.Serves k) (c : Handle) (seq : Byte) : s.Keeps (s.takeOccupant k c seq) := by
  simp only [State.takeOccupant]
  split
  · have inner : s.Inside ((s.putInCustody k c .held).modRecord c fun r => { r with flags := { r.flags with dwelt := true } }) :=
      (State.Inside.modRecord s c _).trans (State.Inside.modRecord _ c _)
    exact ((inside inner).trans (withCustody (inner.serves h) rfl)).trans (placeDirective _ k _ _)
  · have marked := State.Inside.markDecision s k c (s.decide k c)
    split
    · exact (inside marked).trans (directTo (marked.serves h) c _ _ _)
    · exact ((inside marked).trans (block (marked.serves h) c _)).trans (placeDirective _ k _ _)

theorem redecide {k : Station} (h : s.Serves k) (c : Handle) : s.Keeps (s.redecide k c) := by
  have marked := State.Inside.markDecision s k c (s.decide k c)
  simp only [State.redecide]
  split
  · exact (inside marked).trans (directTo (marked.serves h) c _ _ _)
  · exact (inside marked).trans (block (marked.serves h) c _)

theorem wake (s : State) (g : Segment) (k : Station) : s.Keeps (s.wake g k) := by
  have inner : s.Inside (s.withWaiters g ((s.waiterList g).erase k)) := State.Inside.withTracker s _
  simp only [State.wake]
  split
  · next c hc =>
    exact (inside inner).trans (redecide (State.serves_of_occupant (c := c) (by rw [hc]; rfl) (by rw [hc]; rfl)) c)
  · exact inside inner

theorem grantRounds (g : Segment) (n : Nat) (woken : List Station) (s : State) :
    s.Keeps (State.grantRounds g n woken s) := by
  induction n generalizing woken s with
  | zero => exact refl s
  | succ n ih =>
    unfold State.grantRounds
    split
    · split
      · exact (wake s g _).trans (ih _ _)
      · exact refl s
    · exact refl s

theorem clearOccupant {k : Station} (h : s.Serves k) (c : Handle) (e : Byte) : s.Keeps (s.clearOccupant k c e) := by
  have held := State.Inside.releaseHold s k
  have left : ∀ u : State, s.Inside u → ∀ g, s.Inside ((u.stageTransition k e c).leaveBy c g).1 := fun u hu g =>
    (hu.trans (State.Inside.stageTransition u k e c)).trans (State.Inside.leaveBy _ c g)
  simp only [State.clearOccupant]
  have inner := left (if (s.custodyOf k).deviates e then
      (s.releaseHold k).modRecord c fun r => { r with flags := { r.flags with deviated := true } } else s.releaseHold k)
    (by split
        · exact held.trans (State.Inside.modRecord _ c _)
        · exact held) ((s.station k).exitSegment e.toNat)
  exact (((inside inner).trans (withCustody (inner.serves h) rfl)).trans (withdrawDirective _ k)).trans
    (inside (State.Inside.clearRoomEvent _ _ _ _))

theorem removeJammed {k : Station} (h : s.Serves k) (c : Handle) (e : Exit) : s.Keeps (s.removeJammed k c e) := by
  have lost : ∀ g, s.Inside ((((s.unreserve g).unbindSlot? ((s.unreserve g).record c).pendingRoute).modRecord c
      fun r => { r with pendingRoute := none }).makeLost c .lostJam) := fun g =>
    (((State.Inside.unreserve s g).trans (State.Inside.unbindSlot? _ _)).trans (State.Inside.modRecord _ c _)).trans
      (State.Inside.makeLost _ c _)
  have vacated : ∀ g, s.Keeps (((((s.unreserve g).unbindSlot? ((s.unreserve g).record c).pendingRoute).modRecord c
      fun r => { r with pendingRoute := none }).makeLost c .lostJam).withCustody k .idle |>.withdrawDirective k) := fun g =>
    ((inside (lost g)).trans (withCustody ((lost g).serves h) rfl)).trans (withdrawDirective _ k)
  simp only [State.removeJammed]
  cases (s.station k).exitSegment e.val with
  | none => exact vacated none
  | some g => exact (vacated (some g)).trans (inside (State.Inside.withTracker _ _))

/-! ### Arrivals -/

theorem deliver (s : State) (k : Station) (c : Handle) (seq : Byte) : s.Keeps (s.deliver k c seq) := by
  have counted : ∀ u : State, u.Keeps (u.withOutlet k (u.outlet k).deliver) := fun u =>
    ⟨rfl, rfl, rfl, rfl, fun _ => id, fun j hj => by
      rw [State.outlet_withOutlet]; split
      · next e => subst e; exact OutletAccount.Sound.deliver hj
      · exact hj, fun _ => id, fun _ => id⟩
  have judged : ∀ u : State, u.Inside (if u.deliveryCorrect k c then u else u.setException c .misdelivered) := fun u => by
    split <;> rfl
  have retired : ∀ u : State, u.Inside (if (u.outlet k).autoRetire ∧ (u.record c).exception = none then u.freeRecord c
      else u) := fun u => by
    split
    · exact State.Inside.freeRecord u c
    · exact State.Inside.refl u
  exact ((((inside (State.Inside.modRecord s c _)).trans (counted _)).trans (inside (judged _))).trans
    (inside (retired _))).trans (placeDirective _ k _ _)

theorem handOn {k : Station} (h : s.isOutlet k = false → s.Serves k) (c : Handle) (seq : Byte) :
    s.Keeps (s.handOn k c seq) := by
  unfold State.handOn
  split
  · exact deliver s k c seq
  · next ho => exact takeOccupant (h (Bool.not_eq_true _ ▸ ho)) c seq

theorem createStranger {k : Station} (h : s.Serves k) (g : Option Segment) (tag : Option Tag) (c : Handle) (seq : Byte) :
    s.Keeps (s.createStranger k g tag c seq) := by
  have inner : s.Inside ((s.modRecord c fun r => .stranger r.generation k g tag s.lineTime).setException c .stranger) :=
    (State.Inside.modRecord s c _).trans (State.Inside.setException _ c _)
  simp only [State.createStranger]
  cases tag with
  | some t =>
    have tagged := inner.trans (State.Inside.withTags _ (TagIndex.add t c s.tags))
    exact (inside tagged).trans (takeOccupant (tagged.serves h) c seq)
  | none => exact (inside inner).trans (takeOccupant (inner.serves h) c seq)

theorem takeStranger {k : Station} (h : s.isOutlet k = false → s.Serves k) (g : Option Segment) (tag : Option Tag)
    (seq : Byte) : s.Keeps (s.takeStranger k g tag seq) := by
  unfold State.takeStranger
  split
  · exact (countUntracked s k).trans (placeDirective _ k _ _)
  · next ho =>
    split
    · exact createStranger (h (Bool.not_eq_true _ ▸ ho)) g tag _ seq
    · exact (countUntracked s k).trans (placeDirective _ k _ _)

/-- An arrival at a configured IDLE station. -/
theorem resolveArrival {k : Station} (hc : s.configured k = true) (hi : s.custodyOf k = .idle) (port : Byte) (t : Tag)
    (seq : Byte) : s.Keeps (s.resolveArrival k port t seq) := by
  have serves : s.isOutlet k = false → s.Serves k := fun ho hk => by
    have := hk.1
    rw [if_pos hc, hi] at this
    exact ⟨hc, ho, this.symm⟩
  simp only [State.resolveArrival]
  split
  · next c how _ =>
    have bound := (State.Inside.applyBinding s ((s.station k).entrySegment port.toNat) c how).trans
      (State.Inside.modRecord _ c fun r => { r with
        sighting := some ⟨k, (s.applyBinding ((s.station k).entrySegment port.toNat) c how).lineTime⟩
        lastSegment := (s.station k).entrySegment port.toNat, window := none })
    exact (inside bound).trans (handOn (fun ho => bound.serves (serves (bound.isOutlet k ▸ ho))) c seq)
  · exact takeStranger serves _ _ seq

end State.Keeps

/-! ### Changes of causes, and what every event keeps of the blocks beyond the carriers -/

/-- What every change of a zone's causes keeps, latching a line in the zones of a mask keeps (R157). -/
theorem State.latchMask_keeps {P : State → Prop} (hP : ∀ s z c, P s → P (s.withCauses z c)) {s : State} (n : HaltLine)
    (mask : Byte) (h : P s) : P (s.latchMask n mask) := by
  unfold State.latchMask
  induction List.finRange Config.zones generalizing s with
  | nil => exact h
  | cons z l ih =>
    rw [List.foldl_cons]
    refine ih ?_
    split
    · exact hP s z _ h
    · exact h

/-- Nothing changes but carriers, custody, causes, directives and room events. -/
def State.InZones (s t : State) : Prop :=
  t = { s with
    carriers := t.carriers, custody := t.custody, zones := t.zones, tracker := t.tracker
    link := { s.link with records := t.link.records } }
    ∧ ∀ k, (s.linkOf k).Sound → (t.linkOf k).Sound

namespace State.InZones

variable {s t u : State}

theorem refl (s : State) : s.InZones s := ⟨rfl, fun _ => id⟩

theorem trans (h : s.InZones t) (h' : t.InZones u) : s.InZones u :=
  ⟨by rw [h'.1, h.1], fun k hk => h'.2 k (h.2 k hk)⟩

theorem mapWindows (s : State) (z : Zone) (f : Segment → Option Window → Option Window) : s.InZones (s.mapWindows z f) :=
  ⟨by simp only [State.mapWindows, State.withCarriers], fun k hk => by
    simpa only [State.mapWindows, State.linkOf, State.withCarriers_link] using hk⟩

theorem withCustodies (s : State) (x : Table Config.stations Custody) : s.InZones (s.withCustodies x) :=
  ⟨rfl, fun _ => id⟩

theorem enterHalted (s : State) (z : Zone) : s.InZones (s.enterHalted z) := by
  unfold State.enterHalted
  refine trans ?_ (withCustodies _ _)
  split
  · exact mapWindows ..
  · exact refl s

theorem leaveHalted (s : State) (z : Zone) : s.InZones (s.leaveHalted z) := by
  have sound : ∀ k, (s.linkOf k).Sound → (if s.inZone z k then (s.custodyOf k).rereleased (s.linkOf k) else s.linkOf k).Sound :=
    fun k hk => by
      split
      · unfold Custody.rereleased; split
        · exact hk.place _ _
        · exact hk
      · exact hk
  have rest : ∀ t : State, s.InZones t → ∀ e, s.InZones
      (((t.withCustodies (s.custody.mapRows fun st c => if s.inZone z st then s.resumedCustody st c else c)).withLink
        { t.link with records := s.link.records.mapRows fun st l => if s.inZone z st then (s.custodyOf st).rereleased l
          else l }).withRoomEvents e) := fun t h e => by
    refine ⟨by rw [h.1]; rfl, fun k hk => ?_⟩
    simp only [State.linkOf, State.withRoomEvents_link, State.withLink_link, Table.get_mapRows]
    exact sound k hk
  unfold State.leaveHalted
  refine rest _ ?_ _
  cases s.map.policies.get z
  · exact mapWindows ..
  · exact mapWindows ..

theorem withCauses (s : State) (z : Zone) (c : HaltCauses) : s.InZones (s.withCauses z c) := by
  have caused : s.InZones (s.withZones { s.zones with causes := s.zones.causes.set z c }) := ⟨rfl, fun _ => id⟩
  simp only [State.withCauses]
  split
  · exact caused.trans (enterHalted _ z)
  · split
    · exact caused.trans (leaveHalted _ z)
    · exact caused

theorem latchMask (s : State) (n : HaltLine) (mask : Byte) : s.InZones (s.latchMask n mask) :=
  State.latchMask_keeps (P := s.InZones) (fun _ z c h => h.trans (withCauses _ z c)) n mask (refl s)

end State.InZones

/-- From `s` to `t` the port and the queue of commands stay, the accounts, link records and untracked counts stay sound,
and no validation begins or ends. -/
structure State.Mild (s t : State) : Prop where
  device : t.map.device = .validating ↔ s.map.device = .validating
  port : t.port = s.port
  pending : t.pending = s.pending
  accounts : ∀ k, (s.outlet k).Sound → (t.outlet k).Sound
  links : ∀ k, (s.linkOf k).Sound → (t.linkOf k).Sound
  untracked : ∀ k, s.untracked.get k ≤ 255 → t.untracked.get k ≤ 255

theorem State.Keeps.mild {s t : State} (h : s.Keeps t) : s.Mild t :=
  ⟨by rw [h.map], h.port, h.pending, h.accounts, h.links, h.untracked⟩

theorem State.Mild.of_eq {s t : State} (hd : t.map.device = .validating ↔ s.map.device = .validating)
    (hp : t.port = s.port) (hq : t.pending = s.pending) (ha : t.outlets = s.outlets) (hl : t.link.records = s.link.records)
    (hu : t.untracked = s.untracked) : s.Mild t :=
  ⟨hd, hp, hq, fun k hk => by simpa only [State.outlet, ha] using hk,
    fun k hk => by simpa only [State.linkOf, hl] using hk, fun k hk => by rw [hu]; exact hk⟩

theorem State.InZones.mild {s t : State} (h : s.InZones t) : s.Mild t :=
  ⟨by rw [h.1], by rw [h.1], by rw [h.1], fun k hk => by
    rw [State.outlet, h.1]; exact hk, h.2, fun k hk => by rw [h.1]; exact hk⟩

theorem LinkRecord.Sound.reconfigure {l : LinkRecord} (h : l.Sound) (was is : Bool) : (l.reconfigure was is).Sound := by
  unfold LinkRecord.reconfigure
  split
  · exact h
  · exact ⟨Nat.zero_le _, nofun, trivial⟩

theorem State.Mild.setStation (s : State) (k : Station) (r : StationRecord) : s.Mild (s.setStation k r) :=
  ⟨Iff.rfl, rfl, rfl, fun _ => id, fun j hj => by
    simp only [State.setStation, State.linkOf_withLinkOf]
    split
    · next e => subst e; exact LinkRecord.Sound.reconfigure hj _ _
    · exact hj, fun _ => id⟩

theorem State.Mild.resetTracking (s : State) : s.Mild s.resetTracking :=
  ⟨by simp only [State.resetTracking], by simp only [State.resetTracking], by simp only [State.resetTracking],
    by simp only [State.resetTracking, State.outlet]; exact fun _ => id, fun k hk => by
    have : s.resetTracking.linkOf k = { s.linkOf k with slot := .empty } := Table.get_mapRows ..
    rw [this]; exact ⟨hk.1, hk.2.1, trivial⟩, by simp only [State.resetTracking]; exact fun _ => id⟩

/-! ### Updates of the blocks beside the events -/

theorem LinkRecord.Sound.missed {l : LinkRecord} (h : l.Sound) : l.missed.Sound := by
  refine ⟨Nat.min_le_right _ _, fun h3 => ?_, h.2.2⟩
  have h3 : min (l.missCount + 1) 3 = 3 := h3
  simp only [LinkRecord.missed, h3, if_true]

theorem LinkRecord.Sound.duplicate {l : LinkRecord} (h : l.Sound) (a : SeqCode) : (l.duplicate a).Sound := by
  refine ⟨h.1, h.2.1, ?_⟩
  have hs := h.2.2
  simp only [LinkRecord.duplicate]
  cases hl : l.slot with
  | empty => trivial
  | undelivered d => rw [hl] at hs; exact hs
  | delivered d =>
    rw [hl] at hs
    simp only
    split
    · next he => split at he <;> cases he
    · next he => split at he <;> cases he <;> exact hs
    · next he => split at he <;> cases he <;> exact hs

theorem LinkRecord.Sound.answered {l : LinkRecord} (h : l.Sound) : l.answered.Sound := by
  unfold LinkRecord.answered
  split <;> exact ⟨Nat.zero_le _, nofun, h.2.2⟩

theorem LinkRecord.Sound.acknowledgeDirective {l : LinkRecord} (h : l.Sound) (n : Option Byte) :
    (l.acknowledgeDirective n).Sound := by
  unfold LinkRecord.acknowledgeDirective
  split
  · next d hd =>
    split
    · refine ⟨h.1, h.2.1, ?_⟩
      have := h.2.2
      rw [hd] at this; exact this
    · exact h
  · exact h

theorem OutletAccount.Sound.emptied {a : OutletAccount} (h : a.Sound) :
    OutletAccount.Sound { a with delivered := 0, full := false } :=
  ⟨h.1, h.2.1, Nat.zero_le _, ⟨nofun, fun hc => absurd (le_trans h.1 hc) (Nat.not_succ_le_zero 0)⟩⟩

/-- An account written by OUTLET_SET within its checks (R154). -/
theorem OutletAccount.Sound.written {s : State} {k : Station} {p : OutletSetParams} (h : (s.outlet k).Sound)
    (ha : s.outletSetAllowed k p = true) (autoRetire : Bool) :
    (OutletAccount.reevaluated { s.outlet k with
      capacity := if given p.mask 0 then p.capacity.toNat else (s.outlet k).capacity, autoRetire }).Sound := by
  simp only [State.outletSetAllowed, Bool.and_eq_true, Bool.or_eq_true, Bool.not_eq_true', decide_eq_true_eq] at ha
  obtain ⟨⟨-, hc⟩, -⟩ := ha
  refine ⟨?_, ?_, h.2.2.1, decide_eq_true_iff⟩ <;> simp only [OutletAccount.reevaluated] <;> split
  · next hg => exact (hc.resolve_left (by rw [hg]; decide)).1.1
  · exact h.1
  · next hg => exact (hc.resolve_left (by rw [hg]; decide)).1.2
  · exact h.2.1

end Sys2Proof.Machine
end

section
/-! What a step does, said once: every step is one event of the part, apart from what the laws do not read: the port, the
queue of commands, the link, the room events waiting, the toggles, the outlet accounts, the untracked counts and the halt
inputs. -/

-- One declaration at a time, which holds the text's memory down.
set_option Elab.async false

namespace Sys2Proof.Machine

/-! ### What the laws of carriers, routes and zones read -/

/-- The two states agree in all that the laws of carriers, queues, custody, routes, zones and the map read. -/
structure State.SameCore (s t : State) : Prop where
  lineTime : t.lineTime = s.lineTime
  device : t.map.device = s.map.device
  stations : t.map.stations = s.map.stations
  segments : t.map.segments = s.map.segments
  policies : t.map.policies = s.map.policies
  carriers : t.carriers = s.carriers
  tags : t.tags = s.tags
  queues : t.tracker.queues = s.tracker.queues
  reserved : t.tracker.reserved = s.tracker.reserved
  waiters : t.tracker.waiters = s.tracker.waiters
  custody : t.custody = s.custody
  routes : t.routes = s.routes
  causes : t.zones.causes = s.zones.causes

namespace State.SameCore

variable {s t u : State}

theorem refl (s : State) : s.SameCore s := ⟨rfl, rfl, rfl, rfl, rfl, rfl, rfl, rfl, rfl, rfl, rfl, rfl, rfl⟩

theorem of_eq (h : s = t) : s.SameCore t := h ▸ refl s

theorem symm (h : s.SameCore t) : t.SameCore s :=
  ⟨h.1.symm, h.2.symm, h.3.symm, h.4.symm, h.5.symm, h.6.symm, h.7.symm, h.8.symm, h.9.symm, h.10.symm, h.11.symm,
    h.12.symm, h.13.symm⟩

theorem trans (h : s.SameCore t) (h' : t.SameCore u) : s.SameCore u :=
  ⟨h'.1.trans h.1, h'.2.trans h.2, h'.3.trans h.3, h'.4.trans h.4, h'.5.trans h.5, h'.6.trans h.6, h'.7.trans h.7,
    h'.8.trans h.8, h'.9.trans h.9, h'.10.trans h.10, h'.11.trans h.11, h'.12.trans h.12, h'.13.trans h.13⟩

theorem record (h : s.SameCore t) : t.record = s.record := by funext x; simp only [State.record, h.carriers]
theorem queue (h : s.SameCore t) : t.queue = s.queue := by funext x; simp only [State.queue, h.queues]
theorem reservedCount (h : s.SameCore t) : t.reservedCount = s.reservedCount := by
  funext x; simp only [State.reservedCount, h.reserved]
theorem waiterList (h : s.SameCore t) : t.waiterList = s.waiterList := by
  funext x; simp only [State.waiterList, h.waiters]
theorem custodyOf (h : s.SameCore t) : t.custodyOf = s.custodyOf := by funext x; simp only [State.custodyOf, h.custody]
theorem slotOf (h : s.SameCore t) : t.slotOf = s.slotOf := by funext x; simp only [State.slotOf, h.routes]
theorem setOf (h : s.SameCore t) : t.setOf = s.setOf := by funext x; simp only [State.setOf, h.routes]
theorem station (h : s.SameCore t) : t.station = s.station := by funext x; simp only [State.station, h.stations]
theorem segment (h : s.SameCore t) : t.segment = s.segment := by funext x; simp only [State.segment, h.segments]
theorem configured (h : s.SameCore t) : t.configured = s.configured := by
  funext x; simp only [State.configured, h.station]
theorem isOutlet (h : s.SameCore t) : t.isOutlet = s.isOutlet := by funext x; simp only [State.isOutlet, h.station]
theorem zoneHalted (h : s.SameCore t) : t.zoneHalted = s.zoneHalted := by
  funext x; simp only [State.zoneHalted, h.causes]
theorem depth (h : s.SameCore t) : t.depth = s.depth := by
  funext x; simp only [State.depth, h.queue, h.reservedCount]
theorem programOf (h : s.SameCore t) : t.programOf = s.programOf := by funext x; simp only [State.programOf, h.slotOf]

/-! The updates of what the laws do not read. -/

theorem withPort (s : State) (p : HostPort) : s.SameCore (s.withPort p) := ⟨rfl, rfl, rfl, rfl, rfl, rfl, rfl, rfl, rfl, rfl, rfl, rfl, rfl⟩
theorem withLink (s : State) (l : StationLink) : s.SameCore (s.withLink l) := ⟨rfl, rfl, rfl, rfl, rfl, rfl, rfl, rfl, rfl, rfl, rfl, rfl, rfl⟩
theorem withLinkOf (s : State) (k : Station) (l : LinkRecord) : s.SameCore (s.withLinkOf k l) := withLink s _
theorem withRoomEvents (s : State) (e : List Segment) : s.SameCore (s.withRoomEvents e) :=
  ⟨rfl, rfl, rfl, rfl, rfl, rfl, rfl, rfl, rfl, rfl, rfl, rfl, rfl⟩
theorem raiseRoomEvent (s : State) (g : Segment) : s.SameCore (s.raiseRoomEvent g) := withRoomEvents s _
theorem withToggle (s : State) (k : Station) (b : Bool) : s.SameCore (s.withToggle k b) :=
  ⟨rfl, rfl, rfl, rfl, rfl, rfl, rfl, rfl, rfl, rfl, rfl, rfl, rfl⟩
theorem withOutlet (s : State) (k : Station) (a : OutletAccount) : s.SameCore (s.withOutlet k a) :=
  ⟨rfl, rfl, rfl, rfl, rfl, rfl, rfl, rfl, rfl, rfl, rfl, rfl, rfl⟩
theorem withUntracked (s : State) (k : Station) (n : Nat) : s.SameCore (s.withUntracked k n) :=
  ⟨rfl, rfl, rfl, rfl, rfl, rfl, rfl, rfl, rfl, rfl, rfl, rfl, rfl⟩
theorem withLevel (s : State) (n : HaltLine) (b : Bool) : s.SameCore (s.withLevel n b) :=
  ⟨rfl, rfl, rfl, rfl, rfl, rfl, rfl, rfl, rfl, rfl, rfl, rfl, rfl⟩
theorem withHaltMap (s : State) (x : Table Config.haltLines Byte) :
    s.SameCore (s.withMap { s.map with haltMap := x }) := ⟨rfl, rfl, rfl, rfl, rfl, rfl, rfl, rfl, rfl, rfl, rfl, rfl, rfl⟩
theorem withPending (s : State) (q : List Instr) : s.SameCore { s with pending := q } :=
  ⟨rfl, rfl, rfl, rfl, rfl, rfl, rfl, rfl, rfl, rfl, rfl, rfl, rfl⟩
theorem placeDirective (s : State) (k : Station) (d : DirectiveKind) (a : Option Byte) :
    s.SameCore (s.placeDirective k d a) := withLinkOf s k _
theorem withdrawDirective (s : State) (k : Station) : s.SameCore (s.withdrawDirective k) := withLinkOf s k _
theorem acknowledge (s : State) (k : Station) (a : SeqCode) : s.SameCore (s.acknowledge k a) := withLinkOf s k _
theorem countUntracked (s : State) (k : Station) : s.SameCore (s.countUntracked k) := withUntracked s k _
theorem beginAnswer (s : State) (k : Station) (d : Option Byte) : s.SameCore (s.beginAnswer k d) :=
  (withLink s _).trans (withLinkOf _ k _)
theorem raiseEntryEvent (s : State) (k : Station) : s.SameCore (s.raiseEntryEvent k) := by
  unfold State.raiseEntryEvent; split
  · exact raiseRoomEvent s _
  · exact refl s

end State.SameCore

/-! ### Events -/

/-- A change of the Line Map, with what comes of it in a station's custody. -/
inductive MapEvent (s : State) : State → Prop
  | setStation {p : StationSetParams} {r : StationRecord} (k : Station) (hd : s.map.device = .setup)
      (hr : stationWritten? p = some r) : MapEvent s (s.setStation k r)
  | setSegment {p : SegmentSetParams} {r : SegmentRecord} (g : Segment) (hd : s.map.device = .setup)
      (hr : segmentWritten? p = some r) : MapEvent s (s.withSegment g r)
  | setPolicy (z : Zone) (policy : TimerPolicy) (hd : s.map.device = .setup) :
      MapEvent s (s.withMap { s.map with policies := s.map.policies.set z policy })
  | tuneStation {p : StationTuneParams} {k : Station} {r : StationRecord}
      (hr : stationTuneRecord? p (s.station k) = some r) : MapEvent s (s.withStation k r)
  | tuneSegment {p : SegmentTuneParams} {g : Segment} {r : SegmentRecord}
      (hr : segmentTuneRecord? p (s.segment g) (s.depth g) = some r) : MapEvent s (s.withSegment g r)
  | beginValidation (hd : s.map.device = .setup) : MapEvent s (s.withDevice .validating)
  | passValidation (hd : s.map.device = .validating) (hv : s.validate = none) : MapEvent s (s.withDevice .running)
  | failValidation (hd : s.map.device = .validating) : MapEvent s (s.withDevice .setup)
  | stop (hd : s.map.device = .running) (hl : s.anyLive = false) : MapEvent s (s.withDevice .setup)

/-- A change of the Route Store by its own commands. -/
inductive RouteEvent (s : State) : State → Prop
  | writeSet {n : Byte} {places : List EntryPlace} {entries : List DecisionEntry} {i : SetNo}
      (hw : writtenEntries? n places = some entries) (hr : (s.setOf i).references = 0) :
      RouteEvent s (s.withSets (s.routes.sets.modify i fun d => { d with entries }))
  | openSlot {q : Slot} (h : (s.slotOf q).state = .empty) : RouteEvent s (s.withSlotState q (.draft .cleared))
  | discard {q : Slot} {p : Program} (h : (s.slotOf q).state = .draft p) : RouteEvent s (s.withSlotState q .empty)
  | writeDraft {q : Slot} {p p' : Program} (h : (s.slotOf q).state = .draft p) (hp : p.InRange → p'.InRange) :
      RouteEvent s (s.withSlotState q (.draft p'))
  | activate {q : Slot} {p : Program} (h : (s.slotOf q).state = .draft p) (ha : s.activationFault p = none) :
      RouteEvent s ((s.withSlot q { state := .active p, bound := 0 }).countReferences p)
  | withdraw {q : Slot} {p : Program} (h : (s.slotOf q).state = .active p) (hc : s.classBoundTo q = false)
      (hb : (s.slotOf q).bound = 0) :
      RouteEvent s ((s.withSlot q { state := .empty, bound := 0 }).releaseReferences p)
  | drain {q : Slot} {p : Program} (h : (s.slotOf q).state = .active p) (hc : s.classBoundTo q = false)
      (hb : (s.slotOf q).bound ≠ 0) : RouteEvent s (s.withSlotState q (.draining p))
  | bindClass (c : Class) {x : Option Slot} (h : ∀ q, x = some q → (s.slotOf q).state.isActive = true) :
      RouteEvent s (s.withRoutes { s.routes with classes := s.routes.classes.set c x })

/-- An event of the part: what one step can do to the carriers, queues, custody, routes, zones and the map. -/
inductive Event (s : State) : State → Prop
  | idle : Event s s
  | reset : Event s State.reset
  | tick (samples : BitVec 4) : Event s (s.tick samples)
  | ofMap {t : State} (h : MapEvent s t) : Event s t
  | ofRoute {t : State} (h : RouteEvent s t) : Event s t
  | causes (z : Zone) (c : HaltCauses) : Event s (s.withCauses z c)
  | latches (n : HaltLine) (mask : Byte) : Event s (s.latchMask n mask)
  | resetTracking (hd : s.map.device = .running) (hz : s.usedZoneRunning = false) : Event s s.resetTracking
  | arrival (k : Station) (port : Byte) (t : Tag) (seq : Byte) (hc : s.configured k = true)
      (hd : s.map.device = .running) (hi : s.custodyOf k = .idle) : Event s (s.resolveArrival k port t seq)
  | clear (k : Station) (c : Handle) (e : Byte) (hc : s.configured k = true) (hd : s.map.device = .running)
      (ho : (s.custodyOf k).occupant? = some c) (hh : (s.custodyOf k).isHalted = false) :
      Event s (s.clearOccupant k c e)
  | removeJam (k : Station) (c : Handle) (e : Exit) (hd : s.map.device = .running)
      (hj : s.custodyOf k = .jammed c e) : Event s (s.removeJammed k c e)
  | grant (g : Segment) (n : Nat) (woken : List Station) : Event s (State.grantRounds g n woken s)
  | redecide {k : Station} {c : Handle} {x : Time} (h : s.custodyOf k = .heldDwell c x) : Event s (s.redecide k c)
  | jam {k : Station} {c : Handle} {e : Exit} {x : Option Time} (h : s.custodyOf k = .occupied c e x) :
      Event s (s.withCustody k (.jammed c e))
  | expire {g : Segment} {h : Handle} (hx : s.expiredHead g = some h) :
      Event s ((s.dequeue g h).makeLost h .lostTimeout)
  | purge (g : Segment) (hd : s.map.device = .running) : Event s (s.purge g)
  | induct {g : Segment} {h : Handle} {t : Tag} (cls : Option Class) {q : Slot} {p : Program}
      (hd : s.map.device = .running) (ht : t = 0 ∨ TagIndex.lookup t s.tags = none)
      (hq : (s.slotOf q).state = .active p) (hf : (s.record h).state = .free) (hr : s.hasRoom g = true) :
      Event s (s.induct g h t cls q)
  | rerouteNow {c : Handle} {q : Slot} (hs : (s.record c).state.queued = true)
      (hq : (s.slotOf q).state.isActive = true) : Event s (s.rerouteNow c q)
  | rerouteLater {c : Handle} {q : Slot} (hs : (s.record c).state.inCustody = true)
      (hq : (s.slotOf q).state.isActive = true) : Event s (s.rerouteLater c q)
  | retire {c : Handle} (hs : (s.record c).state.retirable = true) : Event s (s.freeRecord c)

/-- From `s` to `t` by one event, apart from what the laws do not read. -/
def State.Steps (s t : State) : Prop := ∃ u v, s.SameCore u ∧ Event u v ∧ v.SameCore t

namespace State.Steps

variable {s t u : State}

theorem of_same (h : s.SameCore t) : s.Steps t := ⟨s, s, .refl s, .idle, h⟩

theorem of_event (h : Event s t) : s.Steps t := ⟨s, t, .refl s, h, .refl t⟩

theorem after (h : s.SameCore t) (h' : t.Steps u) : s.Steps u :=
  let ⟨x, y, hx, he, hy⟩ := h'; ⟨x, y, h.trans hx, he, hy⟩

theorem before (h : s.Steps t) (h' : t.SameCore u) : s.Steps u :=
  let ⟨x, y, hx, he, hy⟩ := h; ⟨x, y, hx, he, hy.trans h'⟩

end State.Steps

end Sys2Proof.Machine
end

section
/-! Every step is one event (P1): by the block of each command, and by what each event of the line does. -/

-- One declaration at a time, which holds the text's memory down.
set_option Elab.async false

namespace Sys2Proof.Machine

/-- A host command is the same as a command of the table and as the command a frame spells. -/
theorem exec_eq_runHostCommand {i : Instr} {x : Byte × List Byte} (h : commandBytes i = some x) (s : State) :
    exec i s = runHostCommand i s := by
  cases i <;> cases h <;> rfl

/-! ### What a block does -/

/-- From `s` to `t` nothing changes that the laws of carriers, queues, routes and zones read, nor the port but for its mask,
and the accounts, link records and untracked counts stay sound. -/
structure State.Aside (s t : State) : Prop where
  core : s.SameCore t
  port : t.port = { s.port with mask := t.port.mask }
  pending : t.pending = s.pending
  accounts : ∀ k, (s.outlet k).Sound → (t.outlet k).Sound
  links : ∀ k, (s.linkOf k).Sound → (t.linkOf k).Sound
  untracked : ∀ k, s.untracked.get k ≤ 255 → t.untracked.get k ≤ 255

namespace State.Aside

variable {s t u : State}

theorem refl (s : State) : s.Aside s := ⟨.refl s, rfl, rfl, fun _ => id, fun _ => id, fun _ => id⟩

theorem trans (h : s.Aside t) (h' : t.Aside u) : s.Aside u :=
  ⟨h.core.trans h'.core, by rw [h'.port, h.port], h'.pending.trans h.pending, fun k hk => h'.accounts k (h.accounts k hk),
    fun k hk => h'.links k (h.links k hk), fun k hk => h'.untracked k (h.untracked k hk)⟩

theorem withMask (s : State) (m : BitVec 7) : s.Aside (s.withPort { s.port with mask := m }) :=
  ⟨.withPort s _, rfl, rfl, fun _ => id, fun _ => id, fun _ => id⟩

theorem withRoomEvents (s : State) (e : List Segment) : s.Aside (s.withRoomEvents e) :=
  ⟨.withRoomEvents s e, rfl, rfl, fun _ => id, fun _ => id, fun _ => id⟩

theorem raiseRoomEvent (s : State) (g : Segment) : s.Aside (s.raiseRoomEvent g) := withRoomEvents s _

theorem raiseEntryEvent (s : State) (k : Station) : s.Aside (s.raiseEntryEvent k) := by
  unfold State.raiseEntryEvent; split
  · exact raiseRoomEvent s _
  · exact refl s

theorem withLevel (s : State) (n : HaltLine) (b : Bool) : s.Aside (s.withLevel n b) :=
  ⟨.withLevel s n b, rfl, rfl, fun _ => id, fun _ => id, fun _ => id⟩

theorem withHaltMap (s : State) (x : Table Config.haltLines Byte) : s.Aside (s.withMap { s.map with haltMap := x }) :=
  ⟨.withHaltMap s x, rfl, rfl, fun _ => id, fun _ => id, fun _ => id⟩

theorem withOutlet (s : State) (k : Station) {a : OutletAccount} (h : (s.outlet k).Sound → a.Sound) :
    s.Aside (s.withOutlet k a) :=
  ⟨.withOutlet s k a, rfl, rfl, fun j hj => by
    rw [State.outlet_withOutlet]; split
    · next e => subst e; exact h hj
    · exact hj, fun _ => id, fun _ => id⟩

theorem withUntracked (s : State) (k : Station) {n : Nat} (h : n ≤ 255) : s.Aside (s.withUntracked k n) :=
  ⟨.withUntracked s k n, rfl, rfl, fun _ => id, fun _ => id, fun j hj => by
    show (s.untracked.set k n).get j ≤ 255
    rw [Table.get_set]; split
    · exact h
    · exact hj⟩

theorem withLink (s : State) {l : StationLink} (h : ∀ k, (s.linkOf k).Sound → (l.records.get k).Sound) :
    s.Aside (s.withLink l) :=
  ⟨.withLink s l, rfl, rfl, fun _ => id, h, fun _ => id⟩

theorem withLinkOf (s : State) (k : Station) {l : LinkRecord} (h : (s.linkOf k).Sound → l.Sound) :
    s.Aside (s.withLinkOf k l) :=
  ⟨.withLinkOf s k l, rfl, rfl, fun _ => id, (State.Keeps.withLinkOf s k h).links, fun _ => id⟩

theorem acknowledge (s : State) (k : Station) (a : SeqCode) : s.Aside (s.acknowledge k a) :=
  withLinkOf s k fun h => by split <;> exact h

theorem beginAnswer (s : State) (k : Station) (d : Option Byte) : s.Aside (s.beginAnswer k d) := by
  refine Aside.trans (t := s.endTransaction) (withLink s fun _ => id) (withLinkOf _ k fun h => ?_)
  refine LinkRecord.Sound.acknowledgeDirective ?_ d
  split
  · exact h.answered
  · exact h

end State.Aside

/-- From `s` to `t` by one event that leaves the port and the device's validation alone, apart from what the laws of
carriers, queues, routes and zones do not read: what every host command but the long operations does at its block. -/
def State.Does (s t : State) : Prop := ∃ u v, s.Aside u ∧ Event u v ∧ u.Mild v ∧ v.Aside t

namespace State.Does

variable {s t u : State}

theorem of_same (h : s.Aside t) : s.Does t := ⟨s, s, .refl s, .idle, (State.Keeps.refl s).mild, h⟩

theorem of_mild (h : Event s t) (hm : s.Mild t) : s.Does t := ⟨s, t, .refl s, h, hm, .refl t⟩

theorem of_keeps (h : Event s t) (hk : s.Keeps t) : s.Does t := of_mild h hk.mild

theorem of_inside (h : Event s t) (hi : s.Inside t) : s.Does t := of_keeps h (.inside hi)

/-- A change of the Line Map that begins and ends no validation. -/
theorem of_map (h : MapEvent s t) (hd : t.map.device = .validating ↔ s.map.device = .validating) : s.Does t := by
  refine of_mild (.ofMap h) ?_
  cases h with
  | setStation => exact .setStation ..
  | _ => exact .of_eq hd rfl rfl rfl rfl rfl

theorem of_route (h : RouteEvent s t) : s.Does t := of_inside (.ofRoute h) (by cases h <;> rfl)

theorem of_causes (s : State) (z : Zone) (c : HaltCauses) : s.Does (s.withCauses z c) :=
  of_mild (.causes z c) (State.InZones.withCauses s z c).mild

theorem of_latches (s : State) (n : HaltLine) (mask : Byte) : s.Does (s.latchMask n mask) :=
  of_mild (.latches n mask) (State.InZones.latchMask s n mask).mild

theorem after (h : s.Aside t) (h' : t.Does u) : s.Does u :=
  let ⟨x, y, hx, he, hm, hy⟩ := h'; ⟨x, y, h.trans hx, he, hm, hy⟩

theorem before (h : s.Does t) (h' : t.Aside u) : s.Does u :=
  let ⟨x, y, hx, he, hm, hy⟩ := h; ⟨x, y, hx, he, hm, hy.trans h'⟩

theorem steps (h : s.Does t) : s.Steps t :=
  let ⟨x, y, hx, he, _, hy⟩ := h; ⟨x, y, hx.core, he, hy.core⟩

theorem mild (h : s.Does t) : s.Mild { t with port := { t.port with mask := s.port.mask } } := by
  obtain ⟨u, v, hu, -, hm, hv⟩ := h
  refine ⟨?_, ?_, hv.pending.trans (hm.pending.trans hu.pending), fun k hk => ?_, fun k hk => ?_, fun k hk => ?_⟩
  · show t.map.device = .validating ↔ _
    rw [← hu.core.device, ← hm.device, hv.core.device]
  · show { t.port with mask := s.port.mask } = s.port
    rw [hv.port, hm.port, hu.port]
  · exact hv.accounts k (hm.accounts k (hu.accounts k hk))
  · exact hv.links k (hm.links k (hu.links k hk))
  · exact hv.untracked k (hm.untracked k (hu.untracked k hk))

/-! ### Commands -/

theorem refuse (s : State) (a : AnswerCode) : s.Does (refuse s a).1 := of_same (.refl s)

theorem accept (s : State) (d : List Byte) : s.Does (accept s d).1 := of_same (.refl s)

/-! ### The Line Map -/

theorem stationSet (p : StationSetParams) (s : State) : s.Does (s.stationSetCommand p).1 := by
  unfold State.stationSetCommand
  split
  · exact refuse s _
  · next hd =>
    split
    · next hr => exact of_map (.setStation _ (not_not.mp hd) hr) Iff.rfl
    · exact refuse s _

theorem segmentSet (p : SegmentSetParams) (s : State) : s.Does (s.segmentSetCommand p).1 := by
  unfold State.segmentSetCommand
  split
  · exact refuse s _
  · next hd =>
    split
    · next hr => exact of_map (.setSegment _ (not_not.mp hd) hr) Iff.rfl
    · exact refuse s _

theorem zoneSet (z b : Byte) (s : State) : s.Does (s.zoneSetCommand z b).1 := by
  unfold State.zoneSetCommand
  split
  · exact refuse s _
  · next hd =>
    split
    · exact of_map (.setPolicy _ _ (not_not.mp hd)) Iff.rfl
    · exact refuse s _

theorem haltMap (l m : Byte) (s : State) : s.Does (s.haltMapCommand l m).1 := by
  unfold State.haltMapCommand
  split
  · exact refuse s _
  · split
    · next n _ =>
      show s.Does (s.mapLine n m)
      unfold State.mapLine
      split
      · exact after (.withHaltMap s _) (of_latches _ n _)
      · exact of_same (.withHaltMap s _)
    · exact refuse s _

theorem stationTune (p : StationTuneParams) (s : State) : s.Does (s.stationTuneCommand p).1 := by
  unfold State.stationTuneCommand
  split
  · exact refuse s _
  · split
    · next hr => exact of_map (.tuneStation hr) Iff.rfl
    · exact refuse s _

theorem segmentTune (p : SegmentTuneParams) (s : State) : s.Does (s.segmentTuneCommand p).1 := by
  unfold State.segmentTuneCommand
  split
  · exact refuse s _
  · next g _ =>
    split
    · next r hr =>
      show s.Does (s.tuneSegment g r)
      unfold State.tuneSegment
      split
      · exact (of_map (.tuneSegment hr) Iff.rfl).before (.raiseRoomEvent _ _)
      · exact of_map (.tuneSegment hr) Iff.rfl
    · exact refuse s _

theorem stop (s : State) : s.Does s.stopCommand.1 := by
  unfold State.stopCommand
  split
  · exact refuse s _
  · next hd =>
    split
    · exact refuse s _
    · next hl => exact of_map (.stop (not_not.mp hd) (Bool.not_eq_true _ ▸ hl)) ⟨nofun, fun h => by rw [not_not.mp hd] at h; cases h⟩

theorem resetTracking (s : State) : s.Does s.resetTrackingCommand.1 := by
  unfold State.resetTrackingCommand
  split
  · exact refuse s _
  · next hd =>
    split
    · exact refuse s _
    · next hz => exact of_mild (.resetTracking (not_not.mp hd) (Bool.not_eq_true _ ▸ hz)) (.resetTracking s)

/-! ### The Route Store -/

theorem decisionWrite (i n : Byte) (places : List EntryPlace) (s : State) :
    s.Does (s.decisionWriteCommand i n places).1 := by
  unfold State.decisionWriteCommand
  split
  · next hw =>
    split
    · exact refuse s _
    · next hr => exact of_route (.writeSet hw (Nat.eq_zero_of_not_pos hr))
  · exact refuse s _

/-- DECISION_WRITE, with eight places or not (R187). -/
theorem decisionWriteFrame (i n : Byte) (places : List EntryPlace) (s : State) :
    s.Does (if places.length = Config.entryPlaces then s.decisionWriteCommand i n places
      else Machine.refuse s .frameError).1 := by
  split
  · exact decisionWrite i n places s
  · exact refuse s _

theorem routeOpen (q : Byte) (s : State) : s.Does (s.routeOpenCommand q).1 := by
  unfold State.routeOpenCommand
  split
  · exact refuse s _
  · split
    · next h => exact of_route (.openSlot h)
    · exact refuse s _

theorem routeDiscard (q : Byte) (s : State) : s.Does (s.routeDiscardCommand q).1 := by
  unfold State.routeDiscardCommand
  split
  · exact refuse s _
  · split
    · next h => exact of_route (.discard h)
    · exact refuse s _

end State.Does

theorem SlotState.eq_draft_of_draft? {x : SlotState} {p : Program} (h : x.draft? = some p) : x = .draft p := by
  cases x <;> cases h; rfl

/-- A program that ROUTE_PARAMS writes keeps its ranges (R116). -/
theorem paramsWritten?_inRange {p : RouteParamsParams} {x y : Program} (h : paramsWritten? p x = some y) :
    y.InRange := by
  have below : ∀ {n : Nat} {b : Byte} {k : Option StageNo}, stageBelow? n b = some k → ∀ j, k = some j → j.val < n := by
    intro n b k hk j hj
    obtain ⟨-, hall⟩ := Option.filter_eq_some_iff.mp hk
    subst hj; simpa using hall
  unfold paramsWritten? at h
  split at h
  · cases h
  · next hn =>
    simp only [Option.bind_eq_bind, Option.bind_eq_some_iff, Option.pure_def, Option.some.injEq] at h
    obtain ⟨base, hb, last, hx, rfl⟩ := h
    simp only [not_or, not_lt] at hn
    obtain ⟨h1, h2, h3⟩ := hn
    have h1' : p.stageCount.toNat ≠ 0 := fun e => h1 (BitVec.eq_of_toNat_eq e)
    have h3' : p.lapLimit.toNat ≠ 0 := fun e => h3 (BitVec.eq_of_toNat_eq e)
    exact ⟨Nat.pos_of_ne_zero h1', h2, Nat.pos_of_ne_zero h3', Nat.le_of_lt_succ p.lapLimit.isLt, below hb, below hx⟩

namespace State.Does

variable {s t : State}

theorem routeStage (p : RouteStageParams) (s : State) : s.Does (s.routeStageCommand p).1 := by
  unfold State.routeStageCommand
  split
  · split
    · next h => exact of_route (.writeDraft (SlotState.eq_draft_of_draft? h) id)
    · exact refuse s _
  · exact refuse s _

theorem routeParams (p : RouteParamsParams) (s : State) : s.Does (s.routeParamsCommand p).1 := by
  unfold State.routeParamsCommand
  split
  · split
    · next h =>
      obtain ⟨x, hx, hp⟩ := Option.bind_eq_some_iff.mp h
      exact of_route (.writeDraft (SlotState.eq_draft_of_draft? hx) fun _ => paramsWritten?_inRange hp)
    · exact refuse s _
  · exact refuse s _

theorem routeActivate (q : Byte) (s : State) : s.Does (s.routeActivateCommand q).1 := by
  unfold State.routeActivateCommand
  split
  · exact refuse s _
  · split
    · exact refuse s _
    · next h =>
      split
      · exact of_same (.refl s)
      · next ha => exact of_route (.activate (SlotState.eq_draft_of_draft? h) ha)

theorem routeWithdraw (q : Byte) (s : State) : s.Does (s.routeWithdrawCommand q).1 := by
  unfold State.routeWithdrawCommand
  split
  · exact refuse s _
  · split
    · next h =>
      split
      · exact refuse s _
      · next hc =>
        have hc := Bool.not_eq_true _ ▸ hc
        split
        · next hb => exact of_route (.withdraw h hc hb)
        · next hb => exact of_route (.drain h hc hb)
    · exact refuse s _

theorem classBind (c q : Byte) (s : State) : s.Does (s.classBindCommand c q).1 := by
  unfold State.classBindCommand
  split
  · split
    · next ha =>
      refine of_route (.bindClass _ fun q hq => ?_)
      subst hq; exact ha
    · exact refuse s _
  · exact refuse s _

/-! ### Outlets and counts -/

theorem outletClose (b : Byte) (s : State) : s.Does (s.outletCloseCommand b).1 := by
  unfold State.outletCloseCommand
  split
  · exact refuse s _
  · exact of_same (.withOutlet s _ fun h => h)

theorem outletOpen (b : Byte) (s : State) : s.Does (s.outletOpenCommand b).1 := by
  unfold State.outletOpenCommand
  split
  · exact refuse s _
  · next k _ =>
    exact of_same ((Aside.withOutlet s k (a := { s.outlet k with closed := false }) fun h => h).trans (.raiseEntryEvent _ k))

theorem outletEmptied (b : Byte) (s : State) : s.Does (s.outletEmptiedCommand b).1 := by
  unfold State.outletEmptiedCommand
  split
  · exact refuse s _
  · next k _ => exact of_same ((Aside.withOutlet s k OutletAccount.Sound.emptied).trans (.raiseEntryEvent _ k))

theorem outletSet (p : OutletSetParams) (s : State) : s.Does (s.outletSetCommand p).1 := by
  unfold State.outletSetCommand
  split
  · exact refuse s _
  · split
    · next ha => exact of_same (.withOutlet s _ fun h => h.written ha _)
    · exact refuse s _

theorem readUntracked (b c : Byte) (s : State) : s.Does (s.readUntrackedCommand b c).1 := by
  unfold State.readUntrackedCommand
  split
  · exact refuse s _
  · split
    · exact refuse s _
    · next clear _ =>
      cases clear
      · exact accept s _
      · exact of_same (.withUntracked s _ (Nat.zero_le _))

theorem setAttnMask (m : Byte) (s : State) : s.Does (s.setAttnMaskCommand m).1 := by
  unfold State.setAttnMaskCommand
  split
  · exact refuse s _
  · exact of_same (.withMask s _)

/-! ### Carriers -/

theorem induct (p : InductParams) (s : State) : s.Does (s.inductCommand p).1 := by
  unfold State.inductCommand
  split
  · exact refuse s _
  · next hd =>
    split
    · split
      · exact refuse s _
      · next ht =>
        split
        · exact refuse s _
        · split
          · next hq hf =>
            split
            · next hr =>
              refine of_inside (.induct _ (not_not.mp hd) ?_ hq ?_ hr) (.induct s _ _ _ _ _)
              · by_cases h0 : p.tag = 0
                · exact .inl h0
                · exact .inr (by simpa using fun hs => ht ⟨h0, hs⟩)
              · have hl := (Table.first?_some _ _ hf).1
                simpa [CarrierRecord.live, State.record] using hl
            · exact refuse s _
          · exact refuse s _
          · exact refuse s _
    · exact refuse s _

theorem query (ref : CarrierRef) (s : State) : s.Does (s.queryCommand ref).1 := by
  unfold State.queryCommand; split
  · exact refuse s _
  · exact refuse s _
  · exact accept s _

theorem lookupTag (t : Tag) (s : State) : s.Does (s.lookupTagCommand t).1 := by
  unfold State.lookupTagCommand; split
  · exact refuse s _
  · split
    · exact accept s _
    · exact accept s _

theorem retire (ref : CarrierRef) (s : State) : s.Does (s.retireCommand ref).1 := by
  unfold State.retireCommand; split
  · exact refuse s _
  · exact refuse s _
  · split
    · next hs => exact of_inside (.retire hs) (.freeRecord s _)
    · exact refuse s _

theorem reroute (ref : CarrierRef) (b : Byte) (s : State) : s.Does (s.rerouteCommand ref b).1 := by
  unfold State.rerouteCommand; split
  · exact refuse s _
  · exact refuse s _
  · exact refuse s _
  · next q c _ _ =>
    have now : (s.record c).state.queued = true → s.Does
        (if (s.slotOf q).state.isActive then Machine.accept (s.rerouteNow c q) (s.carrierBytes c ++ [0])
          else Machine.refuse s .routeUnavailable).1 := fun hs => by
      split
      · next hq => exact of_inside (.rerouteNow hs hq) (.rerouteNow s c q)
      · exact refuse s _
    have later : (s.record c).state.inCustody = true → s.Does
        (if (s.slotOf q).state.isActive then Machine.accept (s.rerouteLater c q) (s.carrierBytes c ++ [1])
          else Machine.refuse s .routeUnavailable).1 := fun hs => by
      split
      · next hq => exact of_inside (.rerouteLater hs hq) (.rerouteLater s c q)
      · exact refuse s _
    cases hs : (s.record c).state with
    | free | lost | delivered => exact refuse s _
    | staged | inTransit => exact now (by rw [hs]; rfl)
    | atStation | held => exact later (by rw [hs]; rfl)

theorem purge (b : Byte) (s : State) : s.Does (s.purgeCommand b).1 := by
  unfold State.purgeCommand; split
  · exact refuse s _
  · next hd =>
    split
    · exact refuse s _
    · split
      · exact refuse s _
      · split
        · exact refuse s _
        · exact of_inside (.purge _ (not_not.mp hd)) (.purge s _)

theorem expireHead (g : Segment) (s : State) : s.Does (s.expireHead g) := by
  unfold State.expireHead; split
  · next hx => exact (of_inside (.expire hx) ((State.Inside.withTracker s _).trans (.makeLost _ _ _))).before (.raiseRoomEvent _ _)
  · exact of_same (.refl s)

/-! ### Custody -/

theorem release (b : Byte) (s : State) : s.Does (s.releaseCommand b).1 := by
  unfold State.releaseCommand; split
  · exact refuse s _
  · split
    · exact refuse s _
    · split
      · exact refuse s _
      · split
        · exact refuse s _
        · exact refuse s _
        · next h =>
          exact of_keeps (.redecide h)
            (.redecide (State.serves_of_occupant (by rw [h]; rfl) (by rw [h]; rfl)) _)
        · exact refuse s _

theorem clearJam (b e : Byte) (s : State) : s.Does (s.clearJamCommand b e).1 := by
  unfold State.clearJamCommand; split
  · exact refuse s _
  · next hd =>
    have hd := not_not.mp hd
    split
    · exact refuse s _
    · next k _ =>
      split
      · exact refuse s _
      · next hn =>
        have hc : s.configured k = true := by
          by_contra hc; exact hn (.inl hc)
        split
        · exact refuse s _
        · next c d hj =>
          split
          · exact of_keeps (.removeJam k c d hd hj)
              (.removeJammed (State.serves_of_occupant (by rw [hj]; rfl) (by rw [hj]; rfl)) c d)
          · exact of_keeps (.clear k c e hc hd (by rw [hj]; rfl) (by rw [hj]; rfl))
              (.clearOccupant (State.serves_of_occupant (by rw [hj]; rfl) (by rw [hj]; rfl)) c e)
        · exact refuse s _

theorem grant (g : Segment) (s : State) : s.Does (s.grant g) := by
  unfold State.grant; split
  · exact after (.withRoomEvents s _) (of_keeps (.grant g _ _) (.grantRounds g _ _ _))
  · exact of_same (.refl s)

theorem expireDwell (k : Station) (s : State) : s.Does (s.expireDwell k) := by
  unfold State.expireDwell; split
  · next h =>
    split
    · exact of_same (.refl s)
    · exact of_keeps (.redecide h) (.redecide (State.serves_of_occupant (by rw [h]; rfl) (by rw [h]; rfl)) _)
  · exact of_same (.refl s)

theorem expireOccupancy (k : Station) (s : State) : s.Does (s.expireOccupancy k) := by
  unfold State.expireOccupancy; split
  · next h =>
    split
    · exact of_same (.refl s)
    · exact of_mild (.jam h) (.of_eq Iff.rfl rfl rfl rfl rfl rfl)
  · exact of_same (.refl s)

/-! ### Zones -/

theorem halt (b : Byte) (s : State) : s.Does (s.haltCommand b).1 := by
  unfold State.haltCommand; split
  · exact refuse s _
  · exact of_causes s _ _

theorem resume (b : Byte) (s : State) : s.Does (s.resumeCommand b).1 := by
  unfold State.resumeCommand; split
  · exact refuse s _
  · split
    · exact of_same (.refl s)
    · exact of_causes s _ _

theorem takeAssertion (n : HaltLine) (s : State) : s.Does (s.takeAssertion n) := by
  unfold State.takeAssertion; split
  · exact after (.withLevel s _ _) (of_latches _ n _)
  · exact of_same (.refl s)

theorem takeDeassertion (n : HaltLine) (s : State) : s.Does (s.takeDeassertion n) := by
  unfold State.takeDeassertion; split
  · exact of_same (.withLevel s _ _)
  · exact of_same (.refl s)

/-! ### The Station Link -/

theorem sendPoll (s : State) : s.Does s.sendPoll := by
  unfold State.sendPoll; split
  · exact of_same (.withLink s fun _ => id)
  · exact of_same (.refl s)

theorem closeWindow (s : State) : s.Does s.closeWindow := by
  unfold State.closeWindow; split
  · exact of_same (Aside.trans (t := s.endTransaction) (.withLink s fun _ => id) (.withLinkOf _ _ fun h => h.missed))
  · exact of_same (.refl s)

theorem takeArrival {k : Station} (hc : s.configured k = true) (hd : s.map.device = .running) (seq port : Byte) (t : Tag) :
    s.Does (s.takeArrival k seq port t).1 := by
  unfold State.takeArrival; split
  · next hi => exact of_keeps (.arrival k port t seq hc hd hi) (.resolveArrival hc hi port t seq)
  · exact of_same (.refl s)
  · exact of_same (.refl s)

theorem takeClear {k : Station} (hc : s.configured k = true) (hd : s.map.device = .running) (e : Byte) :
    s.Does (s.takeClear k e).1 := by
  unfold State.takeClear
  cases hk : s.custodyOf k with
  | idle | halted => exact of_same (.refl s)
  | occupied c | heldDwell c | heldBlocked c | jammed c =>
    exact of_keeps (.clear k c e hc hd (by rw [hk]; rfl) (by rw [hk]; rfl))
      (.clearOccupant (State.serves_of_occupant (by rw [hk]; rfl) (by rw [hk]; rfl)) c e)

theorem handOnReport {k : Station} (hc : s.configured k = true) (seq : Byte) (r : Report) :
    s.Does (s.handOnReport k seq r).1 := by
  unfold State.handOnReport; split
  · exact of_same (.refl s)
  · next hd =>
    cases r with
    | arrival port t => exact takeArrival hc (not_not.mp hd) seq port t
    | clear e => exact takeClear hc (not_not.mp hd) e

theorem takeReport (s : State) (k : Station) (seq : Byte) (r : Report) : s.Does (s.takeReport k seq r) := by
  unfold State.takeReport; split
  · exact of_same (.acknowledge s _ _)
  · next hc =>
    have fresh : s.Does ((s.handOnReport k seq r).1.acknowledge k ⟨seq, (s.handOnReport k seq r).2⟩) :=
      (handOnReport (not_not.mp hc) seq r).before (.acknowledge _ k _)
    cases (s.linkOf k).accepted with
    | none => exact fresh
    | some a =>
      simp only
      split
      · exact of_same (.withLinkOf s _ fun h => h.duplicate a)
      · exact fresh

theorem takeAnswer (head : AnswerHead) (report : Option (Byte × Report)) (s : State) :
    s.Does (s.takeAnswer head report) := by
  unfold State.takeAnswer; split
  · exact of_same (.refl s)
  · cases report with
    | none => exact of_same (.beginAnswer s _ _)
    | some x => exact after (.beginAnswer s _ _) (takeReport _ _ _ _)

theorem receiveFrame (bytes : List Byte) (s : State) : s.Does (s.receiveFrame bytes) := by
  unfold State.receiveFrame; split
  · exact takeAnswer _ _ s
  · exact takeAnswer _ _ s
  · exact takeAnswer _ _ s
  · exact of_same (.refl s)

/-! ### Reads -/

theorem stationRead (b : Byte) (s : State) : s.Does (s.stationReadCommand b).1 := by
  unfold State.stationReadCommand; split
  · exact refuse s _
  · exact accept s _

theorem segmentRead (b : Byte) (s : State) : s.Does (s.segmentReadCommand b).1 := by
  unfold State.segmentReadCommand; split
  · exact refuse s _
  · exact accept s _

theorem segmentList (b k : Byte) (s : State) : s.Does (s.segmentListCommand b k).1 := by
  unfold State.segmentListCommand; split
  · exact refuse s _
  · split
    · exact refuse s _
    · exact accept s _

theorem decisionRead (b : Byte) (s : State) : s.Does (s.decisionReadCommand b).1 := by
  unfold State.decisionReadCommand; split
  · exact refuse s _
  · exact accept s _

theorem routeRead (b : Byte) (s : State) : s.Does (s.routeReadCommand b).1 := by
  unfold State.routeReadCommand; split
  · exact refuse s _
  · exact accept s _

end State.Does

/-- What taking an instruction as a host command is: an immediate command, whose block does one event; a long operation; or
nothing. -/
inductive HostCommand (i : Instr) : Prop
  | command {code : Byte} {len : Nat} {block : State → State × Reply} (hb : ∀ u : State, u.Does (block u).1)
      (hi : ∀ s, runHostCommand i s = hostCommand code len block s := by intro; rfl) : HostCommand i
  | start (hi : ∀ s, runHostCommand i s = longCommand 0x01 0 State.startCommand s := by intro; rfl) : HostCommand i
  | findException (h : BitVec 16)
      (hi : ∀ s, runHostCommand i s = longCommand 0x35 2 (·.findExceptionCommand h) s := by intro; rfl) : HostCommand i
  | event (hi : ∀ s, runHostCommand i s = .next s) (hb : commandBytes i = none) : HostCommand i

open State.Does in
theorem hostCommand_of (i : Instr) : HostCommand i := by
  cases i with
  | start => exact .start
  | findException h => exact .findException h
  | stop => exact .command stop
  | resetTracking => exact .command resetTracking
  | status => exact .command (block := State.statusCommand) fun u => State.Does.accept u _
  | setAttnMask m => exact .command (setAttnMask m)
  | readTime => exact .command (block := State.readTimeCommand) fun u => State.Does.accept u _
  | stationSet p => exact .command (stationSet p)
  | segmentSet p => exact .command (segmentSet p)
  | zoneSet z p => exact .command (zoneSet z p)
  | haltMap l m => exact .command (haltMap l m)
  | stationTune p => exact .command (stationTune p)
  | segmentTune p => exact .command (segmentTune p)
  | outletSet p => exact .command (outletSet p)
  | stationRead b => exact .command (stationRead b)
  | segmentRead b => exact .command (segmentRead b)
  | segmentList b k => exact .command (segmentList b k)
  | decisionWrite d n places => exact .command (decisionWriteFrame d n places)
  | decisionRead d => exact .command (decisionRead d)
  | routeOpen q => exact .command (routeOpen q)
  | routeStage p => exact .command (routeStage p)
  | routeParams p => exact .command (routeParams p)
  | routeActivate q => exact .command (routeActivate q)
  | routeWithdraw q => exact .command (routeWithdraw q)
  | routeDiscard q => exact .command (routeDiscard q)
  | routeRead q => exact .command (routeRead q)
  | classBind c q => exact .command (classBind c q)
  | induct p => exact .command (induct p)
  | query ref => exact .command (query ref)
  | lookupTag t => exact .command (lookupTag t)
  | reroute ref q => exact .command (reroute ref q)
  | retire ref => exact .command (retire ref)
  | halt z => exact .command (halt z)
  | resume z => exact .command (resume z)
  | purgeSegment g => exact .command (purge g)
  | release b => exact .command (release b)
  | clearJam b e => exact .command (clearJam b e)
  | outletClose b => exact .command (outletClose b)
  | outletOpen b => exact .command (outletOpen b)
  | outletEmptied b => exact .command (outletEmptied b)
  | readUntracked b c => exact .command (readUntracked b c)
  | _ => exact .event (fun _ => rfl) rfl

namespace State.Steps

variable {s t : State}

/-! ### Long operations and the port -/

theorem start (s : State) : s.Steps s.startCommand.1 := by
  unfold State.startCommand
  split
  · next hd => exact (of_event (.ofMap (.beginValidation hd))).before (.withPort _ _)
  · exact of_same (.refl s)

theorem completeValidation (s : State) : s.Steps s.completeValidation := by
  unfold State.completeValidation
  split
  · next hd =>
    split
    · next hv => exact (of_event (.ofMap (.passValidation hd hv))).before (.withPort _ _)
    · exact (of_event (.ofMap (.failValidation hd))).before (.withPort _ _)
  · exact of_same (.refl s)

theorem findException (h : BitVec 16) (s : State) : s.Steps (s.findExceptionCommand h).1 := by
  unfold State.findExceptionCommand; split
  · exact of_same (.refl s)
  · exact of_same (.withPort s _)

theorem examine (s : State) : s.Steps s.examine := by
  unfold State.examine; split
  · split
    · exact of_same (.withPort s _)
    · split
      · exact of_same (.withPort s _)
      · exact of_same (.withPort s _)
  · exact of_same (.refl s)

theorem hostCommand {code : Byte} {len : Nat} {block : State → State × Reply} (hb : ∀ u : State, u.Does (block u).1)
    (h : hostCommand code len block s = .next t) : s.Steps t := by
  cases hk : s.takesCommand
  · rw [hostCommand_dropped hk] at h; cases h; exact of_same (.withPort s _)
  · rw [hostCommand_taken hk] at h; cases h
    exact after (.withPort s _) ((hb _).steps.before (.withPort _ _))

theorem longCommand {code : Byte} {len : Nat} {block : State → State × Option Reply}
    (hb : ∀ u : State, u.Steps (block u).1) (h : longCommand code len block s = .next t) : s.Steps t := by
  cases hk : s.takesCommand
  · rw [longCommand_dropped hk] at h; cases h; exact of_same (.withPort s _)
  · have hu := hb (s.shiftFill (len + 3))
    rcases hr : block (s.shiftFill (len + 3)) with ⟨v, _ | r⟩ <;> rw [hr] at hu
    · rw [longCommand_begun hk code len hr] at h; cases h; exact after (.withPort s _) hu
    · rw [longCommand_refused hk code len hr] at h; cases h
      exact after (.withPort s _) (hu.before (.withPort _ _))

/-- A host command, as its frame or as a command of the table. -/
theorem runHostCommand (i : Instr) (h : runHostCommand i s = .next t) : s.Steps t := by
  cases hostCommand_of i with
  | command hb hi => exact hostCommand hb (hi s ▸ h)
  | start hi => exact longCommand start (hi s ▸ h)
  | findException k hi => exact longCommand (findException k) (hi s ▸ h)
  | event hi _ => rw [hi] at h; cases h; exact of_same (.refl s)

theorem commandFrame (bytes : List Byte) (h : s.commandFrame bytes = .next t) : s.Steps t := by
  simp only [State.commandFrame] at h
  split at h
  · split at h
    · next i _ =>
      cases hr : Machine.runHostCommand i s with
      | next v =>
        rw [hr] at h; cases h
        exact (runHostCommand i hr).before (.withPort _ _)
      | fault r => exact nomatch r
      | refused r => rw [hr] at h; cases h
    · cases h; exact of_same ((SameCore.withPort s _).trans (.withPort _ _))
    · cases h; exact of_same ((SameCore.withPort s _).trans (.withPort _ _))
  · cases h; exact of_same (.withPort s _)

theorem readResponse (bits : Nat) (s : State) : s.Steps (s.readResponse bits) := by
  simp only [State.readResponse]
  split
  · split
    · exact of_same ((SameCore.withPort s _).trans (.withPort _ _))
    · exact of_same (.withPort s _)
  · exact of_same (.withPort s _)

theorem commandTransaction (edge : ScsEdge) (bytes : List Byte) (h : execCommandTransaction edge bytes s = .next t) :
    s.Steps t := by
  cases edge with
  | falls =>
    cases h; unfold State.fallScs; split
    · exact of_same (.withPort s _)
    · exact of_same (.refl s)
    · exact of_same (.refl s)
  | risesEarly => cases h; exact of_same (.withPort s _)
  | rises selector =>
    simp only [execCommandTransaction, State.endScs] at h
    split at h
    · exact commandFrame bytes h
    · split at h
      · cases h; exact readResponse _ s
      · cases h; exact of_same (.withPort s _)

/-- What a command or an event of the line does is one event. -/
theorem exec (i : Instr) (h : exec i s = .next t) : s.Steps t := by
  cases hb : commandBytes i with
  | some x => exact runHostCommand i (exec_eq_runHostCommand hb s ▸ h)
  | none =>
  cases i with
  | powerOn => cases h; exact (of_event .reset).before ⟨rfl, rfl, rfl, rfl, rfl, rfl, rfl, rfl, rfl, rfl, rfl, rfl, rfl⟩
  | readySet => cases h; exact of_same (.withPort s _)
  | haltInputAsserted n => cases h; exact (State.Does.takeAssertion n s).steps
  | haltInputDeasserted n => cases h; exact (State.Does.takeDeassertion n s).steps
  | pollSent => cases h; exact (State.Does.sendPoll s).steps
  | replyWindowClosed => cases h; exact (State.Does.closeWindow s).steps
  | answerDiscarded b => cases h; exact (State.Does.receiveFrame b s).steps
  | answer head => cases h; exact (State.Does.takeAnswer head _ s).steps
  | arrival head seq port tag => cases h; exact (State.Does.takeAnswer head _ s).steps
  | clear head seq e => cases h; exact (State.Does.takeAnswer head _ s).steps
  | roomEventGrant g => cases h; exact (State.Does.grant g s).steps
  | transitExpiry g => cases h; exact (State.Does.expireHead g s).steps
  | dwellExpiry k => cases h; exact (State.Does.expireDwell k s).steps
  | occupancyExpiry k => cases h; exact (State.Does.expireOccupancy k s).steps
  | validationComplete => cases h; exact completeValidation s
  | scanExamine => cases h; exact examine s
  | commandTransaction e b => exact commandTransaction e b h
  | readTransaction n => cases h; exact readResponse n s
  | lineTimeTick x => cases h; exact of_event (.tick x)
  | _ => cases hb

/-- What a step can do: one event, apart from what the laws do not read. -/
theorem step (h : step s = .next t) : s.Steps t := by
  cases hp : s.pending with
  | nil => simp only [Machine.step, hp] at h; cases h; exact of_same (.refl s)
  | cons c rest =>
    simp only [Machine.step, hp] at h
    exact after (.withPending s rest) (exec c h)

end State.Steps

end Sys2Proof.Machine
end

section
/-! The laws of the Carrier Table and the Tag Index (Law 3, R23, R31): what each shared operation does to them, and that
every step keeps them. -/

-- One declaration at a time, which holds the text's memory down.
set_option Elab.async false

namespace Sys2Proof

/-! ### Counting over a table -/

theorem Table.sum_map_set {n : Nat} {α : Type} (t : Table n α) (i : Fin n) (x : α) (f : α → Nat) :
    ((t.set i x).rows.map f).sum + f (t.get i) = (t.rows.map f).sum + f x := by
  have hi : i.val < t.rows.length := by rw [t.full]; exact i.isLt
  have hold : t.rows = t.rows.take i.val ++ t.get i :: t.rows.drop (i.val + 1) := by
    rw [Table.get_eq_getElem, List.getElem_cons_drop hi, List.take_append_drop]
  have hnew : (t.set i x).rows = t.rows.take i.val ++ x :: t.rows.drop (i.val + 1) := by
    show t.rows.set i.val x = _
    rw [List.set_eq_take_append_cons_drop, if_pos hi]
  rw [hnew]
  conv_rhs => rw [hold]
  simp only [List.map_append, List.map_cons, List.sum_append, List.sum_cons]
  omega

theorem Table.countP_set {n : Nat} {α : Type} (t : Table n α) (i : Fin n) (x : α) (p : α → Bool) :
    (t.set i x).rows.countP p + (p (t.get i)).toNat = t.rows.countP p + (p x).toNat := by
  have sum : ∀ l : List α, l.countP p = (l.map fun y => (p y).toNat).sum := fun l => by
    induction l with
    | nil => rfl
    | cons y l ih => rw [List.countP_cons, ih, List.map_cons, List.sum_cons]; cases p y <;> simp <;> omega
  rw [sum, sum]
  exact t.sum_map_set i x _

end Sys2Proof

namespace Sys2Proof.Machine

theorem State.record_modRecord_self (s : State) (c y : Handle) (f : CarrierRecord → CarrierRecord) :
    (s.modRecord c f).record y = if c = y then f (s.record c) else s.record y := by
  rw [State.record_modRecord]
  split
  · next e => rw [e]
  · rfl

/-- The index with the entry of a record's tag removed, where the record has one (R28 step 1). -/
def CarrierRecord.withoutTag (r : CarrierRecord) (index : TagIndex) : TagIndex :=
  match r.tag with
  | some t => TagIndex.remove t index
  | none => index

/-! ### The laws with one carrier in hand -/

/-- The records and the index agree, but for the record of `c`, which may be FREE and not cleared while an event is under
way. -/
structure State.AgreesBut (s : State) (c : Handle) : Prop where
  canonical : TagIndex.canonical s.tags = true
  indexed : ∀ t h, TagIndex.lookup t s.tags = some h ↔ (s.record h).tag = some t
  nonzero : ∀ h, (s.record h).tag ≠ some 0
  counted : s.carriers.exceptionCount = s.carriers.records.rows.countP fun r => r.exception.isSome
  cleared : ∀ h ≠ c, (s.record h).state = .free → s.record h = .free (s.record h).generation

/-- The laws of the Carrier Table and the Tag Index together. -/
def State.RecordLaws (s : State) : Prop := s.FreeLaw ∧ s.TagLaw ∧ s.ExceptionLaw

/-- Of FREE records neither tag nor exception stands, so that live ones need not be told apart. -/
theorem State.RecordLaws.agreesBut {s : State} (h : s.RecordLaws) (c : Handle) : s.AgreesBut c := by
  obtain ⟨hf, ⟨hc, hi, hn⟩, he⟩ := h
  refine ⟨hc, fun t x => (hi t x).trans ⟨And.right, fun ht => ⟨?_, ht⟩⟩, hn, he.trans (List.countP_congr fun r hr => ?_),
    fun x _ => hf x⟩
  · by_contra hl
    have hx : (s.record x).state = .free := by simpa [CarrierRecord.live] using hl
    rw [hf x hx] at ht; cases ht
  · obtain ⟨x, rfl⟩ := (Table.mem_rows _ _).mp hr
    by_cases hx : (s.record x).state = .free
    · have hr : s.carriers.records.get x = .free (s.record x).generation := hf x hx
      rw [hr]; simp [CarrierRecord.free, CarrierRecord.live]
    · have hl : (s.carriers.records.get x).live = true := by
        simpa [CarrierRecord.live, State.record] using hx
      simp [hl]

namespace State.AgreesBut

variable {s t : State} {c : Handle}

/-- With the carrier in hand live, or its record cleared, the laws hold. -/
theorem laws (h : s.AgreesBut c) (hc : (s.record c).state = .free → s.record c = .free (s.record c).generation) :
    s.RecordLaws := by
  have hf : s.FreeLaw := fun x hx => by
    by_cases e : x = c
    · subst e; exact hc hx
    · exact h.cleared x e hx
  have live : ∀ x, (s.record x).state ≠ .free → (s.record x).live = true := fun x hx => by
    simpa [CarrierRecord.live] using hx
  refine ⟨hf, ⟨h.canonical, fun t x => (h.indexed t x).trans ⟨fun ht => ⟨live x fun hx => ?_, ht⟩, And.right⟩, h.nonzero⟩,
    h.counted.trans (List.countP_congr fun r hr => ?_)⟩
  · rw [hf x hx] at ht; cases ht
  · obtain ⟨x, rfl⟩ := (Table.mem_rows _ _).mp hr
    by_cases hx : (s.record x).state = .free
    · have hr : s.carriers.records.get x = .free (s.record x).generation := hf x hx
      rw [hr]; simp [CarrierRecord.free, CarrierRecord.live]
    · have hl : (s.carriers.records.get x).live = true := live x hx
      simp [hl]

theorem congr (h : s.AgreesBut c) (hc : t.carriers = s.carriers) (ht : t.tags = s.tags) : t.AgreesBut c := by
  have hr : t.record = s.record := by funext x; simp only [State.record, hc]
  obtain ⟨h1, h2, h3, h4, h5⟩ := h
  exact ⟨ht ▸ h1, by rw [ht, hr]; exact h2, by rw [hr]; exact h3, by rw [hc]; exact h4, by rw [hr]; exact h5⟩

/-- The record in hand changed, its tag and exception kept. -/
theorem modRecord (h : s.AgreesBut c) (f : CarrierRecord → CarrierRecord)
    (hf : ∀ r, (f r).tag = r.tag ∧ (f r).exception = r.exception) : (s.modRecord c f).AgreesBut c := by
  have htag : ∀ x, ((s.modRecord c f).record x).tag = (s.record x).tag := fun x => by
    rw [State.record_modRecord]; split
    · exact (hf _).1
    · rfl
  refine ⟨h.canonical, fun t x => by rw [htag]; exact h.indexed t x, fun x => by rw [htag]; exact h.nonzero x, ?_,
    fun x hx => ?_⟩
  · have hcount := Table.countP_set s.carriers.records c (f (s.record c)) fun r => r.exception.isSome
    simp only [(hf _).2] at hcount
    exact h.counted.trans (Nat.add_right_cancel hcount).symm
  · rw [State.record_modRecord, if_neg (Ne.symm hx)]; exact h.cleared x hx

/-- The record in hand given another exception, or none, and the exception count with it (R31). -/
theorem setExceptionTo (h : s.AgreesBut c) (x : Option ExceptionKind) (n : Nat)
    (hn : n + (s.record c).exception.isSome.toNat = s.carriers.exceptionCount + x.isSome.toNat) :
    ((s.modRecord c fun r => { r with exception := x }).withExceptionCount n).AgreesBut c := by
  have hrec : ∀ y, ((s.modRecord c fun r => { r with exception := x }).withExceptionCount n).record y
      = if c = y then { s.record y with exception := x } else s.record y := fun y => State.record_modRecord ..
  refine ⟨h.canonical, fun t y => ?_, fun y => ?_, ?_, fun y hy => ?_⟩
  · rw [hrec]; split <;> exact h.indexed t y
  · rw [hrec]; split <;> exact h.nonzero y
  · have counted : ∀ r : CarrierRecord, r.exception = x →
        n = (s.carriers.records.set c r).rows.countP fun r => r.exception.isSome := fun r hr => by
      have hcount := Table.countP_set s.carriers.records c r fun r => r.exception.isSome
      have hcounted := h.counted
      simp only [show s.carriers.records.get c = s.record c from rfl, hr] at hcount
      omega
    exact counted _ rfl
  · rw [hrec, if_neg (Ne.symm hy)]; exact h.cleared y hy

theorem setException (h : s.AgreesBut c) (k : ExceptionKind) : (s.setException c k).AgreesBut c :=
  h.setExceptionTo (some k) _ (by cases hx : (s.record c).exception <;> simp [Option.isSome])

theorem clearException (h : s.AgreesBut c) : (s.clearException c).AgreesBut c := by
  refine h.setExceptionTo none _ ?_
  have hpos : (s.record c).exception.isSome = true → 0 < s.carriers.exceptionCount := fun hx => by
    rw [h.counted, List.countP_pos_iff]
    exact ⟨_, (Table.mem_rows _ _).mpr ⟨c, rfl⟩, hx⟩
  cases hx : (s.record c).exception with
  | none => simp
  | some k => have := hpos (by rw [hx]; rfl); simp; omega

/-- A tag that no record holds given to the record in hand, which held none, and entered in the index (R33). -/
theorem learn (h : s.AgreesBut c) {t : Tag} (ht : t ≠ 0) (hl : TagIndex.lookup t s.tags = none)
    (hn : (s.record c).tag = none) (f : CarrierRecord → CarrierRecord)
    (hf : (f (s.record c)).tag = some t ∧ (f (s.record c)).exception = (s.record c).exception) :
    ((s.modRecord c f).withTags (TagIndex.add t c s.tags)).AgreesBut c := by
  have hrec : ∀ y, ((s.modRecord c f).withTags (TagIndex.add t c s.tags)).record y
      = if c = y then f (s.record c) else s.record y := fun y => by
    rw [← State.record_modRecord_self]; rfl
  refine ⟨TagIndex.canonical_add _ _ _ h.canonical, fun u y => ?_, fun y => ?_, ?_, fun y hy => ?_⟩
  · show TagIndex.lookup u (TagIndex.add t c s.tags) = some y ↔ _
    rw [TagIndex.lookup_add _ _ _ _ h.canonical, hrec]
    by_cases hu : u = t
    · subst hu
      by_cases hy : c = y
      · subst hy; simp [hf]
      · simp only [hy, if_true, if_false, Option.some.injEq, false_iff]
        intro hyt
        rw [(h.indexed u y).mpr hyt] at hl; cases hl
    · by_cases hy : c = y
      · subst hy
        have : TagIndex.lookup u s.tags ≠ some c := fun e => by
          have := (h.indexed u c).mp e; rw [hn] at this; cases this
        simp [hf, hu, this, Ne.symm hu]
      · simp only [hu, hy, if_false]; exact h.indexed u y
  · rw [hrec]; split
    · rw [hf.1]; exact fun e => ht (Option.some.inj e)
    · exact h.nonzero y
  · have hcount := Table.countP_set s.carriers.records c (f (s.record c)) fun r => r.exception.isSome
    simp only [hf.2] at hcount
    exact h.counted.trans (Nat.add_right_cancel hcount).symm
  · rw [hrec, if_neg (Ne.symm hy)]; exact h.cleared y hy

/-- The record in hand loses its tag, and the index the tag's entry (R28 step 1). -/
theorem forget (h : s.AgreesBut c) (f : CarrierRecord → CarrierRecord)
    (hf : (f (s.record c)).tag = none ∧ (f (s.record c)).exception = (s.record c).exception) :
    ((s.modRecord c f).withTags ((s.record c).withoutTag s.tags)).AgreesBut c := by
  have hrec : ∀ y, ∀ x, ((s.modRecord c f).withTags x).record y = if c = y then f (s.record c) else s.record y :=
    fun y _ => by
    rw [← State.record_modRecord_self]; rfl
  have hlook : ∀ u, TagIndex.lookup u ((s.record c).withoutTag s.tags)
      = if (s.record c).tag = some u then none else TagIndex.lookup u s.tags := fun u => by
    cases hc : (s.record c).tag with
    | none => simp [CarrierRecord.withoutTag, hc]
    | some t => simp only [CarrierRecord.withoutTag, hc, TagIndex.lookup_remove, Option.some.injEq, eq_comm]
  refine ⟨?_, fun u y => ?_, fun y => ?_, ?_, fun y hy => ?_⟩
  · show TagIndex.canonical ((s.record c).withoutTag s.tags) = true
    unfold CarrierRecord.withoutTag
    split
    · exact TagIndex.canonical_remove _ _ h.canonical
    · exact h.canonical
  · rw [hrec, State.withTags_tags, hlook]
    by_cases hu : (s.record c).tag = some u
    · have hcu := (h.indexed u c).mpr hu
      by_cases hy : c = y
      · subst hy; simp [hf, hu]
      · simp only [hu, hy, if_true, if_false]
        refine ⟨nofun, fun hyt => ?_⟩
        rw [(h.indexed u y).mpr hyt] at hcu
        exact absurd (Option.some.inj hcu).symm hy
    · by_cases hy : c = y
      · subst hy
        simp only [hu, if_true, if_false, hf.1]
        refine ⟨fun e => absurd ((h.indexed u c).mp e) hu, nofun⟩
      · simp only [hu, hy, if_false]; exact h.indexed u y
  · rw [hrec]; split
    · rw [hf.1]; nofun
    · exact h.nonzero y
  · have hcount := Table.countP_set s.carriers.records c (f (s.record c)) fun r => r.exception.isSome
    simp only [hf.2] at hcount
    exact h.counted.trans (Nat.add_right_cancel hcount).symm
  · rw [hrec, if_neg (Ne.symm hy)]; exact h.cleared y hy

/-! ### The shared operations -/

theorem unbindSlot? (h : s.AgreesBut c) (q : Option Slot) : (s.unbindSlot? q).AgreesBut c := by
  rw [State.unbindSlot?_eq]; exact h.congr rfl rfl

theorem makeLost (h : s.AgreesBut c) (k : ExceptionKind) : (s.makeLost c k).AgreesBut c :=
  (h.modRecord (fun r => { r with state := .lost, location := .nowhere, window := none }) fun _ => ⟨rfl, rfl⟩).setException k

theorem append (h : s.AgreesBut c) (g : Segment) (x : CarrierState) : (s.append g c x).AgreesBut c :=
  (h.modRecord (fun r =>
    { r with state := x, location := .onSegment g, lastSegment := some g, window := some (s.appendWindow g) })
    fun _ => ⟨rfl, rfl⟩).congr rfl rfl

theorem markDecision (h : s.AgreesBut c) (k : Station) (d : Decision) : (s.markDecision k c d).AgreesBut c := by
  have hm := h.modRecord (fun r => { r with flags := { r.flags with missed := r.flags.missed || d.missed } })
    fun _ => ⟨rfl, rfl⟩
  rw [State.markDecision_eq]; exact hm.congr rfl rfl

theorem putInCustody (h : s.AgreesBut c) (k : Station) (x : CarrierState) : (s.putInCustody k c x).AgreesBut c :=
  h.modRecord _ fun _ => ⟨rfl, rfl⟩

theorem directTo (h : s.AgreesBut c) (k : Station) (e : Exit) (kind : DirectiveKind) (a : Option Byte) :
    (s.directTo k c e kind a).AgreesBut c := by
  simp only [State.directTo, State.reserve]
  split <;> exact (h.putInCustody k .atStation).congr rfl rfl

theorem block (h : s.AgreesBut c) (k : Station) (g : Option Segment) : (s.block k c g).AgreesBut c := by
  cases g <;> exact (h.putInCustody k .held).congr rfl rfl

theorem strand (h : s.AgreesBut c) : (s.strand c).AgreesBut c :=
  ((h.unbindSlot? _).modRecord (fun r => { r with route := none, flags := { r.flags with dwelt := false } })
    fun _ => ⟨rfl, rfl⟩).setException _

theorem enterStage (h : s.AgreesBut c) (r : RouteRef) : (s.enterStage c r).AgreesBut c :=
  h.modRecord _ fun _ => ⟨rfl, rfl⟩

theorem takeLoop (h : s.AgreesBut c) (r : RouteRef) (p : Program) : (s.takeLoop c r p).AgreesBut c := by
  unfold State.takeLoop
  split
  · exact h.strand
  · split
    · exact h.strand
    · split
      · exact h.enterStage _
      · have hx := h.modRecord (fun rec => { rec with flags := { rec.flags with exhausted := true } }) fun _ => ⟨rfl, rfl⟩
        split
        · exact hx.enterStage _
        · exact hx.strand

theorem stageTransition (h : s.AgreesBut c) (k : Station) (e : Byte) : (s.stageTransition k e c).AgreesBut c := by
  unfold State.stageTransition
  split
  · exact (h.unbindSlot? _).modRecord _ fun _ => ⟨rfl, rfl⟩
  · exact h
  · split
    · exact h
    · split
      · exact h
      · unfold State.endAction
        split
        · split
          · unfold State.takeAdvance; split
            · exact h.enterStage _
            · exact h
          · exact h
        · split
          · exact h.takeLoop _ _
          · exact h
        · split
          · split
            · exact h.takeLoop _ _
            · exact h
          · exact h

end State.AgreesBut

end Sys2Proof.Machine
end

section
/-! What the events of P1 change, said once for all laws: the Line Map's and the Route Store's own events, a change of a
zone's causes, the outcome of an arrival, and a record freed. -/

-- One declaration at a time, which holds the text's memory down.
set_option Elab.async false

namespace Sys2Proof

theorem Table.rows_eq {n : Nat} {α : Type} (t : Table n α) : t.rows = (List.finRange n).map t.get := by
  apply List.ext_getElem (by simp [t.full])
  intro i h1 h2
  simp [Table.get_eq_getElem]

theorem Table.countP_congr {n : Nat} {α : Type} {t u : Table n α} {p q : α → Bool}
    (h : ∀ i, p (t.get i) = q (u.get i)) : t.rows.countP p = u.rows.countP q := by
  rw [t.rows_eq, u.rows_eq, List.countP_map, List.countP_map]
  exact List.countP_congr fun i _ => by simp [h i]

theorem Table.sum_congr {n : Nat} {α β : Type} {t : Table n α} {u : Table n β} {f : α → Nat} {g : β → Nat}
    (h : ∀ i, f (t.get i) = g (u.get i)) : (t.rows.map f).sum = (u.rows.map g).sum := by
  rw [t.rows_eq, u.rows_eq, List.map_map, List.map_map]
  exact congrArg List.sum (List.map_congr_left fun i _ => h i)

end Sys2Proof

namespace Sys2Proof.Machine

/-! ### The Line Map's and the Route Store's own events -/

theorem MapEvent.frame {s t : State} (h : MapEvent s t) :
    t = { s with map := t.map, custody := t.custody, link := t.link } := by
  cases h <;> rfl

theorem RouteEvent.frame {s t : State} (h : RouteEvent s t) : t = { s with routes := t.routes } := by
  cases h <;> rfl

/-- Only STATION_SET changes custody, and that in SETUP. -/
theorem MapEvent.custody {s t : State} (h : MapEvent s t) (hd : s.map.device ≠ .setup) : t.custody = s.custody := by
  cases h with
  | setStation k hs => exact absurd hs hd
  | _ => rfl

/-! ### A zone's causes (R156, R160, R164) -/

/-- What a custody state says of its occupant, its reservation and its place on a waiter list is the same in both. -/
structure Custody.SameHold (c d : Custody) : Prop where
  occupant : d.occupant? = c.occupant?
  state : d.occupantState = c.occupantState
  exit : d.directedExit? = c.directedExit?
  waits : d.waits = c.waits

theorem Custody.SameHold.refl (c : Custody) : c.SameHold c := ⟨rfl, rfl, rfl, rfl⟩

theorem Custody.SameHold.trans {c d e : Custody} (h : c.SameHold d) (h' : d.SameHold e) : c.SameHold e :=
  ⟨h'.1.trans h.1, h'.2.trans h.2, h'.3.trans h.3, h'.4.trans h.4⟩

theorem Custody.SameHold.save (now : Time) (c : Custody) : c.SameHold (c.save now) := by
  cases c with
  | halted v => exact .refl _
  | _ => exact ⟨rfl, rfl, rfl, rfl⟩

theorem Custody.SameHold.restore (now : Time) (limit : Ticks) (v : SavedCustody) :
    (Custody.halted v).SameHold (v.restore now limit) := by
  cases v <;> exact ⟨rfl, rfl, rfl, rfl⟩

theorem Custody.SameHold.resumed (s : State) (k : Station) (c : Custody) : c.SameHold (s.resumedCustody k c) := by
  cases c with
  | halted v => exact .restore ..
  | _ => exact .refl _

/-- A carrier queued in the zone has its window changed by the segment it is queued on. -/
theorem State.record_mapWindows_some {s : State} {z : Zone} {f : Segment → Option Window → Option Window} {h x : Handle}
    {g : Segment} (hq : (s.zoneQueued z).find? (fun p => p.1 = h) = some (x, g)) :
    (s.mapWindows z f).record h = { s.record h with window := f g (s.record h).window } := by
  simp only [State.mapWindows, State.record, State.withCarriers_carriers, Table.get_mapRows, hq]

theorem State.record_mapWindows_none {s : State} {z : Zone} {f : Segment → Option Window → Option Window} {h : Handle}
    (hq : (s.zoneQueued z).find? (fun p => p.1 = h) = none) : (s.mapWindows z f).record h = s.record h := by
  simp only [State.mapWindows, State.record, State.withCarriers_carriers, Table.get_mapRows, hq]

/-- From `s` to `t` zones enter or leave HALTED: of each record the window alone changes, where there is one, and of each
station whether it is HALTED. -/
structure State.OnlyZones (s t : State) : Prop where
  frame : t = { s with
    carriers := { s.carriers with records := t.carriers.records }, custody := t.custody, zones := t.zones, link := t.link
    tracker := { s.tracker with roomEvents := t.tracker.roomEvents } }
  record : ∀ h, t.record h = { s.record h with window := (t.record h).window }
  window : ∀ h, (s.record h).window = none → (t.record h).window = none
  custody : ∀ k, (s.custodyOf k).SameHold (t.custodyOf k)

namespace State.OnlyZones

variable {s t u : State}

theorem refl (s : State) : s.OnlyZones s := ⟨rfl, fun _ => rfl, fun _ => id, fun _ => .refl _⟩

theorem trans (h : s.OnlyZones t) (h' : t.OnlyZones u) : s.OnlyZones u := by
  refine ⟨by rw [h'.frame, h.frame], fun x => ?_, fun x hx => h'.window x (h.window x hx),
    fun k => (h.custody k).trans (h'.custody k)⟩
  have h1 := h'.record x
  rw [h.record x] at h1
  exact h1

theorem withZones (s : State) (z : ZoneController) : s.OnlyZones (s.withZones z) :=
  ⟨rfl, fun _ => rfl, fun _ => id, fun _ => .refl _⟩

theorem mapWindows (s : State) (z : Zone) (f : Segment → Option Window → Option Window)
    (hf : ∀ g, f g none = none) : s.OnlyZones (s.mapWindows z f) := by
  refine ⟨by simp only [State.mapWindows, State.withCarriers], fun h => ?_, fun h hx => ?_, fun k => ?_⟩
  · cases hq : (s.zoneQueued z).find? fun p => p.1 = h with
    | none => rw [State.record_mapWindows_none hq]
    | some p => rw [State.record_mapWindows_some (g := p.2) hq]
  · cases hq : (s.zoneQueued z).find? fun p => p.1 = h with
    | none => rw [State.record_mapWindows_none hq]; exact hx
    | some p => rw [State.record_mapWindows_some (g := p.2) hq]; simp only [hx, hf]
  · simp only [State.custodyOf, State.mapWindows, State.withCarriers_custody]; exact .refl _

theorem enterHalted (s : State) (z : Zone) : s.OnlyZones (s.enterHalted z) := by
  have custody : ∀ t : State, s.OnlyZones t → s.OnlyZones
      (t.withCustodies (s.custody.mapRows fun st c => if s.inZone z st then c.save s.lineTime else c)) := fun t h => by
    refine ⟨by rw [h.frame]; rfl, h.record, h.window, fun k => ?_⟩
    simp only [State.custodyOf, State.withCustodies_custody, Table.get_mapRows]
    split
    · exact .save ..
    · exact .refl _
  unfold State.enterHalted
  refine custody _ ?_
  split
  · exact mapWindows s z _ fun _ => rfl
  · exact refl s

theorem leaveHalted (s : State) (z : Zone) : s.OnlyZones (s.leaveHalted z) := by
  have rest : ∀ t : State, s.OnlyZones t → ∀ r e, s.OnlyZones
      (((t.withCustodies (s.custody.mapRows fun st c => if s.inZone z st then s.resumedCustody st c else c)).withLink
        { t.link with records := r }).withRoomEvents e) := fun t h r e => by
    refine ⟨by rw [h.frame]; rfl, h.record, h.window, fun k => ?_⟩
    simp only [State.custodyOf, State.withRoomEvents_custody, State.withLink_custody, State.withCustodies_custody,
      Table.get_mapRows]
    split
    · exact .resumed ..
    · exact .refl _
  unfold State.leaveHalted
  refine rest _ ?_ _ _
  cases s.map.policies.get z
  · exact mapWindows s z _ fun _ => rfl
  · exact mapWindows s z _ fun _ => rfl

theorem withCauses (s : State) (z : Zone) (c : HaltCauses) : s.OnlyZones (s.withCauses z c) := by
  simp only [State.withCauses]
  split
  · exact (withZones s _).trans (enterHalted _ z)
  · split
    · exact (withZones s _).trans (leaveHalted _ z)
    · exact withZones s _

end State.OnlyZones

theorem State.OnlyZones.latchMask (s : State) (n : HaltLine) (mask : Byte) : s.OnlyZones (s.latchMask n mask) :=
  State.latchMask_keeps (P := s.OnlyZones) (fun t z c h => h.trans (.withCauses t z c)) n mask (.refl s)

/-! ### The outcome of an arrival (R68 to R79) -/

/-- What an outcome of an arrival says of the carrier it binds. -/
def State.BoundBy (s : State) (g : Option Segment) (t : Tag) (c : Handle) : Binding → Prop
  | .position => s.headOf g = some c
  | .tagMatch => (s.record c).state.queued = true ∧ ∃ x, g = some x ∧ s.position? x c = some 0
  | .tagLearning u => u = t ∧ t ≠ 0 ∧ TagIndex.lookup t s.tags = none ∧ (s.record c).tag = none ∧ s.headOf g = some c
  | .skip j => (s.record c).state.queued = true ∧ ∃ x, g = some x ∧ s.position? x c = some j
  | .extraction => (s.record c).state.queued = true ∧ ∃ x j, g = some x ∧ s.position? x c = some j
  | .lateRecovery => (s.record c).state = .lost
  | .misrouteTake => (s.record c).state.queued = true ∨ (s.record c).state = .lost

/-- What an outcome of an arrival says: of the carrier bound, or of the tag a stranger is given. -/
def State.ResolvedTo (s : State) (g : Option Segment) (t : Tag) : Resolution → Prop
  | .bind c how => s.BoundBy g t c how
  | .stranger tag => ∀ u, tag = some u → u ≠ 0 ∧ TagIndex.lookup u s.tags = none

theorem State.positionPath_resolved (s : State) (g : Option Segment) (t : Tag) : s.ResolvedTo g t (s.positionPath g) := by
  unfold State.positionPath
  split
  · next hh =>
    split
    · exact nofun
    · exact hh
  · exact nofun

theorem State.knownTag_resolved (s : State) (k : Station) (g : Option Segment) (t : Tag) (x : Handle) :
    s.ResolvedTo g t (s.knownTag k g x) := by
  have queued : (s.record x).state.queued = true → s.ResolvedTo g t (match g.bind fun g => s.position? g x with
      | some 0 => .bind x .tagMatch
      | some (j + 1) => if j + 1 ≤ (s.station k).skipLimit then .bind x (.skip (j + 1)) else .bind x .extraction
      | none => .bind x .misrouteTake) := fun hq => by
    split
    · next hp => obtain ⟨y, hy, hj⟩ := Option.bind_eq_some_iff.mp hp; exact ⟨hq, y, hy, hj⟩
    · next hp =>
      obtain ⟨y, hy, hj⟩ := Option.bind_eq_some_iff.mp hp
      split
      · exact ⟨hq, y, hy, hj⟩
      · exact ⟨hq, y, _, hy, hj⟩
    · exact .inl hq
  unfold State.knownTag
  cases hs : (s.record x).state with
  | staged | inTransit => exact queued (by rw [hs]; rfl)
  | lost =>
    simp only
    split
    · exact hs
    · exact .inr hs
  | atStation | held | delivered | free => exact nofun

theorem State.unknownTag_resolved (s : State) (g : Option Segment) {t : Tag} (h0 : t ≠ 0)
    (hl : TagIndex.lookup t s.tags = none) : s.ResolvedTo g t (s.unknownTag g t) := by
  have stranger : s.ResolvedTo g t (.stranger (some t)) := fun u hu => by cases hu; exact ⟨h0, hl⟩
  unfold State.unknownTag
  split
  · next hh =>
    split
    · next hn => exact ⟨rfl, h0, hl, hn.1, hh⟩
    · exact stranger
  · exact stranger

/-- Every outcome of an arrival says what its path has found. -/
theorem State.resolve_resolved (s : State) (k : Station) (g : Option Segment) (t : Tag) :
    s.ResolvedTo g t (s.resolve k g t) := by
  have tag : t ≠ 0 → s.ResolvedTo g t (s.tagPath k g t) := fun h0 => by
    unfold State.tagPath
    split
    · exact s.knownTag_resolved k g t _
    · next hl => exact s.unknownTag_resolved g h0 hl
  unfold State.resolve
  split
  · exact s.positionPath_resolved g t
  · split
    · exact s.positionPath_resolved g t
    · next h0 => exact tag h0
  · split
    · exact nofun
    · next h0 => exact tag h0

theorem State.resolve_bind {s : State} {k : Station} {g : Option Segment} {t : Tag} {c : Handle} {how : Binding}
    (h : s.resolve k g t = .bind c how) : s.BoundBy g t c how := by
  have := s.resolve_resolved k g t; rwa [h] at this

theorem State.resolve_stranger {s : State} {k : Station} {g : Option Segment} {t u : Tag}
    (h : s.resolve k g t = .stranger (some u)) : u ≠ 0 ∧ TagIndex.lookup u s.tags = none := by
  have := s.resolve_resolved k g t; rw [h] at this; exact this u rfl

/-! ### A record freed (R28) -/

theorem State.extract_eq (s : State) (c : Handle) : s.extract c = { s with tracker := (s.extract c).tracker } := by
  unfold State.extract; split <;> rfl

theorem State.extract_congr {s t : State} (c : Handle) (hr : (t.record c).location = (s.record c).location)
    (ht : t.tracker = s.tracker) : (t.extract c).tracker = (s.extract c).tracker := by
  unfold State.extract
  rw [hr]
  cases (s.record c).location with
  | onSegment g =>
    simp only [State.dequeue, State.raiseRoomEvent, State.withQueue, State.withRoomEvents, State.withTracker_tracker,
      State.queue, ht]
  | _ => exact ht

theorem State.freeRecord_eq (s : State) (c : Handle) :
    s.freeRecord c
      = { s with
          carriers :=
            { records := s.carriers.records.set c (.free ((s.record c).generation + 1))
              exceptionCount := if (s.record c).exception.isSome then s.carriers.exceptionCount - 1
                else s.carriers.exceptionCount }
          tags := (s.record c).withoutTag s.tags
          tracker := if (s.record c).state = .staged then (s.extract c).tracker else s.tracker
          routes := ((s.unbindSlot? ((s.record c).route.map RouteRef.slot)).unbindSlot? (s.record c).pendingRoute).routes } := by
  have steps : s.freeRecord c
      = let u := ((s.withTags ((s.record c).withoutTag s.tags)).unbindSlot? ((s.record c).route.map RouteRef.slot)).unbindSlot?
          (s.record c).pendingRoute
        let v := u.clearException c
        (if (s.record c).state = .staged then v.extract c else v).modRecord c fun r => .free (r.generation + 1) := by
    cases ht : (s.record c).tag <;> simp only [State.freeRecord, CarrierRecord.withoutTag, ht] <;> rfl
  rw [steps]
  generalize (s.record c).withoutTag s.tags = tags
  have h1 := State.unbindSlot?_congr s (s.withTags tags) ((s.record c).route.map RouteRef.slot) rfl
  have h2 := State.unbindSlot?_congr (s.unbindSlot? ((s.record c).route.map RouteRef.slot))
    ((s.withTags tags).unbindSlot? ((s.record c).route.map RouteRef.slot)) (s.record c).pendingRoute h1
  rw [State.unbindSlot?_eq _ (s.record c).pendingRoute, h2, State.unbindSlot?_eq (s.withTags tags)]
  have extracted : ∀ v : State, (v.record c).location = (s.record c).location → v.tracker = s.tracker →
      v.extract c = { v with tracker := (s.extract c).tracker } := fun v hl ht => by
    rw [State.extract_eq v, State.extract_congr c hl ht]
  simp only [State.clearException_eq]
  split
  · rw [extracted, State.modRecord_eq]
    · simp only [State.record, Table.get_set_self, Table.set_set]
      rfl
    · simp only [State.record, Table.get_set_self]
      rfl
    · rfl
  · rw [State.modRecord_eq]
    simp only [State.record, Table.get_set_self, Table.set_set]
    rfl

end Sys2Proof.Machine
end

section
/-! What every law of the carriers' records is kept by, said once: a law that holds with one record in hand, whatever is done
to that record's place, flags and window, is kept by every event of carriers. The laws are instances (Law 3 here, Law 7 and
Law 9 with the Route Store's). -/

-- One declaration at a time, which holds the text's memory down.
set_option Elab.async false

namespace Sys2Proof.Machine

/-- What every event keeps, every step keeps, as far as it reads nothing that the events leave out. -/
theorem State.step_keeps {H P : State → Prop} (hH : ∀ s t : State, s.SameCore t → H s → H t)
    (hP : ∀ s t : State, s.SameCore t → P s → P t) (he : ∀ s t, H s → Event s t → P t) {s t : State} (hs : H s)
    (h : step s = .next t) : P t := by
  obtain ⟨u, v, hu, huv, hv⟩ := State.Steps.step h
  exact hP v t hv (he u v (hH s u hu hs) huv)

@[simp] theorem State.record_unbindSlot? (s : State) (q : Option Slot) (c : Handle) :
    (s.unbindSlot? q).record c = s.record c := by rw [State.unbindSlot?_eq]; rfl

theorem State.state_makeLost (s : State) (c : Handle) (k : ExceptionKind) :
    ((s.makeLost c k).record c).state = .lost := by
  rw [State.makeLost_eq]; simp only [State.record, Table.get_set_self]; rfl

theorem State.state_append (s : State) (g : Segment) (c : Handle) (x : CarrierState) :
    ((s.append g c x).record c).state = x := by
  rw [State.append_eq]; simp only [State.record, Table.get_set_self]

theorem State.state_directTo (s : State) (k : Station) (c : Handle) (e : Exit) (kind : DirectiveKind) (a : Option Byte) :
    ((s.directTo k c e kind a).record c).state = .atStation := by
  have put : ((s.putInCustody k c .atStation).record c).state = .atStation := by
    rw [State.putInCustody, State.record_modRecord, if_pos rfl]
  simp only [State.directTo, State.reserve]
  split <;> exact put

theorem State.state_block (s : State) (k : Station) (c : Handle) (g : Option Segment) :
    ((s.block k c g).record c).state = .held := by
  have put : ((s.putInCustody k c .held).record c).state = .held := by
    rw [State.putInCustody, State.record_modRecord, if_pos rfl]
  cases g <;> exact put

/-- A record's fields that laws of tags, exceptions and routes read are kept. -/
def CarrierRecord.KeptBy (f : CarrierRecord → CarrierRecord) : Prop :=
  ∀ r, (f r).tag = r.tag ∧ (f r).exception = r.exception ∧ (f r).route = r.route ∧ (f r).pendingRoute = r.pendingRoute

/-- The index with a tag, where there is one, entered for a carrier. -/
def TagIndex.enter (tag : Option Tag) (c : Handle) (index : TagIndex) : TagIndex :=
  tag.elim index fun t => TagIndex.add t c index

/-- A law of the records, the Tag Index and the Route Store that holds with the record of one carrier in hand: `B c s` says
that it holds in `s` but for the emptiness of the record of `c`. -/
structure HandLaw (B : Handle → State → Prop) : Prop where
  congr : ∀ {c s t}, B c s → t.carriers = s.carriers → t.tags = s.tags → t.routes = s.routes → B c t
  modRecord : ∀ {c s} {f : CarrierRecord → CarrierRecord}, B c s → CarrierRecord.KeptBy f → B c (s.modRecord c f)
  setException : ∀ {c s} (k : ExceptionKind), B c s → B c (s.setException c k)
  clearException : ∀ {c s}, B c s → B c (s.clearException c)
  learn : ∀ {c s} {t : Tag}, B c s → t ≠ 0 → TagIndex.lookup t s.tags = none → (s.record c).tag = none →
    B c ((s.modRecord c fun r => { r with tag := some t, flags := { r.flags with tagLearned := true } }).withTags
      (TagIndex.add t c s.tags))
  stageTransition : ∀ {c s} (k : Station) (e : Byte), B c s → B c (s.stageTransition k e c)
  dropPending : ∀ {c s}, B c s →
    B c ((s.unbindSlot? (s.record c).pendingRoute).modRecord c fun r => { r with pendingRoute := none })
  settle : ∀ {c s}, B c s → (s.record c).state ≠ .free → ∀ x, B x s
  freed : ∀ {c s}, B c s → ∀ x, B x (s.freeRecord c)
  fill : ∀ {c s} {tag : Option Tag} {f : CarrierRecord → CarrierRecord}, (∀ x, B x s) → (s.record c).state = .free →
    (∀ u, tag = some u → u ≠ 0 ∧ TagIndex.lookup u s.tags = none) →
    (f (s.record c)).tag = tag → (f (s.record c)).exception = none → (f (s.record c)).route = none →
    (f (s.record c)).pendingRoute = none → B c ((s.modRecord c f).withTags (TagIndex.enter tag c s.tags))
  induct : ∀ {c s} {g : Segment} {t : Tag} {cls : Option Class} {q : Slot} {p : Program}, (∀ x, B x s) →
    (s.record c).state = .free → (t = 0 ∨ TagIndex.lookup t s.tags = none) → (s.slotOf q).state = .active p →
    ∀ x, B x (s.induct g c t cls q)
  rerouteNow : ∀ {c s} {q : Slot}, (∀ x, B x s) → (s.record c).state.queued = true → (s.slotOf q).state.isActive = true →
    ∀ x, B x (s.rerouteNow c q)
  rerouteLater : ∀ {c s} {q : Slot}, (∀ x, B x s) → (s.record c).state.inCustody = true →
    (s.slotOf q).state.isActive = true → ∀ x, B x (s.rerouteLater c q)

namespace HandLaw

variable {B : Handle → State → Prop} {s : State} {c : Handle}

/-! ### A carrier's record settled -/

/-- The record in hand after an event that settles it. -/
theorem settle_of_state (hB : HandLaw B) (h : B c s) {y : CarrierState} (hy : (s.record c).state = y) (hn : y ≠ .free)
    (x : Handle) : B x s :=
  hB.settle h (fun hf => hn (hy.symm.trans hf)) x

theorem makeLost (hB : HandLaw B) (h : B c s) (k : ExceptionKind) : B c (s.makeLost c k) :=
  hB.setException k (hB.modRecord (f := fun r => { r with state := .lost, location := .nowhere, window := none }) h
    fun _ => ⟨rfl, rfl, rfl, rfl⟩)

theorem lost (hB : HandLaw B) (h : B c s) (k : ExceptionKind) (x : Handle) : B x (s.makeLost c k) :=
  hB.settle_of_state (hB.makeLost h k) (s.state_makeLost c k) (by decide) x

theorem append (hB : HandLaw B) (h : B c s) (g : Segment) (y : CarrierState) : B c (s.append g c y) :=
  hB.congr (hB.modRecord (f := fun r =>
    { r with state := y, location := .onSegment g, lastSegment := some g, window := some (s.appendWindow g) }) h
    fun _ => ⟨rfl, rfl, rfl, rfl⟩) rfl rfl rfl

theorem appended (hB : HandLaw B) (h : B c s) (g : Segment) {y : CarrierState} (hy : y ≠ .free) (x : Handle) :
    B x (s.append g c y) :=
  hB.settle_of_state (hB.append h g y) (s.state_append g c y) hy x

theorem putInCustody (hB : HandLaw B) (h : B c s) (k : Station) (y : CarrierState) : B c (s.putInCustody k c y) :=
  hB.modRecord h fun _ => ⟨rfl, rfl, rfl, rfl⟩

theorem markDecision (hB : HandLaw B) (h : B c s) (k : Station) (d : Decision) : B c (s.markDecision k c d) := by
  have hm := hB.modRecord (f := fun r => { r with flags := { r.flags with missed := r.flags.missed || d.missed } }) h
    fun _ => ⟨rfl, rfl, rfl, rfl⟩
  rw [State.markDecision_eq]; exact hB.congr hm rfl rfl rfl

theorem directed (hB : HandLaw B) (h : B c s) (k : Station) (e : Exit) (kind : DirectiveKind) (a : Option Byte)
    (x : Handle) : B x (s.directTo k c e kind a) := by
  refine hB.settle_of_state ?_ (s.state_directTo k c e kind a) (by decide) x
  simp only [State.directTo, State.reserve]
  split <;> exact hB.congr (hB.putInCustody h k .atStation) rfl rfl rfl

theorem blocked (hB : HandLaw B) (h : B c s) (k : Station) (g : Option Segment) (x : Handle) : B x (s.block k c g) := by
  refine hB.settle_of_state ?_ (s.state_block k c g) (by decide) x
  cases g <;> exact hB.congr (hB.putInCustody h k .held) rfl rfl rfl

/-- A carrier taken as the occupant (R90 to R93). -/
theorem takeOccupant (hB : HandLaw B) (h : B c s) (k : Station) (seq : Byte) (x : Handle) :
    B x (s.takeOccupant k c seq) := by
  simp only [State.takeOccupant]
  split
  · next ticks _ =>
    have dwelt := hB.modRecord (f := fun r => { r with flags := { r.flags with dwelt := true } })
      (hB.putInCustody h k .held) fun _ => ⟨rfl, rfl, rfl, rfl⟩
    have state : (((s.putInCustody k c .held).modRecord c fun r => { r with flags := { r.flags with dwelt := true } }).record
        c).state = .held := by
      rw [State.record_modRecord, if_pos rfl, State.putInCustody, State.record_modRecord, if_pos rfl]
    exact hB.congr (hB.settle_of_state dwelt state (by decide) x) rfl rfl rfl
  · have marked := hB.markDecision h k (s.decide k c)
    split
    · exact hB.directed marked ..
    · exact hB.congr (hB.blocked marked k _ x) rfl rfl rfl

/-- A held occupant's fresh decision (R98, R99, R101). -/
theorem redecide (hB : HandLaw B) (h : B c s) (k : Station) (x : Handle) : B x (s.redecide k c) := by
  simp only [State.redecide]
  have marked := hB.markDecision h k (s.decide k c)
  split
  · exact hB.directed marked ..
  · exact hB.blocked marked ..

/-- A bound carrier delivered (R149 to R151). -/
theorem deliver (hB : HandLaw B) (h : B c s) (k : Station) (seq : Byte) (x : Handle) : B x (s.deliver k c seq) := by
  have put := hB.modRecord (f := fun r => { r with state := .delivered, location := .atStation k, window := none }) h
    fun _ => ⟨rfl, rfl, rfl, rfl⟩
  have state : ((s.modRecord c fun r => { r with state := .delivered, location := .atStation k, window := none }).record
      c).state = .delivered := by
    rw [State.record_modRecord, if_pos rfl]
  simp only [State.deliver]
  generalize s.modRecord c _ = u at put state
  have counted : B c (u.withOutlet k (u.outlet k).deliver) := hB.congr put rfl rfl rfl
  have state' : ((u.withOutlet k (u.outlet k).deliver).record c).state = .delivered := state
  generalize u.withOutlet k (u.outlet k).deliver = v at counted state'
  have judged : B c (if v.deliveryCorrect k c then v else v.setException c .misdelivered)
      ∧ ((if v.deliveryCorrect k c then v else v.setException c .misdelivered).record c).state = .delivered := by
    split
    · exact ⟨counted, state'⟩
    · refine ⟨hB.setException _ counted, ?_⟩
      rw [State.setException_eq]; simp only [State.record, Table.get_set_self]; exact state'
  generalize (if v.deliveryCorrect k c then v else v.setException c .misdelivered) = w at judged
  split
  · exact hB.congr (hB.freed judged.1 x) rfl rfl rfl
  · exact hB.congr (hB.settle_of_state judged.1 judged.2 (by decide) x) rfl rfl rfl

/-- A clear's carrier appended to the exit's segment, or LOST (R94, R95). -/
theorem leaveBy (hB : HandLaw B) (h : B c s) (g : Option Segment) (x : Handle) : B x (s.leaveBy c g).1 := by
  have lost : ∀ g : Option Segment, B x ((s.modRecord c fun r => { r with lastSegment := g }).makeLost c .lostDeviated) :=
    fun g => hB.lost (hB.modRecord (f := fun r => { r with lastSegment := g }) h fun _ => ⟨rfl, rfl, rfl, rfl⟩) _ x
  cases g with
  | none => exact lost none
  | some y =>
    simp only [State.leaveBy]
    split
    · exact hB.appended h y (by decide) x
    · exact lost (some y)

/-! ### Clears, jams, grants, purges -/

theorem unreserve (hB : HandLaw B) (h : B c s) (g : Option Segment) : B c (s.unreserve g) := by
  cases g with
  | none => exact h
  | some g => exact hB.congr h rfl rfl rfl

theorem releaseHold (hB : HandLaw B) (h : B c s) (k : Station) : B c (s.releaseHold k) := by
  unfold State.releaseHold
  split
  · exact hB.unreserve h _
  · exact hB.unreserve h _
  · exact hB.congr h rfl rfl rfl
  · exact h

theorem clearRoomEvent (hB : HandLaw B) (h : B c s) (d t : Option Segment) (b : Bool) : B c (s.clearRoomEvent d t b) := by
  unfold State.clearRoomEvent
  split
  · split
    · exact h
    · exact hB.congr h rfl rfl rfl
  · exact h

/-- A station left IDLE, its undelivered directive withdrawn. -/
theorem vacated (hB : HandLaw B) (h : B c s) (k : Station) : B c ((s.withCustody k .idle).withdrawDirective k) :=
  hB.congr h rfl rfl rfl

theorem clearOccupant (hB : HandLaw B) (h : B c s) (k : Station) (e : Byte) (x : Handle) : B x (s.clearOccupant k c e) := by
  have held := hB.releaseHold h k
  have left : ∀ u : State, B c u → ∀ g, B x (((u.stageTransition k e c).leaveBy c g).1) :=
    fun u hu g => hB.leaveBy (hB.stageTransition k e hu) g x
  simp only [State.clearOccupant]
  refine hB.clearRoomEvent (hB.vacated (left _ ?_ _) k) _ _ _
  split
  · exact hB.modRecord held fun _ => ⟨rfl, rfl, rfl, rfl⟩
  · exact held

theorem removeJammed (hB : HandLaw B) (h : B c s) (k : Station) (e : Exit) (x : Handle) : B x (s.removeJammed k c e) := by
  have lost : ∀ g, B x ((((s.unreserve g).unbindSlot? ((s.unreserve g).record c).pendingRoute).modRecord c
      fun r => { r with pendingRoute := none }).makeLost c .lostJam) :=
    fun g => hB.lost (hB.dropPending (hB.unreserve h g)) _ x
  simp only [State.removeJammed]
  cases (s.station k).exitSegment e.val with
  | none => exact hB.vacated (lost none) k
  | some g => exact hB.congr (hB.vacated (lost (some g)) k) rfl rfl rfl

theorem wake (hB : HandLaw B) (h : ∀ x, B x s) (g : Segment) (k : Station) (x : Handle) : B x (s.wake g k) := by
  have hw : ∀ x, B x (s.withWaiters g ((s.waiterList g).erase k)) := fun x => hB.congr (h x) rfl rfl rfl
  simp only [State.wake]
  split
  · exact hB.redecide (hw _) k x
  · exact hw x

theorem grantRounds (hB : HandLaw B) (g : Segment) (n : Nat) (woken : List Station) {s : State} (h : ∀ x, B x s) :
    ∀ x, B x (State.grantRounds g n woken s) := by
  induction n generalizing woken s with
  | zero => exact h
  | succ n ih =>
    unfold State.grantRounds
    split
    · split
      · exact ih _ (hB.wake h g _)
      · exact h
    · exact h

theorem foldl_makeLost (hB : HandLaw B) (k : ExceptionKind) (l : List Handle) {s : State} (h : ∀ x, B x s) :
    ∀ x, B x (l.foldl (fun s h => s.makeLost h k) s) := by
  induction l generalizing s with
  | nil => exact h
  | cons c l ih => exact ih (hB.lost (h c) k)

theorem purge (hB : HandLaw B) (h : ∀ x, B x s) (g : Segment) (x : Handle) : B x (s.purge g) := by
  have lost := hB.foldl_makeLost .lostPurged (s.queue g) (s := s.withQueue g []) (fun x => hB.congr (h x) rfl rfl rfl) x
  simp only [State.purge]
  split
  · exact lost
  · exact hB.congr lost rfl rfl rfl

/-! ### Arrivals (R67 to R83) -/

theorem skipTo (hB : HandLaw B) (h : ∀ x, B x s) (g : Segment) (j : Nat) (x : Handle) : B x (s.skipTo g j) :=
  hB.congr (hB.foldl_makeLost .lostSkipped _ (s := s.withQueue g ((s.queue g).drop (j + 1)))
    (fun x => hB.congr (h x) rfl rfl rfl) x) rfl rfl rfl

theorem takeFromEntry (hB : HandLaw B) (h : B c s) (g : Option Segment) : B c (s.takeFromEntry g c) := by
  cases g with
  | none => exact h
  | some g => exact hB.congr h rfl rfl rfl

theorem extract (hB : HandLaw B) (h : B c s) : B c (s.extract c) := by
  rw [State.extract_eq]; exact hB.congr h rfl rfl rfl

theorem mark (hB : HandLaw B) (h : B c s) (f : CarrierFlags → CarrierFlags) : B c (s.mark c f) :=
  hB.modRecord h fun _ => ⟨rfl, rfl, rfl, rfl⟩

theorem markEarly (hB : HandLaw B) (h : B c s) : B c (s.markEarly c) := by
  unfold State.markEarly
  split
  · exact hB.mark h _
  · exact h

/-- What an outcome removes and marks leaves at most the record of the carrier bound unsettled. -/
theorem applyBinding (hB : HandLaw B) (h : ∀ x, B x s) {g : Option Segment} {t : Tag} {how : Binding}
    (hb : s.BoundBy g t c how) : B c (s.applyBinding g c how) := by
  have hc := h c
  cases how with
  | position => exact hB.takeFromEntry hc g
  | tagMatch => exact hB.takeFromEntry (hB.markEarly hc) g
  | tagLearning u =>
    obtain ⟨rfl, h0, hl, hn, -⟩ := hb
    exact hB.takeFromEntry (hB.learn hc h0 hl hn) g
  | skip j =>
    obtain ⟨hq, x, rfl, -⟩ := hb
    have live : ∀ x, B x (s.markEarly c) := hB.settle_of_state (hB.markEarly hc)
      (by rw [State.markEarly_eq, State.record_modRecord, if_pos rfl]) (CarrierState.ne_free_of_queued hq)
    exact hB.skipTo live x j c
  | extraction => exact hB.takeFromEntry (hB.mark (hB.markEarly hc) _) g
  | lateRecovery => exact hB.mark (hB.clearException hc) fun f => { f with late := true }
  | misrouteTake => exact hB.mark (hB.clearException (hB.extract hc)) fun f => { f with misrouted := true }

/-- A bound carrier handed on (R80). -/
theorem handOn (hB : HandLaw B) (h : B c s) (k : Station) (seq : Byte) (x : Handle) : B x (s.handOn k c seq) := by
  unfold State.handOn
  split
  · exact hB.deliver h k seq x
  · exact hB.takeOccupant h k seq x

theorem createStranger (hB : HandLaw B) (h : ∀ x, B x s) {k : Station} {g : Option Segment} {tag : Option Tag}
    (hf : (s.record c).state = .free) (ht : ∀ u, tag = some u → u ≠ 0 ∧ TagIndex.lookup u s.tags = none) (seq : Byte)
    (x : Handle) : B x (s.createStranger k g tag c seq) := by
  have made := hB.setException .stranger
    (hB.fill h hf ht (f := fun r => .stranger r.generation k g tag s.lineTime) rfl rfl rfl rfl)
  simp only [State.createStranger]
  cases tag with
  | some u => exact hB.takeOccupant (hB.congr made rfl rfl rfl) k seq x
  | none => exact hB.takeOccupant (hB.congr made rfl rfl rfl) k seq x

end HandLaw

theorem State.free_of_lowestFree {s : State} {h : Handle} (hl : s.lowestFree = some h) : (s.record h).state = .free := by
  have := (Table.first?_some _ _ hl).1
  simpa [CarrierRecord.live, State.record] using this

namespace HandLaw

variable {B : Handle → State → Prop} {s t : State}

theorem resolveArrival (hB : HandLaw B) (h : ∀ x, B x s) (k : Station) (port : Byte) (t : Tag) (seq : Byte) (x : Handle) :
    B x (s.resolveArrival k port t seq) := by
  simp only [State.resolveArrival]
  generalize (s.station k).entrySegment port.toNat = g
  split
  · next c how hr =>
    have bound := hB.modRecord (f := fun r => { r with
      sighting := some ⟨k, (s.applyBinding g c how).lineTime⟩, lastSegment := g, window := none })
      (hB.applyBinding h (State.resolve_bind hr)) fun _ => ⟨rfl, rfl, rfl, rfl⟩
    exact hB.handOn bound k seq x
  · next tag hr =>
    unfold State.takeStranger
    split
    · exact hB.congr (h x) rfl rfl rfl
    · split
      · next y hy =>
        exact hB.createStranger h (State.free_of_lowestFree hy) (fun u hu => State.resolve_stranger (hu ▸ hr)) seq x
      · exact hB.congr (h x) rfl rfl rfl

/-- What an event does to a law of records: it keeps it, or it is one of the events that are no carrier's: a reset, a change
of the Route Store, or zones entering or leaving HALTED. -/
theorem event_cases (hB : HandLaw B) (h : ∀ x, B x s) (e : Event s t) :
    (∀ x, B x t) ∨ t = State.reset ∨ t = s.resetTracking ∨ RouteEvent s t ∨ s.OnlyZones t := by
  cases e with
  | reset => exact .inr (.inl rfl)
  | resetTracking => exact .inr (.inr (.inl rfl))
  | ofRoute e => exact .inr (.inr (.inr (.inl e)))
  | causes z c => exact .inr (.inr (.inr (.inr (State.OnlyZones.withCauses s z c))))
  | latches n mask => exact .inr (.inr (.inr (.inr (State.OnlyZones.latchMask s n mask))))
  | idle => exact .inl h
  | tick samples => exact .inl fun x => hB.congr (h x) rfl rfl rfl
  | ofMap e => rw [e.frame]; exact .inl fun x => hB.congr (h x) rfl rfl rfl
  | arrival k port t seq => exact .inl (hB.resolveArrival h k port t seq)
  | clear k c e => exact .inl (hB.clearOccupant (h c) k e)
  | removeJam k c e => exact .inl (hB.removeJammed (h c) k e)
  | grant g n woken => exact .inl (hB.grantRounds g n woken h)
  | @redecide k c => exact .inl (hB.redecide (h c) k)
  | jam => exact .inl fun x => hB.congr (h x) rfl rfl rfl
  | @expire g c => exact .inl (hB.lost (s := s.dequeue g c) (hB.congr (h c) rfl rfl rfl) _)
  | purge g => exact .inl (hB.purge h g)
  | induct cls hd ht hq hf => exact .inl (hB.induct h hf ht hq)
  | rerouteNow hs hq => exact .inl (hB.rerouteNow h hs hq)
  | rerouteLater hs hq => exact .inl (hB.rerouteLater h hs hq)
  | retire => exact .inl (hB.freed (h _))

/-- A law of records is kept by every event, once it is kept by the resets, by the Route Store's own events, and as zones
enter and leave HALTED. -/
theorem event (hB : HandLaw B) (reset : ∀ x, B x State.reset)
    (resetTracking : ∀ {s}, (∀ x, B x s) → ∀ x, B x s.resetTracking)
    (ofRoute : ∀ {s t}, RouteEvent s t → (∀ x, B x s) → ∀ x, B x t)
    (ofZones : ∀ {s t}, s.OnlyZones t → (∀ x, B x s) → ∀ x, B x t) (h : ∀ x, B x s) (e : Event s t) : ∀ x, B x t := by
  rcases hB.event_cases h e with kept | rfl | rfl | hr | hz
  · exact kept
  · exact reset
  · exact resetTracking h
  · exact ofRoute hr h
  · exact ofZones hz h

end HandLaw

end Sys2Proof.Machine
end

section
/-! Every step keeps the laws of the Carrier Table and the Tag Index (Law 3, R23, R31). -/

namespace Sys2Proof.Machine

theorem State.RecordLaws.congr {s t : State} (hc : t.carriers = s.carriers) (ht : t.tags = s.tags) (h : s.RecordLaws) :
    t.RecordLaws := by
  have hr : t.record = s.record := by funext x; simp only [State.record, hc]
  simpa only [State.RecordLaws, State.FreeLaw, State.TagLaw, State.ExceptionLaw, hr, hc, ht] using h

/-- Agreement with any one record in hand is the laws. -/
theorem State.recordLaws_iff (s : State) : s.RecordLaws ↔ ∀ c, s.AgreesBut c := by
  refine ⟨fun h c => h.agreesBut c, fun h => (h 0).laws fun hf => ?_⟩
  exact (h 1).cleared 0 (by decide) hf

/-- The record in hand freed: the laws hold again (R28). -/
theorem State.AgreesBut.freed {s : State} {c : Handle} (h : s.AgreesBut c) : (s.freeRecord c).RecordLaws := by
  have hr : (s.clearException c).record c = { s.record c with exception := none } := by
    rw [State.clearException_eq]; simp only [State.record, Table.get_set_self]
  have hf := h.clearException.forget (fun r => .free (r.generation + 1)) (by rw [hr]; exact ⟨rfl, rfl⟩)
  rw [State.freeRecord_eq]
  refine State.AgreesBut.laws (c := c) (hf.congr ?_ ?_) fun _ => ?_
  · rw [State.clearException_eq]
    simp only [State.withTags_carriers, State.modRecord_carriers, Table.modify, Table.get_set_self, Table.set_set]
  · rw [hr]; rfl
  · simp only [State.record, Table.get_set_self]; rfl

/-- A record with FREE's fields given to a new carrier, with a tag that none holds, or no tag (R36, R81). -/
theorem State.RecordLaws.fill {s : State} (h : s.RecordLaws) {c : Handle} (hf : (s.record c).state = .free)
    {tag : Option Tag} (ht : ∀ u, tag = some u → u ≠ 0 ∧ TagIndex.lookup u s.tags = none) {f : CarrierRecord → CarrierRecord}
    (hx : (f (s.record c)).tag = tag ∧ (f (s.record c)).exception = none) :
    ((s.modRecord c f).withTags (TagIndex.enter tag c s.tags)).AgreesBut c := by
  have hrec : s.record c = .free (s.record c).generation := h.1 c hf
  have hc := h.agreesBut c
  have hexc : (s.record c).exception = none := by rw [hrec]; rfl
  have htag : (s.record c).tag = none := by rw [hrec]; rfl
  cases tag with
  | some u => exact hc.learn (ht u rfl).1 (ht u rfl).2 htag f ⟨hx.1, hx.2.trans hexc.symm⟩
  | none =>
    refine (hc.forget f ⟨hx.1, hx.2.trans hexc.symm⟩).congr rfl ?_
    simp only [State.withTags_tags, CarrierRecord.withoutTag, htag, TagIndex.enter, Option.elim]

theorem State.RecordLaws.induct {s : State} (h : s.RecordLaws) {g : Segment} {c : Handle} {t : Tag} (cls : Option Class)
    {q : Slot} (ht : t = 0 ∨ TagIndex.lookup t s.tags = none) (hf : (s.record c).state = .free) :
    (s.induct g c t cls q).RecordLaws := by
  have filled := h.fill hf (tag := if t = 0 then none else some t) (f := fun r =>
      .inducted r.generation (if t = 0 then none else some t) cls q)
    (fun u hu => by
      split at hu
      · cases hu
      · next h0 => cases hu; exact ⟨h0, ht.resolve_left h0⟩) ⟨rfl, rfl⟩
  have appended := (filled.append g .staged).laws fun e => by
    rw [State.state_append] at e; cases e
  simp only [State.induct]
  split
  · next h0 =>
    simp only [h0, if_true] at appended ⊢
    exact appended.congr rfl rfl
  · next h0 =>
    simp only [h0, if_false] at appended ⊢
    exact appended.congr rfl rfl

theorem State.AgreesBut.clearForReroute {s : State} {c : Handle} (h : s.AgreesBut c) :
    (s.clearForReroute c).AgreesBut c := by
  unfold State.clearForReroute
  split
  · exact h.clearException
  · exact h.clearException
  · exact h

/-- A rerouted record is of the state it was in. -/
theorem State.state_rerouted (s : State) (c : Handle) (q : Slot) (x : Option Slot) (r : CarrierRecord) :
    ((s.rerouted c q x r).record c).state = r.state := by
  simp only [State.rerouted, State.record, Table.get_set_self]

theorem State.AgreesBut.rerouted {s : State} {c : Handle} (h : s.AgreesBut c) (q : Slot) (x : Option Slot)
    {f : CarrierRecord → CarrierRecord} (hf : ∀ r, (f r).tag = r.tag ∧ (f r).exception = r.exception)
    (hs : (f (s.record c)).state ≠ .free) : (s.rerouted c q x (f (s.record c))).RecordLaws := by
  refine State.AgreesBut.laws (c := c) ?_ fun e => absurd ((State.state_rerouted ..).symm.trans e) hs
  rw [← State.rerouted_of_steps]
  have bound : (s.bindSlot q).AgreesBut c := h.congr rfl rfl
  exact ((bound.unbindSlot? x).modRecord f hf).clearForReroute

/-- Law 3 and the counts are a law of records. -/
theorem State.AgreesBut.handLaw : HandLaw fun c s => s.AgreesBut c where
  congr h hc ht _ := h.congr hc ht
  modRecord h hf := h.modRecord _ fun r => ⟨(hf r).1, (hf r).2.1⟩
  setException k h := h.setException k
  clearException h := h.clearException
  learn h h0 hl hn := h.learn h0 hl hn _ ⟨rfl, rfl⟩
  stageTransition k e h := h.stageTransition k e
  dropPending h := (h.unbindSlot? _).modRecord _ fun _ => ⟨rfl, rfl⟩
  settle h hs := (State.recordLaws_iff _).mp (h.laws fun e => absurd e hs)
  freed h := (State.recordLaws_iff _).mp h.freed
  fill h hf ht h1 h2 _ _ := ((State.recordLaws_iff _).mpr h).fill hf ht ⟨h1, h2⟩
  induct h hf ht _ := (State.recordLaws_iff _).mp (((State.recordLaws_iff _).mpr h).induct _ ht hf)
  rerouteNow {c s q} h hs _ := by
    rw [State.rerouteNow_eq]
    exact (State.recordLaws_iff _).mp ((h c).rerouted q _ (f := fun r => r.newRoute q) (fun _ => ⟨rfl, rfl⟩)
      (CarrierState.ne_free_of_queued hs))
  rerouteLater {c s q} h hs _ := by
    rw [State.rerouteLater_eq]
    exact (State.recordLaws_iff _).mp ((h c).rerouted q _ (f := fun r => { r with pendingRoute := some q })
      (fun _ => ⟨rfl, rfl⟩) (CarrierState.ne_free_of_inCustody hs))

/-! ### Zones and resets -/

theorem State.OnlyZones.freeLaw {s t : State} (hz : s.OnlyZones t) (h : s.FreeLaw) : t.FreeLaw := fun x hx => by
  have hstate : (s.record x).state = .free := by rw [hz.record x] at hx; exact hx
  have hfree := h x hstate
  have hw := hz.window x (by rw [hfree]; rfl)
  rw [hz.record x, hw, hfree]; rfl

theorem State.OnlyZones.recordLaws {s t : State} (hz : s.OnlyZones t) (h : s.RecordLaws) : t.RecordLaws := by
  obtain ⟨hf, ⟨hc, hi, hn⟩, he⟩ := h
  have hr := hz.record
  have htags : t.tags = s.tags := by rw [hz.frame]
  have hcount : t.carriers.exceptionCount = s.carriers.exceptionCount := by rw [hz.frame]
  refine ⟨hz.freeLaw hf, ⟨htags ▸ hc, fun u x => ?_, fun x => ?_⟩, hcount.trans (he.trans (Table.countP_congr fun x => ?_))⟩
  · rw [htags, hr x]; exact hi u x
  · rw [hr x]; exact hn x
  · have := hr x
    simp only [State.record] at this
    rw [this]; rfl

/-- A tracking reset clears every record (R43). -/
theorem State.FreeLaw.resetTracking {s : State} (h : s.FreeLaw) (x : Handle) : ∃ n, s.resetTracking.record x = .free n := by
  have hrec : s.resetTracking.record x = (s.record x).afterReset := by
    simp only [State.resetTracking, State.record, Table.get_mapRows]
  rw [hrec, CarrierRecord.afterReset]
  split
  · exact ⟨_, rfl⟩
  · next hl => exact ⟨_, h x (by simpa [CarrierRecord.live] using hl)⟩

theorem State.RecordLaws.resetTracking {s : State} (h : s.RecordLaws) : s.resetTracking.RecordLaws := by
  have free := h.1.resetTracking
  refine ⟨fun x _ => ?_, ⟨rfl, fun u x => ?_, fun x => ?_⟩, ?_⟩
  · obtain ⟨n, hn⟩ := free x; rw [hn]; rfl
  · obtain ⟨n, hn⟩ := free x; rw [hn]; exact ⟨nofun, fun e => nomatch e.2⟩
  · obtain ⟨n, hn⟩ := free x; rw [hn]; nofun
  · refine (List.countP_eq_zero.mpr fun r hr => ?_).symm
    obtain ⟨x, rfl⟩ := (Table.mem_rows _ _).mp hr
    obtain ⟨n, hn⟩ := free x
    rw [show s.resetTracking.carriers.records.get x = .free n from hn]
    exact Bool.false_ne_true

theorem State.recordLaws_reset : State.reset.RecordLaws := by
  have free : ∀ x, State.reset.record x = .free 0 := fun x => Table.get_fill _ _
  refine ⟨fun x _ => by rw [free]; rfl, ⟨rfl, fun u x => ?_, fun x => ?_⟩, ?_⟩
  · rw [free]; exact ⟨nofun, fun e => nomatch e.2⟩
  · rw [free]; nofun
  · refine (List.countP_eq_zero.mpr fun r hr => ?_).symm
    obtain ⟨x, rfl⟩ := (Table.mem_rows _ _).mp hr
    rw [show State.reset.carriers.records.get x = .free 0 from free x]
    decide

theorem Event.recordLaws {s t : State} (h : s.RecordLaws) (e : Event s t) : t.RecordLaws := by
  have iff := State.recordLaws_iff
  refine (iff t).mpr (State.AgreesBut.handLaw.event ((iff _).mp State.recordLaws_reset)
    (fun h => (iff _).mp (State.RecordLaws.resetTracking ((iff _).mpr h))) (fun e h => ?_)
    (fun hz h => (iff _).mp (hz.recordLaws ((iff _).mpr h))) ((iff s).mp h) e)
  rw [e.frame]; exact fun x => (h x).congr rfl rfl

theorem State.SameCore.recordLaws {s t : State} (hc : s.SameCore t) (h : s.RecordLaws) : t.RecordLaws :=
  h.congr hc.carriers hc.tags

end Sys2Proof.Machine

open Sys2Proof Sys2Proof.Machine

/-- Settles O57, event by event: with the record of the carrier an event handles set aside, index and counts agree
throughout, and each event leaves that record live or cleared. -/
theorem stepsKeepRecordLaws : Obligations.StepsKeepRecordLaws := fun _ _ hs h =>
  State.step_keeps (H := State.RecordLaws) (P := State.RecordLaws) (fun _ _ hc => hc.recordLaws)
    (fun _ _ hc => hc.recordLaws) (fun _ _ => Event.recordLaws) hs h

end

section
/-! Every step keeps Laws 1, 2 and 12 (R44, R46, R88): each carrier is in exactly the place its record says. An event takes
carriers in hand, out of their places, and puts each in a place of its own again. -/

-- One declaration at a time, which holds the text's memory down.
set_option Elab.async false

namespace Sys2Proof.Machine

/-! ### Carriers in hand -/

/-- While the device runs, every carrier but those of `C` is in the place its record says, and none of `C` is in a queue or at
a station; what station `k` holds is left out of account. -/
structure State.PlacedBut (s : State) (C : List Handle) (k : Option Station) : Prop where
  running : s.map.device = .running
  nodup : ∀ g, (s.queue g).Nodup
  queued : ∀ g, ∀ h ∈ s.queue g, h ∉ C ∧ (s.record h).state.queued = true ∧ (s.record h).location = .onSegment g
  inQueue : ∀ h ∉ C, (s.record h).state.queued = true → ∃ g, h ∈ s.queue g
  occupant : ∀ st x, k ≠ some st → (s.custodyOf st).occupant? = some x →
    x ∉ C ∧ (s.record x).state = (s.custodyOf st).occupantState ∧ (s.record x).location = .atStation st
  inCustody : ∀ x ∉ C, (s.record x).state.inCustody = true → ∃ st, k ≠ some st ∧ (s.custodyOf st).occupant? = some x

theorem State.PlaceLaws.placed {s : State} (h : s.PlaceLaws) (hd : s.map.device = .running) : s.PlacedBut [] none := by
  obtain ⟨⟨hn, hq, hi⟩, ⟨ho, hc⟩, -⟩ := h
  refine ⟨hd, hn, fun g x hx => ⟨List.not_mem_nil, hq g x hx⟩, fun x _ => hi x,
    fun k x _ hx => ⟨List.not_mem_nil, ho k x hx⟩, fun x _ hx => ?_⟩
  obtain ⟨k, hk⟩ := hc x hx
  exact ⟨k, nofun, hk⟩

theorem State.PlacedBut.laws {s : State} (h : s.PlacedBut [] none) : s.PlaceLaws := by
  refine ⟨⟨h.nodup, fun g x hx => (h.queued g x hx).2, fun x => h.inQueue x List.not_mem_nil⟩,
    ⟨fun k x hx => (h.occupant k x nofun hx).2, fun x hx => ?_⟩, fun hd => absurd h.running hd⟩
  obtain ⟨k, -, hk⟩ := h.inCustody x List.not_mem_nil hx
  exact ⟨k, hk⟩

/-- A live carrier's device is RUNNING (Law 12). -/
theorem State.PlaceLaws.running_of_live {s : State} (h : s.PlaceLaws) {c : Handle} (hc : (s.record c).state ≠ .free) :
    s.map.device = .running := by
  by_contra hd
  exact hc (h.2.2 hd c)

theorem Custody.occupantState_inCustody (c : Custody) : c.occupantState.inCustody = true := by
  unfold Custody.occupantState
  split <;> rfl

theorem CarrierState.not_queued_of_inCustody {x : CarrierState} (h : x.inCustody = true) : x.queued = false := by
  cases x with
  | atStation | held => rfl
  | free | staged | inTransit | lost | delivered => cases h

theorem CarrierState.not_inCustody_of_queued {x : CarrierState} (h : x.queued = true) : x.inCustody = false := by
  cases x with
  | staged | inTransit => rfl
  | free | atStation | held | lost | delivered => cases h

theorem CarrierState.not_inCustody_of_retirable {x : CarrierState} (h : x.retirable = true) : x.inCustody = false := by
  cases x with
  | staged | lost | delivered => rfl
  | free | inTransit | atStation | held => cases h

theorem CarrierState.not_queued_of_retirable {x : CarrierState} (h : x.retirable = true) (hx : x ≠ .staged) :
    x.queued = false := by
  cases x with
  | lost | delivered => rfl
  | staged => exact absurd rfl hx
  | free | inTransit | atStation | held => cases h

namespace State.PlacedBut

variable {s t : State} {C : List Handle} {k : Option Station}

/-- The place laws read the device state, the queues, the custody records, and of a record its state and location. -/
theorem congr (h : s.PlacedBut C k) (hd : t.map.device = s.map.device) (hq : t.tracker.queues = s.tracker.queues)
    (hc : t.custody = s.custody)
    (hr : ∀ x ∉ C, (t.record x).state = (s.record x).state ∧ (t.record x).location = (s.record x).location) :
    t.PlacedBut C k := by
  have hqueue : t.queue = s.queue := by funext g; simp only [State.queue, hq]
  have hcust : t.custodyOf = s.custodyOf := by funext g; simp only [State.custodyOf, hc]
  refine ⟨hd.trans h.running, by rw [hqueue]; exact h.nodup, fun g x hx => ?_, fun x hx hs => ?_, fun st x hk hx => ?_,
    fun x hx hs => ?_⟩
  · rw [hqueue] at hx
    obtain ⟨hC, hs, hl⟩ := h.queued g x hx
    exact ⟨hC, by rw [(hr x hC).1]; exact hs, by rw [(hr x hC).2]; exact hl⟩
  · rw [hqueue]; exact h.inQueue x hx (by rw [← (hr x hx).1]; exact hs)
  · rw [hcust] at hx ⊢
    obtain ⟨hC, hs, hl⟩ := h.occupant st x hk hx
    exact ⟨hC, by rw [(hr x hC).1]; exact hs, by rw [(hr x hC).2]; exact hl⟩
  · rw [hcust]; exact h.inCustody x hx (by rw [← (hr x hx).1]; exact hs)

theorem of_same (h : s.PlacedBut C k) (hs : s.SameCore t) : t.PlacedBut C k :=
  h.congr hs.device hs.queues hs.custody fun x _ => by rw [hs.record]; exact ⟨rfl, rfl⟩

theorem modRecord (h : s.PlacedBut C k) {c : Handle} (hc : c ∈ C) (f : CarrierRecord → CarrierRecord) :
    (s.modRecord c f).PlacedBut C k :=
  h.congr rfl rfl rfl fun x hx => by
    rw [State.record_modRecord, if_neg fun e : c = x => hx (e ▸ hc)]; exact ⟨rfl, rfl⟩

theorem modRecord_kept (h : s.PlacedBut C k) (c : Handle) {f : CarrierRecord → CarrierRecord}
    (hf : ∀ r, (f r).state = r.state ∧ (f r).location = r.location) : (s.modRecord c f).PlacedBut C k :=
  h.congr rfl rfl rfl fun x _ => by
    rw [State.record_modRecord]
    split
    · exact hf _
    · exact ⟨rfl, rfl⟩

theorem onRoutes (h : s.PlacedBut C k) (ho : s.OnRoutes t) : t.PlacedBut C k := by
  obtain ⟨frame, same⟩ := ho
  refine h.congr ?_ ?_ ?_ fun x _ => ⟨(same x).1, (same x).2.1⟩ <;> rw [frame]

theorem withReserved (h : s.PlacedBut C k) (g : Segment) (n : Nat) : (s.withReserved g n).PlacedBut C k :=
  h.congr rfl rfl rfl fun _ _ => ⟨rfl, rfl⟩

theorem reserve (h : s.PlacedBut C k) (g : Option Segment) : (s.reserve g).PlacedBut C k := by
  cases g with
  | none => exact h
  | some g => exact h.withReserved g _

theorem unreserve (h : s.PlacedBut C k) (g : Option Segment) : (s.unreserve g).PlacedBut C k := by
  cases g with
  | none => exact h
  | some g => exact h.withReserved g _

theorem withTracker_waiters (h : s.PlacedBut C k) (w : Table Config.segments (List Station)) :
    (s.withTracker { s.tracker with waiters := w }).PlacedBut C k :=
  h.congr rfl rfl rfl fun _ _ => ⟨rfl, rfl⟩

theorem joinWaiters (h : s.PlacedBut C k) (g : Option Segment) (st : Station) : (s.joinWaiters g st).PlacedBut C k := by
  cases g with
  | none => exact h
  | some g => exact h.withTracker_waiters _

theorem setException (h : s.PlacedBut C k) (c : Handle) (x : ExceptionKind) : (s.setException c x).PlacedBut C k :=
  (h.modRecord_kept c (f := fun r => { r with exception := some x }) fun _ => ⟨rfl, rfl⟩).congr rfl rfl rfl
    fun _ _ => ⟨rfl, rfl⟩

theorem clearException (h : s.PlacedBut C k) (c : Handle) : (s.clearException c).PlacedBut C k :=
  (h.modRecord_kept c (f := fun r => { r with exception := none }) fun _ => ⟨rfl, rfl⟩).congr rfl rfl rfl
    fun _ _ => ⟨rfl, rfl⟩

theorem mark (h : s.PlacedBut C k) (c : Handle) (f : CarrierFlags → CarrierFlags) : (s.mark c f).PlacedBut C k :=
  h.modRecord_kept c fun _ => ⟨rfl, rfl⟩

theorem markEarly (h : s.PlacedBut C k) (c : Handle) : (s.markEarly c).PlacedBut C k := by
  unfold State.markEarly
  split
  · exact h.mark c _
  · exact h

theorem markDecision (h : s.PlacedBut C k) (st : Station) (c : Handle) (d : Decision) :
    (s.markDecision st c d).PlacedBut C k := by
  have hm := h.modRecord_kept c (f := fun r => { r with flags := { r.flags with missed := r.flags.missed || d.missed } })
    fun _ => ⟨rfl, rfl⟩
  rw [State.markDecision_eq]; exact hm.congr rfl rfl rfl fun _ _ => ⟨rfl, rfl⟩

/-! ### Taking carriers in hand -/

/-- A carrier in no place taken in hand. -/
theorem take_nowhere (h : s.PlacedBut C k) {c : Handle} (hq : (s.record c).state.queued = false)
    (hc : (s.record c).state.inCustody = false) : s.PlacedBut (c :: C) k := by
  refine ⟨h.running, h.nodup, fun g x hx => ?_, fun x hx => h.inQueue x fun e => hx (.tail _ e), fun st x hk hx => ?_,
    fun x hx => h.inCustody x fun e => hx (.tail _ e)⟩
  · obtain ⟨hC, hs, hl⟩ := h.queued g x hx
    refine ⟨fun e => ?_, hs, hl⟩
    rcases List.mem_cons.mp e with rfl | e
    · rw [hs] at hq; cases hq
    · exact hC e
  · obtain ⟨hC, hs, hl⟩ := h.occupant st x hk hx
    refine ⟨fun e => ?_, hs, hl⟩
    rcases List.mem_cons.mp e with rfl | e
    · rw [hs, Custody.occupantState_inCustody] at hc; cases hc
    · exact hC e

/-- Carriers taken out of a queue, which leaves `rest`. -/
theorem take_queued (h : s.PlacedBut C k) {g : Segment} {out rest : List Handle}
    (hsub : rest.Sublist (s.queue g)) (hsplit : ∀ x, x ∈ s.queue g ↔ x ∈ out ∨ x ∈ rest)
    (hdisj : ∀ x ∈ out, x ∉ rest) : (s.withQueue g rest).PlacedBut (out ++ C) k := by
  have hout : ∀ x ∈ out, x ∈ s.queue g := fun x hx => (hsplit x).mpr (.inl hx)
  have hrest : ∀ x ∈ rest, x ∈ s.queue g := fun x hx => (hsplit x).mpr (.inr hx)
  refine ⟨h.running, fun g' => ?_, fun g' x hx => ?_, fun x hx hs => ?_, fun st x hk hx => ?_,
    fun x hx => h.inCustody x fun e => hx (List.mem_append_right _ e)⟩
  · rw [State.queue_withQueue]
    split
    · exact (h.nodup g).sublist hsub
    · exact h.nodup g'
  · rw [State.queue_withQueue] at hx
    have old : x ∈ s.queue g' := by
      split at hx
      · next e => subst e; exact hrest x hx
      · exact hx
    obtain ⟨hC, hs, hl⟩ := h.queued g' x old
    refine ⟨fun e => ?_, hs, hl⟩
    rcases List.mem_append.mp e with e | e
    · have hg := (h.queued g x (hout x e)).2.2
      rw [hl] at hg
      cases hg
      rw [if_pos rfl] at hx
      exact hdisj x e hx
    · exact hC e
  · obtain ⟨g', hg'⟩ := h.inQueue x (fun e => hx (List.mem_append_right _ e)) hs
    refine ⟨g', ?_⟩
    rw [State.queue_withQueue]
    split
    · next e =>
      subst e
      exact ((hsplit x).mp hg').resolve_left fun e => hx (List.mem_append_left _ e)
    · exact hg'
  · obtain ⟨hC, hs, hl⟩ := h.occupant st x hk hx
    refine ⟨fun e => ?_, hs, hl⟩
    rcases List.mem_append.mp e with e | e
    · have hq := (h.queued g x (hout x e)).2.1
      change (s.record x).state = _ at hs
      rw [hs, CarrierState.not_queued_of_inCustody (Custody.occupantState_inCustody _)] at hq
      cases hq
    · exact hC e

/-- One carrier taken out of its queue. -/
theorem dequeue (h : s.PlacedBut C k) {g : Segment} {c : Handle} (hc : c ∈ s.queue g) :
    (s.dequeue g c).PlacedBut (c :: C) k :=
  h.take_queued (out := [c]) List.erase_sublist
    (fun x => by
      rw [List.mem_singleton, (h.nodup g).mem_erase_iff]
      by_cases e : x = c
      · subst e; simp [hc]
      · simp [e])
    fun x hx => by rw [List.mem_singleton.mp hx, (h.nodup g).mem_erase_iff]; exact fun e => e.1 rfl

/-- A station's occupant taken in hand; what the station holds is left out of account. -/
theorem take_occupant (h : s.PlacedBut C none) {st : Station} {c : Handle}
    (hc : (s.custodyOf st).occupant? = some c) : s.PlacedBut (c :: C) (some st) := by
  obtain ⟨-, hstate, hloc⟩ := h.occupant st c nofun hc
  refine ⟨h.running, h.nodup, fun g x hx => ?_, fun x hx => h.inQueue x fun e => hx (.tail _ e), fun st' x hk hx => ?_,
    fun x hx hs => ?_⟩
  · obtain ⟨hC, hs, hl⟩ := h.queued g x hx
    refine ⟨fun e => ?_, hs, hl⟩
    rcases List.mem_cons.mp e with rfl | e
    · rw [hloc] at hl; cases hl
    · exact hC e
  · obtain ⟨hC, hs, hl⟩ := h.occupant st' x nofun hx
    refine ⟨fun e => ?_, hs, hl⟩
    rcases List.mem_cons.mp e with rfl | e
    · rw [hloc] at hl; cases hl; exact hk rfl
    · exact hC e
  · obtain ⟨st', -, hx'⟩ := h.inCustody x (fun e => hx (.tail _ e)) hs
    refine ⟨st', fun e => ?_, hx'⟩
    cases e
    rw [hc] at hx'; cases hx'
    exact hx (.head _)

/-- A station without an occupant left out of account. -/
theorem setAside (h : s.PlacedBut C none) {st : Station} (hc : (s.custodyOf st).occupant? = none) :
    s.PlacedBut C (some st) := by
  refine ⟨h.running, h.nodup, h.queued, h.inQueue, fun st' x _ => h.occupant st' x nofun, fun x hx hs => ?_⟩
  obtain ⟨st', -, hx'⟩ := h.inCustody x hx hs
  refine ⟨st', fun e => ?_, hx'⟩
  cases e
  rw [hc] at hx'; cases hx'

/-! ### Putting carriers in their places -/

/-- A carrier in hand whose state names no place is in none. -/
theorem put_nowhere {c : Handle} (h : s.PlacedBut (c :: C) k) (hq : (s.record c).state.queued = false)
    (hc : (s.record c).state.inCustody = false) : s.PlacedBut C k := by
  have other : ∀ x ∉ C, x ≠ c → x ∉ c :: C := fun x hx e hm => (List.mem_cons.mp hm).elim e hx
  refine ⟨h.running, h.nodup, fun g x hx => ?_, fun x hx hs => ?_, fun st x hk hx => ?_, fun x hx hs => ?_⟩
  · obtain ⟨hC, hs, hl⟩ := h.queued g x hx
    exact ⟨fun e => hC (.tail _ e), hs, hl⟩
  · refine h.inQueue x (other x hx fun e => ?_) hs
    subst e; rw [hs] at hq; cases hq
  · obtain ⟨hC, hs, hl⟩ := h.occupant st x hk hx
    exact ⟨fun e => hC (.tail _ e), hs, hl⟩
  · refine h.inCustody x (other x hx fun e => ?_) hs
    subst e; rw [hs] at hc; cases hc

/-- A carrier in hand put at the tail of a queue. -/
theorem put_queue {c : Handle} (h : s.PlacedBut (c :: C) k) (hC : c ∉ C) (g : Segment) {x : CarrierState}
    (hx : x.queued = true) : (s.append g c x).PlacedBut C k := by
  have own : (s.append g c x).record c = { s.record c with
      state := x, location := .onSegment g, lastSegment := some g, window := some (s.appendWindow g) } := by
    rw [State.append_eq]; simp only [State.record, Table.get_set_self]
  have rest : ∀ y ≠ c, (s.append g c x).record y = s.record y := fun y hy => by
    rw [State.append_eq]; simp only [State.record, Table.get_set, if_neg (Ne.symm hy)]
  have queue : ∀ g', (s.append g c x).queue g' = if g = g' then s.queue g ++ [c] else s.queue g' := fun g' =>
    State.queue_withQueue ..
  have inHand : ∀ g', c ∉ s.queue g' := fun g' hm => (h.queued g' c hm).1 (.head _)
  refine ⟨h.running, fun g' => ?_, fun g' y hy => ?_, fun y hy hs => ?_, fun st y hk hy => ?_, fun y hy hs => ?_⟩
  · rw [queue]
    split
    · refine List.nodup_append.mpr ⟨h.nodup g, List.nodup_singleton c, fun a ha b hb => ?_⟩
      rw [List.mem_singleton.mp hb]
      exact fun e => inHand g (e ▸ ha)
    · exact h.nodup g'
  · rw [queue] at hy
    by_cases e : y = c
    · subst e
      refine ⟨hC, by rw [own]; exact hx, ?_⟩
      split at hy
      · next e => subst e; rw [own]
      · exact absurd hy (inHand g')
    · rw [rest y e]
      have old : y ∈ s.queue g' := by
        split at hy
        · next e' =>
          subst e'
          exact (List.mem_append.mp hy).resolve_right fun hm => e (List.mem_singleton.mp hm)
        · exact hy
      obtain ⟨hn, hs, hl⟩ := h.queued g' y old
      exact ⟨fun hm => hn (.tail _ hm), hs, hl⟩
  · by_cases e : y = c
    · refine ⟨g, ?_⟩
      rw [queue, if_pos rfl, e]; exact List.mem_append_right _ (.head _)
    · rw [rest y e] at hs
      obtain ⟨g', hg'⟩ := h.inQueue y (fun hm => (List.mem_cons.mp hm).elim e hy) hs
      refine ⟨g', ?_⟩
      rw [queue]
      split
      · next e' => subst e'; exact List.mem_append_left _ hg'
      · exact hg'
  · obtain ⟨hn, hs, hl⟩ := h.occupant st y hk hy
    rw [rest y fun e => hn (e ▸ .head _)]
    exact ⟨fun hm => hn (.tail _ hm), hs, hl⟩
  · by_cases e : y = c
    · subst e
      rw [State.state_append] at hs
      rw [CarrierState.not_queued_of_inCustody hs] at hx; cases hx
    · rw [rest y e] at hs
      exact h.inCustody y (fun hm => (List.mem_cons.mp hm).elim e hy) hs

/-- A carrier in hand, its record already naming the station, made the occupant. -/
theorem put_custody {c : Handle} {st : Station} (h : s.PlacedBut (c :: C) (some st)) (hC : c ∉ C) {x : Custody}
    (ho : x.occupant? = some c) (hs : (s.record c).state = x.occupantState)
    (hl : (s.record c).location = .atStation st) : (s.withCustody st x).PlacedBut C none := by
  refine ⟨h.running, h.nodup, fun g y hy => ?_, fun y hy hq => ?_, fun st' y _ hy => ?_, fun y hy hq => ?_⟩
  · obtain ⟨hn, hs, hl⟩ := h.queued g y hy
    exact ⟨fun hm => hn (.tail _ hm), hs, hl⟩
  · by_cases e : y = c
    · subst e
      change (s.record y).state.queued = true at hq
      rw [hs, CarrierState.not_queued_of_inCustody (Custody.occupantState_inCustody _)] at hq
      cases hq
    · exact h.inQueue y (fun hm => (List.mem_cons.mp hm).elim e hy) hq
  · rw [State.custodyOf_withCustody] at hy ⊢
    split at hy
    · next e =>
      subst e
      rw [ho] at hy; cases hy
      rw [if_pos rfl]
      exact ⟨hC, hs, hl⟩
    · next e =>
      rw [if_neg e]
      obtain ⟨hn, hs, hl⟩ := h.occupant st' y (fun h => e (Option.some.inj h)) hy
      exact ⟨fun hm => hn (.tail _ hm), hs, hl⟩
  · by_cases e : y = c
    · exact ⟨st, nofun, by rw [State.custodyOf_withCustody, if_pos rfl, ho, e]⟩
    · obtain ⟨st', hk, hx⟩ := h.inCustody y (fun hm => (List.mem_cons.mp hm).elim e hy) hq
      refine ⟨st', nofun, ?_⟩
      rw [State.custodyOf_withCustody, if_neg fun e => hk (congrArg some e)]
      exact hx

/-- A station left without an occupant counts again. -/
theorem vacate {st : Station} (h : s.PlacedBut C (some st)) {x : Custody} (hx : x.occupant? = none) :
    (s.withCustody st x).PlacedBut C none := by
  refine ⟨h.running, h.nodup, h.queued, h.inQueue, fun st' y _ hy => ?_, fun y hy hq => ?_⟩
  · rw [State.custodyOf_withCustody] at hy ⊢
    split at hy
    · rw [hx] at hy; cases hy
    · next e =>
      rw [if_neg e]
      exact h.occupant st' y (fun h => e (Option.some.inj h)) hy
  · obtain ⟨st', hk, hx⟩ := h.inCustody y hy hq
    refine ⟨st', nofun, ?_⟩
    rw [State.custodyOf_withCustody, if_neg fun e => hk (congrArg some e)]
    exact hx

end State.PlacedBut

end Sys2Proof.Machine
end

section
/-! Laws 1, 2 and 12 through the shared operations, and through every event. -/

-- One declaration at a time, which holds the text's memory down.
set_option Elab.async false

namespace Sys2Proof.Machine

@[simp] theorem State.record_reserve (s : State) (g : Option Segment) (c : Handle) : (s.reserve g).record c = s.record c := by
  cases g <;> rfl

@[simp] theorem State.record_unreserve (s : State) (g : Option Segment) (c : Handle) :
    (s.unreserve g).record c = s.record c := by
  cases g <;> rfl

theorem State.record_putInCustody (s : State) (k : Station) (c : Handle) (x : CarrierState) :
    (s.putInCustody k c x).record c = { s.record c with state := x, location := .atStation k, window := none } := by
  rw [State.putInCustody, State.record_modRecord, if_pos rfl]

namespace State.PlacedBut

variable {s : State} {c : Handle} {C : List Handle} {k : Option Station}

/-! ### A carrier settled -/

theorem lost (h : s.PlacedBut (c :: C) k) (x : ExceptionKind) : (s.makeLost c x).PlacedBut C k := by
  have put := h.modRecord (.head _) fun r => { r with state := .lost, location := .nowhere, window := none }
  refine (put.put_nowhere ?_ ?_).setException c x <;> rw [State.record_modRecord, if_pos rfl] <;> rfl

theorem foldl_lost (x : ExceptionKind) (l : List Handle) {s : State} (h : s.PlacedBut (l ++ C) k) :
    (l.foldl (fun s h => s.makeLost h x) s).PlacedBut C k := by
  induction l generalizing s with
  | nil => exact h
  | cons c l ih => exact ih (h.lost x)

/-- The carrier in hand made the occupant of the station left out of account. -/
theorem directTo {st : Station} (h : s.PlacedBut [c] (some st)) (e : Exit) (kind : DirectiveKind) (a : Option Byte) :
    (s.directTo st c e kind a).PlacedBut [] none := by
  have put := (h.modRecord (.head _) fun r => { r with state := .atStation, location := .atStation st, window := none }).reserve
    ((s.station st).exitSegment e.val)
  have hrec := s.record_putInCustody st c .atStation
  exact (put.put_custody List.not_mem_nil (x := .occupied c e (s.occupancyTimer st)) rfl
    (by rw [State.record_reserve]; exact congrArg CarrierRecord.state hrec)
    (by rw [State.record_reserve]; exact congrArg CarrierRecord.location hrec)).of_same (.placeDirective ..)

theorem block {st : Station} (h : s.PlacedBut [c] (some st)) (g : Option Segment) :
    (s.block st c g).PlacedBut [] none := by
  have put := h.modRecord (.head _) fun r => { r with state := .held, location := .atStation st, window := none }
  have hrec := s.record_putInCustody st c .held
  exact (put.put_custody List.not_mem_nil (x := .heldBlocked c) rfl (congrArg CarrierRecord.state hrec)
    (congrArg CarrierRecord.location hrec)).joinWaiters g st

theorem beginDwell {st : Station} (h : s.PlacedBut [c] (some st)) (ticks : Ticks) (seq : Byte) :
    (s.beginDwell st c ticks seq).PlacedBut [] none := by
  have put := (h.modRecord (.head _) fun r => { r with state := .held, location := .atStation st, window := none }).modRecord
    (.head _) fun r => { r with flags := { r.flags with dwelt := true } }
  have hrec : ((s.putInCustody st c .held).modRecord c fun r => { r with flags := { r.flags with dwelt := true } }).record c
      = { s.record c with
          state := .held, location := .atStation st, window := none
          flags := { (s.record c).flags with dwelt := true } } := by
    rw [State.record_modRecord, if_pos rfl, State.record_putInCustody]
  exact (put.put_custody List.not_mem_nil (x := .heldDwell c (s.lineTime + ticks.asTime)) rfl
    (congrArg CarrierRecord.state hrec) (congrArg CarrierRecord.location hrec)).of_same (.placeDirective ..)

theorem takeOccupant {st : Station} (h : s.PlacedBut [c] (some st)) (seq : Byte) :
    (s.takeOccupant st c seq).PlacedBut [] none := by
  simp only [State.takeOccupant]
  split
  · exact h.beginDwell _ seq
  · have marked := h.markDecision st c (s.decide st c)
    split
    · exact marked.directTo ..
    · exact (marked.block _).of_same (.placeDirective ..)

theorem redecide {st : Station} (h : s.PlacedBut [c] (some st)) : (s.redecide st c).PlacedBut [] none := by
  simp only [State.redecide]
  have marked := h.markDecision st c (s.decide st c)
  split
  · exact marked.directTo ..
  · exact marked.block _

/-- A record freed of a carrier in hand, or that its own location takes out of the staging queue (R28). -/
theorem freed (h : (if (s.record c).state = .staged then s.extract c else s).PlacedBut [c] k) :
    (s.freeRecord c).PlacedBut [] k := by
  have frame : (if (s.record c).state = .staged then s.extract c else s)
      = { s with tracker := if (s.record c).state = .staged then (s.extract c).tracker else s.tracker } := by
    split
    · exact s.extract_eq c
    · rfl
  have hrec : (s.freeRecord c).record c = .free ((s.record c).generation + 1) := by
    rw [State.freeRecord_eq]; simp only [State.record, Table.get_set_self]
  refine State.PlacedBut.put_nowhere (c := c) ?_ (by rw [hrec]; rfl) (by rw [hrec]; rfl)
  rw [frame] at h
  rw [State.freeRecord_eq]
  refine h.congr rfl rfl rfl fun x hx => ?_
  simp only [State.record, Table.get_set_ne _ (fun e : c = x => hx (e ▸ .head _)), and_self]

theorem deliver (h : s.PlacedBut [c] none) (st : Station) (seq : Byte) : (s.deliver st c seq).PlacedBut [] none := by
  have put := h.modRecord (.head _) fun r => { r with state := .delivered, location := .atStation st, window := none }
  have state : ((s.modRecord c fun r => { r with state := .delivered, location := .atStation st, window := none }).record
      c).state = .delivered := by
    rw [State.record_modRecord, if_pos rfl]
  simp only [State.deliver]
  generalize s.modRecord c _ = u at put state
  have counted : (u.withOutlet st (u.outlet st).deliver).PlacedBut [c] none := put.of_same (.withOutlet ..)
  have state' : ((u.withOutlet st (u.outlet st).deliver).record c).state = .delivered := state
  generalize u.withOutlet st (u.outlet st).deliver = v at counted state'
  have judged : (if v.deliveryCorrect st c then v else v.setException c .misdelivered).PlacedBut [c] none
      ∧ ((if v.deliveryCorrect st c then v else v.setException c .misdelivered).record c).state = .delivered := by
    split
    · exact ⟨counted, state'⟩
    · refine ⟨counted.setException _ _, ?_⟩
      rw [State.setException_eq]; simp only [State.record, Table.get_set_self]; exact state'
  generalize (if v.deliveryCorrect st c then v else v.setException c .misdelivered) = w at judged
  obtain ⟨hw, hs⟩ := judged
  split
  · refine State.PlacedBut.of_same ?_ (.placeDirective ..)
    exact freed (by rw [if_neg (by rw [hs]; decide)]; exact hw)
  · exact (hw.put_nowhere (by rw [hs]; rfl) (by rw [hs]; rfl)).of_same (.placeDirective ..)

theorem handOn (h : s.PlacedBut [c] none) {st : Station} (hi : s.custodyOf st = .idle) (seq : Byte) :
    (s.handOn st c seq).PlacedBut [] none := by
  unfold State.handOn
  split
  · exact h.deliver st seq
  · exact (h.setAside (by rw [hi]; rfl)).takeOccupant seq

theorem leaveBy (h : s.PlacedBut (c :: C) k) (hC : c ∉ C) (g : Option Segment) : (s.leaveBy c g).1.PlacedBut C k := by
  have lost : ∀ g : Option Segment,
      ((s.modRecord c fun r => { r with lastSegment := g }).makeLost c .lostDeviated).PlacedBut C k :=
    fun g => (h.modRecord (.head _) fun r => { r with lastSegment := g }).lost _
  cases g with
  | none => exact lost none
  | some x =>
    simp only [State.leaveBy]
    split
    · exact h.put_queue hC x rfl
    · exact lost (some x)

/-! ### Events -/

theorem releaseHold (h : s.PlacedBut C k) (st : Station) : (s.releaseHold st).PlacedBut C k := by
  unfold State.releaseHold
  split
  · exact h.unreserve _
  · exact h.unreserve _
  · exact h.withTracker_waiters _
  · exact h

theorem clearRoomEvent (h : s.PlacedBut C k) (d t : Option Segment) (b : Bool) : (s.clearRoomEvent d t b).PlacedBut C k := by
  unfold State.clearRoomEvent
  split
  · split
    · exact h
    · exact h.of_same (.raiseRoomEvent ..)
  · exact h

theorem clearOccupant (h : s.PlacedBut [] none) {st : Station} (hc : (s.custodyOf st).occupant? = some c) (e : Byte) :
    (s.clearOccupant st c e).PlacedBut [] none := by
  have held := (h.take_occupant hc).releaseHold st
  have vacated : ∀ u : State, u.PlacedBut [] (some st) →
      ((u.withCustody st .idle).withdrawDirective st).PlacedBut [] none :=
    fun u hu => (hu.vacate (x := .idle) rfl).of_same (.withdrawDirective ..)
  have left : ∀ u : State, u.PlacedBut [c] (some st) → ∀ g,
      (((u.stageTransition st e c).leaveBy c g).1).PlacedBut [] (some st) :=
    fun u hu g => (hu.onRoutes (State.stageTransition_onRoutes ..)).leaveBy List.not_mem_nil g
  simp only [State.clearOccupant]
  refine clearRoomEvent (vacated _ (left _ ?_ _)) _ _ _
  split
  · exact held.modRecord (.head _) _
  · exact held

theorem removeJammed (h : s.PlacedBut [] none) {st : Station} (hc : (s.custodyOf st).occupant? = some c) (e : Exit) :
    (s.removeJammed st c e).PlacedBut [] none := by
  have held := h.take_occupant hc
  have lost : ∀ u : State, u.PlacedBut [c] (some st) →
      ((((u.modRecord c fun r => { r with pendingRoute := none }).makeLost c .lostJam).withCustody st .idle).withdrawDirective
        st).PlacedBut [] none :=
    fun u hu => (((hu.modRecord (.head _) fun r => { r with pendingRoute := none }).lost _).vacate (x := .idle) rfl).of_same
      (.withdrawDirective ..)
  have removed : ∀ g, _ := fun g => lost _ ((held.unreserve g).onRoutes (.unbindSlot? _ (s.record c).pendingRoute))
  simp only [State.removeJammed, State.record_unreserve]
  cases (s.station st).exitSegment e.val with
  | none => exact removed none
  | some g => exact (removed (some g)).of_same (.raiseRoomEvent ..)

/-- The whole queue of a segment taken in hand. -/
theorem take_queue (h : s.PlacedBut C k) (g : Segment) : (s.withQueue g []).PlacedBut (s.queue g ++ C) k :=
  h.take_queued (List.nil_sublist _) (fun _ => by simp) fun _ _ => List.not_mem_nil

theorem purge (h : s.PlacedBut [] none) (g : Segment) : (s.purge g).PlacedBut [] none := by
  have lost := foldl_lost .lostPurged (s.queue g) (h.take_queue g)
  simp only [State.purge]
  split
  · exact lost
  · exact lost.of_same (.raiseRoomEvent ..)

/-- The carrier at a position of a queue, and those ahead of it, taken in hand (R54). -/
theorem take_skipped (h : s.PlacedBut [] none) {g : Segment} {j : Nat} (hp : s.position? g c = some j) :
    (s.withQueue g ((s.queue g).drop (j + 1))).PlacedBut ((s.queue g).take j ++ [c]) none := by
  obtain ⟨hj, hget, -⟩ := List.idxOf?_eq_some_iff.mp hp
  have split : s.queue g = (s.queue g).take j ++ c :: (s.queue g).drop (j + 1) := by
    conv_lhs => rw [← List.take_append_drop j (s.queue g), List.drop_eq_getElem_cons hj, hget]
  have distinct := h.nodup g
  rw [split] at distinct
  obtain ⟨-, hn, hd⟩ := List.nodup_append.mp distinct
  have taken : (s.withQueue g ((s.queue g).drop (j + 1))).PlacedBut (((s.queue g).take j ++ [c]) ++ []) none := by
    refine h.take_queued (List.drop_sublist _ _) (fun x => ?_) fun x hx hr => ?_
    · conv_lhs => rw [split]
      simp only [List.mem_append, List.mem_cons, List.not_mem_nil, or_false, or_assoc]
    · rcases List.mem_append.mp hx with hx | hx
      · exact hd x hx x (.tail _ hr) rfl
      · rw [List.mem_singleton.mp hx] at hr
        exact (List.nodup_cons.mp hn).1 hr
  rw [List.append_nil] at taken
  exact taken

/-- Those ahead LOST, the carrier skipped to is in hand (R74). -/
theorem skipTo (h : s.PlacedBut [] none) {g : Segment} {j : Nat} (hp : s.position? g c = some j) :
    (s.skipTo g j).PlacedBut [c] none :=
  (foldl_lost .lostSkipped _ (h.take_skipped hp)).of_same (.raiseRoomEvent ..)

theorem takeFromEntry (h : s.PlacedBut [] none) {g : Segment} (hc : c ∈ s.queue g) :
    (s.takeFromEntry (some g) c).PlacedBut [c] none := (h.dequeue hc).of_same (.raiseRoomEvent ..)

/-- A carrier that is queued, or in no place, taken in hand; where it is queued, its location names the queue. -/
theorem extract (h : s.PlacedBut [] none) (hc : (s.record c).state.inCustody = false) :
    (s.extract c).PlacedBut [c] none := by
  have taken : ∀ g, (s.record c).location = .onSegment g → (s.dequeue g c).PlacedBut [c] none := fun g hl => by
    by_cases hg : c ∈ s.queue g
    · exact h.dequeue hg
    · have hq : (s.record c).state.queued = false := by
        by_contra hq
        obtain ⟨g', hg'⟩ := h.inQueue c List.not_mem_nil (by simpa using hq)
        have := (h.queued g' c hg').2.2
        rw [hl] at this; cases this
        exact hg hg'
      have same : s.dequeue g c = s := by
        rw [State.dequeue, List.erase_of_not_mem hg]
        simp only [State.withQueue, State.queue, Table.set_get_self]
        rfl
      rw [same]; exact h.take_nowhere hq hc
  unfold State.extract
  split
  · next g hg => exact (taken g hg).of_same (.raiseRoomEvent ..)
  · next hl =>
    refine h.take_nowhere ?_ hc
    by_contra hq
    obtain ⟨g, hg⟩ := h.inQueue c List.not_mem_nil (by simpa using hq)
    exact hl g (h.queued g c hg).2.2

/-- A carrier that RETIRE frees taken in hand, out of its queue where it is STAGED (R38). -/
theorem take_retired (h : s.PlacedBut [] none) (hs : (s.record c).state.retirable = true) :
    (if (s.record c).state = .staged then s.extract c else s).PlacedBut [c] none := by
  have hn := CarrierState.not_inCustody_of_retirable hs
  split
  · exact h.extract hn
  · next hx =>
    exact h.take_nowhere (CarrierState.not_queued_of_retirable hs hx) hn

end State.PlacedBut

/-! ### Arrivals -/

theorem State.mem_of_position? {s : State} {g : Segment} {c : Handle} {j : Nat} (h : s.position? g c = some j) :
    c ∈ s.queue g := by
  obtain ⟨hj, hget, -⟩ := List.idxOf?_eq_some_iff.mp h
  exact hget ▸ List.getElem_mem hj

/-- The head of an entry queue is queued there. -/
theorem State.mem_of_headOf {s : State} {g : Option Segment} {c : Handle} (h : s.headOf g = some c) :
    ∃ x, g = some x ∧ c ∈ s.queue x := by
  obtain ⟨x, hx, hc⟩ := Option.bind_eq_some_iff.mp h
  exact ⟨x, hx, List.mem_of_mem_head? hc⟩

@[simp] theorem State.queue_modRecord (s : State) (c : Handle) (f : CarrierRecord → CarrierRecord) (g : Segment) :
    (s.modRecord c f).queue g = s.queue g := rfl

theorem State.markEarly_tracker (s : State) (c : Handle) : (s.markEarly c).tracker = s.tracker := by
  rw [State.markEarly_eq]; rfl

theorem State.queue_markEarly (s : State) (c : Handle) (g : Segment) : (s.markEarly c).queue g = s.queue g := by
  rw [State.markEarly_eq]; rfl

/-- What an outcome removes and marks leaves the carrier bound, and it alone, in hand. -/
theorem State.PlacedBut.applyBinding {s : State} (h : s.PlacedBut [] none) {g : Option Segment} {t : Tag} {c : Handle}
    {how : Binding} (hb : s.BoundBy g t c how) : (s.applyBinding g c how).PlacedBut [c] none := by
  cases how with
  | position =>
    obtain ⟨x, rfl, hx⟩ := State.mem_of_headOf hb
    exact h.takeFromEntry hx
  | tagMatch =>
    obtain ⟨-, x, rfl, hp⟩ := hb
    exact (h.markEarly c).takeFromEntry (by rw [State.queue_markEarly]; exact State.mem_of_position? hp)
  | tagLearning u =>
    obtain ⟨-, -, -, -, hh⟩ := hb
    obtain ⟨x, rfl, hx⟩ := State.mem_of_headOf hh
    have learnt := h.modRecord_kept c
      (f := fun r => { r with tag := some u, flags := { r.flags with tagLearned := true } }) fun _ => ⟨rfl, rfl⟩
    exact (learnt.congr rfl rfl rfl fun _ _ => ⟨rfl, rfl⟩ :
      ((s.modRecord c fun r => { r with tag := some u, flags := { r.flags with tagLearned := true } }).withTags
        (TagIndex.add u c s.tags)).PlacedBut [] none).takeFromEntry hx
  | skip j =>
    obtain ⟨-, x, rfl, hp⟩ := hb
    exact (h.markEarly c).skipTo (by rw [State.position?, State.queue_markEarly]; exact hp)
  | extraction =>
    obtain ⟨-, x, j, rfl, hp⟩ := hb
    refine ((h.markEarly c).mark c fun f => { f with overtook := true }).takeFromEntry ?_
    rw [State.mark, State.queue_modRecord, State.queue_markEarly]
    exact State.mem_of_position? hp
  | lateRecovery =>
    have hs : (s.record c).state = .lost := hb
    exact ((h.take_nowhere (by rw [hs]; rfl) (by rw [hs]; rfl)).clearException c).mark c fun f => { f with late := true }
  | misrouteTake =>
    have hn : (s.record c).state.inCustody = false := by
      rcases hb with hq | hl
      · exact CarrierState.not_inCustody_of_queued hq
      · rw [hl]; rfl
    exact ((h.extract hn).clearException c).mark c fun f => { f with misrouted := true }

/-- No outcome changes a station's custody before the carrier is bound. -/
theorem State.applyBinding_custody (s : State) (g : Option Segment) (c : Handle) (how : Binding) :
    (s.applyBinding g c how).custody = s.custody := by
  have entry : ∀ u : State, (u.takeFromEntry g c).custody = u.custody := fun u => by cases g <;> rfl
  have early : (s.markEarly c).custody = s.custody := by rw [State.markEarly_eq]; rfl
  cases how with
  | position => exact entry s
  | tagMatch => exact (entry _).trans early
  | tagLearning u => exact entry _
  | skip j =>
    cases g with
    | none => rfl
    | some g =>
      have lost : ∀ (l : List Handle) (u : State),
          (l.foldl (fun s h => s.makeLost h .lostSkipped) u).custody = u.custody := fun l => by
        induction l with
        | nil => exact fun _ => rfl
        | cons c l ih => exact fun u => ih _
      exact (lost _ _).trans early
  | extraction => exact (entry _).trans early
  | lateRecovery => rfl
  | misrouteTake =>
    have : (s.extract c).custody = s.custody := by rw [State.extract_eq]
    exact this

theorem State.PlacedBut.resolveArrival {s : State} (h : s.PlacedBut [] none) {k : Station} (hi : s.custodyOf k = .idle)
    (port : Byte) (t : Tag) (seq : Byte) : (s.resolveArrival k port t seq).PlacedBut [] none := by
  simp only [State.resolveArrival]
  generalize (s.station k).entrySegment port.toNat = g
  split
  · next c how hr =>
    have bound := (h.applyBinding (State.resolve_bind hr)).modRecord_kept c
      (f := fun r => { r with
        sighting := some ⟨k, (s.applyBinding g c how).lineTime⟩, lastSegment := g, window := none }) fun _ => ⟨rfl, rfl⟩
    refine bound.handOn ?_ seq
    simp only [State.custodyOf, State.modRecord_custody, State.applyBinding_custody]
    exact hi
  · next tag hr =>
    unfold State.takeStranger
    split
    · exact h.of_same ((State.SameCore.countUntracked ..).trans (.placeDirective ..))
    · split
      · next x hx =>
        have hf := State.free_of_lowestFree hx
        have inHand := h.take_nowhere (c := x) (by rw [hf]; rfl) (by rw [hf]; rfl)
        have made := (inHand.modRecord (.head _) fun r => .stranger r.generation k g tag s.lineTime).setException x .stranger
        simp only [State.createStranger]
        refine State.PlacedBut.takeOccupant (State.PlacedBut.setAside ?_ ?_) seq
        · cases tag with
          | none => exact made
          | some u => exact made.congr rfl rfl rfl fun _ _ => ⟨rfl, rfl⟩
        · have idle : (s.custodyOf k).occupant? = none := by rw [hi]; rfl
          cases tag <;> exact idle
      · exact h.of_same ((State.SameCore.countUntracked ..).trans (.placeDirective ..))

/-! ### The device at rest -/

/-- Outside RUNNING no carrier is anywhere. -/
theorem State.PlaceLaws.still {s : State} (h : s.PlaceLaws) (hd : s.map.device ≠ .running) :
    (∀ x, (s.record x).state = .free) ∧ (∀ g, s.queue g = []) ∧ ∀ k, (s.custodyOf k).occupant? = none := by
  obtain ⟨⟨-, hq, -⟩, ⟨ho, -⟩, hs⟩ := h
  refine ⟨hs hd, fun g => List.eq_nil_iff_forall_not_mem.mpr fun x hx => ?_, fun k => ?_⟩
  · have := (hq g x hx).1
    rw [hs hd x] at this; cases this
  · by_contra hk
    obtain ⟨x, hx⟩ := Option.ne_none_iff_exists'.mp hk
    have := (ho k x hx).1
    rw [hs hd x] at this
    have hc := Custody.occupantState_inCustody (s.custodyOf k)
    rw [← this] at hc; cases hc

/-- With every record FREE and no carrier anywhere, the place laws hold. -/
theorem State.placeLaws_of_still {s : State} (hr : ∀ x, (s.record x).state = .free) (hq : ∀ g, s.queue g = [])
    (hc : ∀ k, (s.custodyOf k).occupant? = none) : s.PlaceLaws := by
  refine ⟨⟨fun g => by rw [hq]; exact .nil, fun g x hx => ?_, fun x hx => ?_⟩, ⟨fun k x hx => ?_, fun x hx => ?_⟩,
    fun _ => hr⟩
  · rw [hq] at hx; cases hx
  · rw [hr] at hx; cases hx
  · rw [hc] at hx; cases hx
  · rw [hr] at hx; cases hx

theorem State.PlaceLaws.of_same {s t : State} (hs : s.SameCore t) (h : s.PlaceLaws) : t.PlaceLaws := by
  unfold State.PlaceLaws State.QueueLaw State.OccupantLaw State.StillLaw at h ⊢
  rw [hs.queue, hs.record, hs.custodyOf, hs.device]
  exact h

/-- The laws with what they read but for the device, which is not at rest unless it was. -/
theorem State.PlaceLaws.withMap {s : State} (h : s.PlaceLaws) {m : LineMap}
    (hd : m.device ≠ .running → ∀ x, (s.record x).state = .free) : (s.withMap m).PlaceLaws := ⟨h.1, h.2.1, hd⟩

theorem State.free_of_not_anyLive {s : State} (h : s.anyLive = false) (x : Handle) : (s.record x).state = .free := by
  by_contra hx
  have : s.anyLive = true := (Table.any_rows _ _).mpr ⟨x, by simpa [CarrierRecord.live, State.record] using hx⟩
  rw [h] at this; cases this

theorem MapEvent.placeLaws {s t : State} (h : s.PlaceLaws) (e : MapEvent s t) : t.PlaceLaws := by
  cases e with
  | @setStation p r k hd hr =>
    obtain ⟨hrec, hq, hc⟩ := h.still (by rw [hd]; decide)
    refine State.placeLaws_of_still hrec hq fun k' => ?_
    have hx : ((s.withStation k r).withCustody k (s.freshCustody r)).custodyOf k'
        = if k = k' then s.freshCustody r else s.custodyOf k' := State.custodyOf_withCustody ..
    change (((s.withStation k r).withCustody k (s.freshCustody r)).custodyOf k').occupant? = none
    rw [hx]
    split
    · unfold State.freshCustody; split <;> rfl
    · exact hc k'
  | setSegment | setPolicy | tuneStation | tuneSegment => exact h.withMap h.2.2
  | beginValidation hd => exact h.withMap fun _ => h.2.2 (by rw [hd]; decide)
  | passValidation => exact h.withMap fun hd => absurd rfl hd
  | failValidation hd => exact h.withMap fun _ => h.2.2 (by rw [hd]; decide)
  | stop hd hl => exact h.withMap fun _ => State.free_of_not_anyLive hl

theorem State.OnlyZones.placeLaws {s t : State} (hz : s.OnlyZones t) (h : s.PlaceLaws) : t.PlaceLaws := by
  have hrec : ∀ x, (t.record x).state = (s.record x).state ∧ (t.record x).location = (s.record x).location := fun x => by
    rw [hz.record x]; exact ⟨rfl, rfl⟩
  have hqueue : t.queue = s.queue := by rw [hz.frame]; rfl
  have hdev : t.map.device = s.map.device := by rw [hz.frame]
  obtain ⟨⟨hn, hq, hi⟩, ⟨ho, hc⟩, hs⟩ := h
  refine ⟨⟨by rw [hqueue]; exact hn, fun g x => ?_, fun x => ?_⟩, ⟨fun k x hx => ?_, fun x hx => ?_⟩, fun hd x => ?_⟩
  · rw [hqueue, (hrec x).1, (hrec x).2]; exact hq g x
  · rw [hqueue, (hrec x).1]; exact hi x
  · rw [(hz.custody k).occupant] at hx
    rw [(hz.custody k).state, (hrec x).1, (hrec x).2]; exact ho k x hx
  · rw [(hrec x).1] at hx
    obtain ⟨k, hk⟩ := hc x hx
    exact ⟨k, by rw [(hz.custody k).occupant]; exact hk⟩
  · rw [(hrec x).1]; exact hs (hdev ▸ hd) x

theorem State.placeLaws_resetTracking {s : State} (hf : ∀ x, (s.resetTracking.record x).state = .free) :
    s.resetTracking.PlaceLaws := by
  refine State.placeLaws_of_still hf (fun g => Table.get_fill _ _) fun k => ?_
  simp only [State.resetTracking, State.custodyOf, Table.get_mapRows]
  split <;> rfl

theorem State.state_resetTracking (s : State) (x : Handle) : (s.resetTracking.record x).state = .free := by
  simp only [State.resetTracking, State.record, Table.get_mapRows, CarrierRecord.afterReset]
  split
  · rfl
  · next hl => simpa [CarrierRecord.live] using hl

theorem State.placeLaws_reset : State.reset.PlaceLaws :=
  State.placeLaws_of_still (fun x => by rw [State.record, show State.reset.carriers.records.get x = .free 0 from Table.get_fill _ _]; rfl)
    (fun _ => Table.get_fill _ _) fun k => by
      rw [State.custodyOf, show State.reset.custody.get k = .idle from Table.get_fill _ _]; rfl

/-! ### Every event -/

/-- What an expired head says: it is queued on the segment. -/
theorem State.mem_of_expiredHead {s : State} {g : Segment} {h : Handle} (hx : s.expiredHead g = some h) :
    (s.queue g).head? = some h := by
  unfold State.expiredHead at hx
  split at hx
  · cases hx
  · split at hx
    · next y hy =>
      split at hx
      · split at hx
        · cases hx
        · cases hx; exact hy
      · cases hx
    · cases hx

/-- An occupied station's device is RUNNING. -/
theorem State.PlaceLaws.running_of_occupant {s : State} (h : s.PlaceLaws) {k : Station} {c : Handle}
    (hc : (s.custodyOf k).occupant? = some c) : s.map.device = .running :=
  h.running_of_live (c := c) fun hf => by
    have := (h.2.1.1 k c hc).1
    rw [hf] at this
    have hc := Custody.occupantState_inCustody (s.custodyOf k)
    rw [← this] at hc; cases hc

theorem State.PlaceLaws.redecide {s : State} (h : s.PlaceLaws) {k : Station} {c : Handle}
    (hc : (s.custodyOf k).occupant? = some c) : (s.redecide k c).PlaceLaws :=
  (((h.placed (h.running_of_occupant hc)).take_occupant hc).redecide).laws

theorem State.PlaceLaws.wake {s : State} (h : s.PlaceLaws) (g : Segment) (k : Station) : (s.wake g k).PlaceLaws := by
  have hw : (s.withWaiters g ((s.waiterList g).erase k)).PlaceLaws := h
  simp only [State.wake]
  split
  · next c hc => exact hw.redecide (by rw [hc]; rfl)
  · exact hw

theorem State.PlaceLaws.grantRounds (g : Segment) (n : Nat) (woken : List Station) {s : State} (h : s.PlaceLaws) :
    (State.grantRounds g n woken s).PlaceLaws := by
  induction n generalizing woken s with
  | zero => exact h
  | succ n ih =>
    unfold State.grantRounds
    split
    · split
      · exact ih _ (h.wake g _)
      · exact h
    · exact h

/-- A reroute changes neither state nor location of a record. -/
theorem State.PlaceLaws.rerouted {s : State} (h : s.PlaceLaws) (c : Handle) (q : Slot) (x : Option Slot) {r : CarrierRecord}
    (hs : r.state = (s.record c).state) (hl : r.location = (s.record c).location) : (s.rerouted c q x r).PlaceLaws := by
  have hrec : ∀ y, ((s.rerouted c q x r).record y).state = (s.record y).state
      ∧ ((s.rerouted c q x r).record y).location = (s.record y).location := fun y => by
    simp only [State.rerouted, State.record, Table.get_set]
    split
    · next e => subst e; exact ⟨hs, hl⟩
    · exact ⟨rfl, rfl⟩
  obtain ⟨⟨hn, hq, hi⟩, ⟨ho, hc⟩, hf⟩ := h
  refine ⟨⟨hn, fun g y => ?_, fun y => ?_⟩, ⟨fun k y => ?_, fun y => ?_⟩, fun hd y => ?_⟩
  · rw [(hrec y).1, (hrec y).2]; exact hq g y
  · rw [(hrec y).1]; exact hi y
  · rw [(hrec y).1, (hrec y).2]; exact ho k y
  · rw [(hrec y).1]; exact hc y
  · rw [(hrec y).1]; exact hf hd y

theorem Event.placeLaws {s t : State} (h : s.PlaceLaws) (e : Event s t) : t.PlaceLaws := by
  cases e with
  | idle => exact h
  | reset => exact State.placeLaws_reset
  | tick samples => exact h
  | ofMap e => exact e.placeLaws h
  | ofRoute e => rw [e.frame]; exact h
  | causes z c => exact (State.OnlyZones.withCauses s z c).placeLaws h
  | latches n mask => exact (State.OnlyZones.latchMask s n mask).placeLaws h
  | resetTracking => exact State.placeLaws_resetTracking s.state_resetTracking
  | arrival k port t seq hc hd hi => exact ((h.placed hd).resolveArrival hi port t seq).laws
  | clear k c e hc hd ho hh => exact ((h.placed hd).clearOccupant ho e).laws
  | removeJam k c e hd hj => exact ((h.placed hd).removeJammed (c := c) (by rw [hj]; rfl) e).laws
  | grant g n woken => exact h.grantRounds g n woken
  | @redecide k c x hk => exact h.redecide (by rw [hk]; rfl)
  | @jam k c e x hk =>
    have ho : (s.custodyOf k).occupant? = some c := by rw [hk]; rfl
    obtain ⟨hs, hl⟩ := h.2.1.1 k c ho
    exact (((h.placed (h.running_of_occupant ho)).take_occupant ho).put_custody List.not_mem_nil (x := .jammed c e) rfl
      (by rw [hs, hk]; rfl) hl).laws
  | @expire g c hx =>
    have hg : c ∈ s.queue g := List.mem_of_mem_head? (State.mem_of_expiredHead hx)
    have hd := h.running_of_live (CarrierState.ne_free_of_queued (h.1.2.1 g c hg).1)
    exact (((h.placed hd).dequeue hg).lost _).laws
  | purge g hd => exact ((h.placed hd).purge g).laws
  | @induct g c t cls q p hd ht hq hf hr =>
    have inHand := (h.placed hd).take_nowhere (c := c) (by rw [hf]; rfl) (by rw [hf]; rfl)
    have put := (inHand.modRecord (.head _) fun r =>
      .inducted r.generation (if t = 0 then none else some t) cls q).put_queue List.not_mem_nil g (x := .staged) rfl
    simp only [State.induct]
    refine (put.congr ?_ ?_ ?_ fun x _ => ?_).laws
    · split <;> rfl
    · split <;> rfl
    · split <;> rfl
    · split <;> exact ⟨rfl, rfl⟩
  | rerouteNow => rw [State.rerouteNow_eq]; exact h.rerouted _ _ _ rfl rfl
  | rerouteLater => rw [State.rerouteLater_eq]; exact h.rerouted _ _ _ rfl rfl
  | @retire c hs =>
    have hd := h.running_of_live (c := c) fun e => by rw [e] at hs; cases hs
    exact (State.PlacedBut.freed ((h.placed hd).take_retired hs)).laws

end Sys2Proof.Machine

open Sys2Proof Sys2Proof.Machine

/-- Settles O56, event by event: the carriers an event handles are taken out of their places and each put in the place its
record names. -/
theorem stepsKeepPlaceLaws : Obligations.StepsKeepPlaceLaws := fun _ _ hs h =>
  State.step_keeps (H := State.PlaceLaws) (P := State.PlaceLaws) (fun _ _ hc => State.PlaceLaws.of_same hc)
    (fun _ _ hc => State.PlaceLaws.of_same hc) (fun _ _ => Event.placeLaws) hs h

end

section
/-! What the events of carriers do to queues, reservations, waiter lists, custody and windows, said once for Laws 4, 5, 6 and
11: they take carriers out of queues, settle one at a station, or append one. -/

-- One declaration at a time, which holds the text's memory down.
set_option Elab.async false

namespace Sys2Proof.Machine

/-! ### Queues thinned -/

/-- From `s` to `t` carriers may leave queues; of those that stay the windows stand. Time, map, zones, custody, reservations
and waiter lists are as they were. -/
structure State.Thins (s t : State) : Prop where
  lineTime : t.lineTime = s.lineTime
  map : t.map = s.map
  zones : t.zones = s.zones
  custody : t.custody = s.custody
  reserved : t.tracker.reserved = s.tracker.reserved
  waiters : t.tracker.waiters = s.tracker.waiters
  queues : ∀ g, (t.queue g).Sublist (s.queue g)
  windows : ∀ g, ∀ x ∈ t.queue g, (t.record x).window = (s.record x).window

namespace State.Thins

variable {s t u : State}

theorem refl (s : State) : s.Thins s := ⟨rfl, rfl, rfl, rfl, rfl, rfl, fun _ => .refl _, fun _ _ _ => rfl⟩

theorem trans (h : s.Thins t) (h' : t.Thins u) : s.Thins u :=
  ⟨h'.1.trans h.1, h'.2.trans h.2, h'.3.trans h.3, h'.4.trans h.4, h'.5.trans h.5, h'.6.trans h.6,
    fun g => (h'.queues g).trans (h.queues g),
    fun g x hx => (h'.windows g x hx).trans (h.windows g x ((h'.queues g).subset hx))⟩

/-- Nothing that the laws of room and windows read has changed. -/
theorem of_eq (hl : t.lineTime = s.lineTime) (hm : t.map = s.map) (hz : t.zones = s.zones) (hc : t.custody = s.custody)
    (hr : t.tracker.reserved = s.tracker.reserved) (hw : t.tracker.waiters = s.tracker.waiters)
    (hq : t.tracker.queues = s.tracker.queues) (hx : ∀ x, (t.record x).window = (s.record x).window) : s.Thins t :=
  ⟨hl, hm, hz, hc, hr, hw, fun g => by simp only [State.queue, hq, List.Sublist.refl], fun _ x _ => hx x⟩

/-- A change of the records, of the tags, the Route Store, the toggles, the outlets, the untracked counts and the link alone,
which leaves the windows of queued carriers. -/
theorem of_records (hf : t = { s with
      carriers := t.carriers, tags := t.tags, routes := t.routes, toggles := t.toggles, outlets := t.outlets
      untracked := t.untracked, link := t.link, port := t.port, pending := t.pending
      tracker := { s.tracker with roomEvents := t.tracker.roomEvents } })
    (hx : ∀ g, ∀ x ∈ s.queue g, (t.record x).window = (s.record x).window) : s.Thins t := by
  have hq : t.queue = s.queue := by rw [hf]; rfl
  refine ⟨?_, ?_, ?_, ?_, ?_, ?_, fun g => by rw [hq], fun g x hm => hx g x (by rw [← hq]; exact hm)⟩ <;> rw [hf]

/-- A record changed, its window kept or the carrier in no queue. -/
theorem modRecord (s : State) (c : Handle) (f : CarrierRecord → CarrierRecord)
    (hf : (f (s.record c)).window = (s.record c).window ∨ ∀ g, c ∉ s.queue g) : s.Thins (s.modRecord c f) :=
  of_records rfl fun g x hx => by
    rw [State.record_modRecord]
    split
    · next e => subst e; exact hf.resolve_right fun h => h g hx
    · rfl

theorem setException (s : State) (c : Handle) (k : ExceptionKind) : s.Thins (s.setException c k) :=
  (modRecord s c (fun r => { r with exception := some k }) (.inl rfl)).trans (of_records rfl fun _ _ _ => rfl)

theorem clearException (s : State) (c : Handle) : s.Thins (s.clearException c) :=
  (modRecord s c (fun r => { r with exception := none }) (.inl rfl)).trans (of_records rfl fun _ _ _ => rfl)

theorem mark (s : State) (c : Handle) (f : CarrierFlags → CarrierFlags) : s.Thins (s.mark c f) :=
  modRecord s c _ (.inl rfl)

theorem markEarly (s : State) (c : Handle) : s.Thins (s.markEarly c) := by
  rw [State.markEarly_eq]; exact modRecord s c _ (.inl rfl)

theorem withTags (s : State) (x : TagIndex) : s.Thins (s.withTags x) := of_records rfl fun _ _ _ => rfl

theorem raiseRoomEvent (s : State) (g : Segment) : s.Thins (s.raiseRoomEvent g) := of_records rfl fun _ _ _ => rfl

theorem placeDirective (s : State) (k : Station) (d : DirectiveKind) (a : Option Byte) : s.Thins (s.placeDirective k d a) :=
  of_records rfl fun _ _ _ => rfl

theorem withdrawDirective (s : State) (k : Station) : s.Thins (s.withdrawDirective k) := of_records rfl fun _ _ _ => rfl

theorem onRoutes (h : s.OnRoutes t) : s.Thins t :=
  of_records (by rw [h.1]) fun _ x _ => (h.2 x).2.2.2

theorem markDecision (s : State) (k : Station) (c : Handle) (d : Decision) : s.Thins (s.markDecision k c d) := by
  refine (modRecord s c (fun r => { r with flags := { r.flags with missed := r.flags.missed || d.missed } }) (.inl rfl)).trans ?_
  rw [State.markDecision_eq]; exact of_records rfl fun _ _ _ => rfl

theorem withQueue (s : State) {g : Segment} {q : List Handle} (hq : q.Sublist (s.queue g)) : s.Thins (s.withQueue g q) := by
  refine ⟨rfl, rfl, rfl, rfl, rfl, rfl, fun g' => ?_, fun _ _ _ => rfl⟩
  rw [State.queue_withQueue]
  split
  · next e => subst e; exact hq
  · exact .refl _

theorem dequeue (s : State) (g : Segment) (c : Handle) : s.Thins (s.dequeue g c) := withQueue s List.erase_sublist

theorem extract (s : State) (c : Handle) : s.Thins (s.extract c) := by
  unfold State.extract
  split
  · exact (dequeue s _ c).trans (raiseRoomEvent _ _)
  · exact refl s

theorem takeFromEntry (s : State) (g : Option Segment) (c : Handle) : s.Thins (s.takeFromEntry g c) := by
  cases g with
  | none => exact refl s
  | some g => exact (dequeue s g c).trans (raiseRoomEvent _ g)

/-- A carrier made LOST that is in no queue. -/
theorem makeLost (s : State) {c : Handle} (hc : ∀ g, c ∉ s.queue g) (k : ExceptionKind) : s.Thins (s.makeLost c k) :=
  (modRecord s c (fun r => { r with state := .lost, location := .nowhere, window := none }) (.inr hc)).trans
    (setException _ c k)

theorem bindArrival (s : State) {c : Handle} (hc : ∀ g, c ∉ s.queue g) (k : Station) (g : Option Segment) :
    s.Thins (s.bindArrival k g c) :=
  modRecord s c _ (.inr hc)

end State.Thins

namespace State.PlacedBut

variable {s : State} {C : List Handle} {k : Option Station} {c : Handle}

theorem absent (h : s.PlacedBut (c :: C) k) (g : Segment) : c ∉ s.queue g := fun hg => (h.queued g c hg).1 (.head _)

theorem thins_foldl_lost (x : ExceptionKind) (l : List Handle) {s : State} (h : s.PlacedBut (l ++ C) k) :
    s.Thins (l.foldl (fun s h => s.makeLost h x) s) := by
  induction l generalizing s with
  | nil => exact .refl s
  | cons c l ih => exact (State.Thins.makeLost s (State.PlacedBut.absent (C := l ++ C) h) x).trans (ih (h.lost x))

theorem thins_purge (h : s.PlacedBut [] none) (g : Segment) : s.Thins (s.purge g) := by
  have lost := (State.Thins.withQueue s (List.nil_sublist (s.queue g))).trans
    (thins_foldl_lost .lostPurged (s.queue g) (h.take_queue g))
  simp only [State.purge]
  split
  · exact lost
  · exact lost.trans (.raiseRoomEvent _ g)

theorem thins_freeRecord (h : (if (s.record c).state = .staged then s.extract c else s).PlacedBut [c] k) :
    s.Thins (s.freeRecord c) := by
  have thin : s.Thins (if (s.record c).state = .staged then s.extract c else s) := by
    split
    · exact .extract s c
    · exact .refl s
  have frame : (if (s.record c).state = .staged then s.extract c else s)
      = { s with tracker := if (s.record c).state = .staged then (s.extract c).tracker else s.tracker } := by
    split
    · exact s.extract_eq c
    · rfl
  refine thin.trans (State.Thins.of_records ?_ fun g x hx => ?_)
  · rw [frame, State.freeRecord_eq]
  · have hne : c ≠ x := fun e => h.absent g (e ▸ hx)
    rw [frame, State.freeRecord_eq]
    simp only [State.record, Table.get_set_ne _ hne]

/-- RETIRE in its parts: a STAGED carrier leaves its queue (R38). -/
theorem thins_retire (h : s.PlacedBut [] none) (hs : (s.record c).state.retirable = true) : s.Thins (s.freeRecord c) :=
  thins_freeRecord (h.take_retired hs)

theorem thins_deliver (h : s.PlacedBut [c] none) (st : Station) (seq : Byte) : s.Thins (s.deliver st c seq) := by
  have put := h.modRecord (.head _) fun r => { r with state := .delivered, location := .atStation st, window := none }
  have thin := State.Thins.modRecord s c (fun r => { r with state := .delivered, location := .atStation st, window := none })
    (.inr h.absent)
  have state : ((s.modRecord c fun r => { r with state := .delivered, location := .atStation st, window := none }).record
      c).state = .delivered := by
    rw [State.record_modRecord, if_pos rfl]
  simp only [State.deliver]
  generalize s.modRecord c _ = u at put state thin
  have counted : (u.withOutlet st (u.outlet st).deliver).PlacedBut [c] none := put.of_same (.withOutlet ..)
  have thin' := thin.trans (State.Thins.of_records (t := u.withOutlet st (u.outlet st).deliver) rfl fun _ _ _ => rfl)
  have state' : ((u.withOutlet st (u.outlet st).deliver).record c).state = .delivered := state
  generalize u.withOutlet st (u.outlet st).deliver = v at counted state' thin'
  have judged : (if v.deliveryCorrect st c then v else v.setException c .misdelivered).PlacedBut [c] none
      ∧ ((if v.deliveryCorrect st c then v else v.setException c .misdelivered).record c).state = .delivered
      ∧ s.Thins (if v.deliveryCorrect st c then v else v.setException c .misdelivered) := by
    split
    · exact ⟨counted, state', thin'⟩
    · refine ⟨counted.setException _ _, ?_, thin'.trans (.setException ..)⟩
      rw [State.setException_eq]; simp only [State.record, Table.get_set_self]; exact state'
  generalize (if v.deliveryCorrect st c then v else v.setException c .misdelivered) = w at judged
  obtain ⟨hw, hs, hthin⟩ := judged
  split
  · refine (hthin.trans (thins_freeRecord (k := none) ?_)).trans (.placeDirective ..)
    rw [if_neg (by rw [hs]; decide)]; exact hw
  · exact hthin.trans (.placeDirective ..)

theorem thins_skipTo (h : s.PlacedBut [] none) {g : Segment} {j : Nat} (hp : s.position? g c = some j) :
    s.Thins (s.skipTo g j) :=
  ((State.Thins.withQueue s (List.drop_sublist (j + 1) (s.queue g))).trans
    (thins_foldl_lost .lostSkipped _ (h.take_skipped hp))).trans (.raiseRoomEvent _ g)

/-- What an outcome removes and marks only thins queues. -/
theorem thins_applyBinding (h : s.PlacedBut [] none) {g : Option Segment} {t : Tag} {how : Binding}
    (hb : s.BoundBy g t c how) : s.Thins (s.applyBinding g c how) := by
  cases how with
  | position => exact .takeFromEntry s g c
  | tagMatch => exact (State.Thins.markEarly s c).trans (.takeFromEntry _ g c)
  | tagLearning u =>
    exact ((State.Thins.modRecord s c
      (fun r => { r with tag := some u, flags := { r.flags with tagLearned := true } }) (.inl rfl)).trans
      (.withTags _ _)).trans (.takeFromEntry _ g c)
  | skip j =>
    obtain ⟨-, x, rfl, hp⟩ := hb
    have hp' : (s.markEarly c).position? x c = some j := by rw [State.position?, State.queue_markEarly]; exact hp
    exact (State.Thins.markEarly s c).trans ((h.markEarly c).thins_skipTo hp')
  | extraction =>
    exact ((State.Thins.markEarly s c).trans (.mark _ c _)).trans (.takeFromEntry _ g c)
  | lateRecovery => exact (State.Thins.clearException s c).trans (.mark _ c fun f => { f with late := true })
  | misrouteTake =>
    exact ((State.Thins.extract s c).trans (.clearException _ c)).trans (.mark _ c fun f => { f with misrouted := true })
end State.PlacedBut

/-! ### A carrier settled at a station (R91 to R93, R98, R101) -/

/-- What settling carrier `c` at station `k` does besides its record: a dwell, an exit with room directed, or the place on a
waiter list of the segment the decision is blocked on. -/
inductive State.Settled (s : State) (k : Station) (c : Handle) : State → Prop
  | dwell (x : Time) : s.Settled k c (s.withCustody k (.heldDwell c x))
  | directed {e : Exit} {g : Segment} (x : Option Time) (hg : (s.station k).exitSegment e.val = some g)
      (hr : s.hasRoom g = true) :
      s.Settled k c ((s.withReserved g (s.reservedCount g + 1)).withCustody k (.occupied c e x))
  | blocked {g : Option Segment} (hb : (s.decide k c).choice = .blocked g) :
      s.Settled k c ((s.withCustody k (.heldBlocked c)).joinWaiters g k)

/-- A decision names an exit only where its segment has room (R134). -/
theorem State.hasRoom_of_decide {s : State} {k : Station} {c : Handle} {e : Exit}
    (h : (s.decide k c).choice = .toExit e) : ∃ g, (s.station k).exitSegment e.val = some g ∧ s.hasRoom g = true := by
  have room : ∀ x, s.roomTest k x = .toExit e → s.exitHasRoom k e = true := fun x hx => by
    unfold State.roomTest at hx
    split at hx
    · next hr => cases hx; exact hr
    · cases hx
  have hr : s.exitHasRoom k e = true := by
    simp only [State.decide] at h
    split at h
    · split at h
      · exact room 0 h
      · cases h
    · exact room _ h
  unfold State.exitHasRoom at hr
  split at hr
  · next g hg => exact ⟨g, hg, hr⟩
  · cases hr

section
variable {s : State} {c : Handle} (hc : ∀ g, c ∉ s.queue g) (k : Station)
include hc

/-- A change of the record of a carrier in no queue, and of what else the laws of room do not read. -/
theorem State.Thins.of_record {t : State} (hf : t = { s with
      carriers := t.carriers, tags := t.tags, routes := t.routes, toggles := t.toggles, outlets := t.outlets
      untracked := t.untracked, link := t.link, port := t.port, pending := t.pending
      tracker := { s.tracker with roomEvents := t.tracker.roomEvents } })
    (hx : ∀ x ≠ c, t.record x = s.record x) : s.Thins t :=
  State.Thins.of_records hf fun g x hm => by rw [hx x fun e => hc g (e ▸ hm)]

theorem State.directTo_settles (d : Decision) {e : Exit} {g : Segment} (kind : DirectiveKind) (a : Option Byte)
    (hg : (s.station k).exitSegment e.val = some g) (hr : s.hasRoom g = true) :
    ∃ u, s.Settled k c u ∧ u.Thins ((s.markDecision k c d).directTo k c e kind a) := by
  refine ⟨_, .directed (s.occupancyTimer k) hg hr, ?_⟩
  rw [State.markDecision_directTo s k c d e kind a g hg]
  refine State.Thins.of_record (c := c) (by exact hc) rfl fun x hx => ?_
  simp only [State.directed, State.record, Table.get_set_ne _ (Ne.symm hx)]
  rfl

theorem State.block_settles {g : Option Segment} (hb : (s.decide k c).choice = .blocked g) :
    ∃ u, s.Settled k c u ∧ u.Thins ((s.markDecision k c (s.decide k c)).block k c g) := by
  refine ⟨_, .blocked hb, ?_⟩
  cases g with
  | some g =>
    rw [State.markDecision_block]
    refine State.Thins.of_record (c := c) (by exact hc) rfl fun x hx => ?_
    simp only [State.blockedOn, State.record, Table.get_set_ne _ (Ne.symm hx)]
    rfl
  | none =>
    rw [State.markDecision_eq]
    refine State.Thins.of_record (c := c) (by exact hc) rfl fun x hx => ?_
    simp only [State.block, State.putInCustody, State.joinWaiters, State.record, State.withCustody_carriers,
      State.modRecord_carriers, Table.modify, Table.get_set_ne _ (Ne.symm hx)]

theorem State.takeOccupant_settles (seq : Byte) :
    ∃ u, s.Settled k c u ∧ u.Thins (s.takeOccupant k c seq) := by
  simp only [State.takeOccupant]
  split
  · next ticks _ =>
    refine ⟨_, .dwell (s.lineTime + ticks.asTime), State.Thins.of_record (c := c) (by exact hc) rfl fun x hx => ?_⟩
    show ((s.putInCustody k c .held).modRecord c _).record x = s.record x
    rw [State.record_modRecord, if_neg (Ne.symm hx), State.putInCustody, State.record_modRecord, if_neg (Ne.symm hx)]
  · split
    · next e hd =>
      obtain ⟨g, hg, hr⟩ := State.hasRoom_of_decide hd
      exact State.directTo_settles hc k _ _ _ hg hr
    · next hd =>
      obtain ⟨u, hu, ht⟩ := State.block_settles hc k hd
      exact ⟨u, hu, ht.trans (.placeDirective ..)⟩

theorem State.redecide_settles : ∃ u, s.Settled k c u ∧ u.Thins (s.redecide k c) := by
  simp only [State.redecide]
  split
  · next e hd =>
    obtain ⟨g, hg, hr⟩ := State.hasRoom_of_decide hd
    exact State.directTo_settles hc k _ _ _ hg hr
  · next hd => exact State.block_settles hc k hd

end

/-! ### A station cleared (R94 to R96) -/

/-- What a clear by its carrier `c` does after the station's hold is released: queues are thinned, the carrier is appended
where there is room or gone, and the station is IDLE. -/
inductive State.Left (s : State) (c : Handle) : State → Prop
  | appended {g : Segment} (hr : s.hasRoom g = true) : s.Left c (s.append g c .inTransit)
  | gone {t : State} (ht : s.Thins t) : s.Left c t

theorem State.leaveBy_left {s : State} {c : Handle} (hc : ∀ g, c ∉ s.queue g) (g : Option Segment) :
    s.Left c (s.leaveBy c g).1 := by
  have lost : ∀ g : Option Segment,
      s.Left c ((s.modRecord c fun r => { r with lastSegment := g }).makeLost c .lostDeviated) := fun g =>
    .gone ((State.Thins.modRecord s c _ (.inr hc)).trans (State.Thins.makeLost _ (by exact hc) _))
  cases g with
  | none => exact lost none
  | some x =>
    simp only [State.leaveBy]
    split
    · next hr => exact .appended hr
    · exact lost (some x)

theorem State.Thins.clearRoomEvent (s : State) (d t : Option Segment) (b : Bool) : s.Thins (s.clearRoomEvent d t b) := by
  unfold State.clearRoomEvent
  split
  · split
    · exact .refl s
    · exact .raiseRoomEvent s _
  · exact .refl s

/-- A clear in its parts. -/
theorem State.PlacedBut.clearOccupant_parts {s : State} (h : s.PlacedBut [] none) {k : Station} {c : Handle}
    (hc : (s.custodyOf k).occupant? = some c) (e : Byte) :
    ∃ u v, (s.releaseHold k).Thins u ∧ u.PlacedBut [c] (some k) ∧ u.Left c v
      ∧ (v.withCustody k .idle).Thins (s.clearOccupant k c e) := by
  have held := (h.take_occupant hc).releaseHold k
  have routed : ∀ w : State, (s.releaseHold k).Thins w → w.PlacedBut [c] (some k) →
      (s.releaseHold k).Thins (w.stageTransition k e c) ∧ (w.stageTransition k e c).PlacedBut [c] (some k) := fun w ht hw =>
    ⟨ht.trans (.onRoutes (State.stageTransition_onRoutes ..)), hw.onRoutes (State.stageTransition_onRoutes ..)⟩
  simp only [State.clearOccupant]
  generalize hm : (if (s.custodyOf k).deviates e = true then _ else s.releaseHold k) = w
  have marked : (s.releaseHold k).Thins w ∧ w.PlacedBut [c] (some k) := by
    rw [← hm]
    split
    · exact ⟨.modRecord _ c _ (.inl rfl), held.modRecord (.head _) _⟩
    · exact ⟨.refl _, held⟩
  obtain ⟨thin, placed⟩ := routed w marked.1 marked.2
  exact ⟨_, _, thin, placed, State.leaveBy_left placed.absent _,
    (State.Thins.withdrawDirective _ k).trans (.clearRoomEvent ..)⟩

/-- The removal of a jammed carrier in its parts (R106). -/
theorem State.PlacedBut.removeJammed_parts {s : State} (h : s.PlacedBut [] none) {k : Station} {c : Handle}
    (hc : (s.custodyOf k).occupant? = some c) (e : Exit) :
    ∃ u, (s.unreserve ((s.station k).exitSegment e.val)).Thins u ∧ (u.withCustody k .idle).Thins (s.removeJammed k c e) := by
  have held := h.take_occupant hc
  have thin : ∀ g, (s.unreserve g).Thins ((((s.unreserve g).unbindSlot? (s.record c).pendingRoute).modRecord c
      fun r => { r with pendingRoute := none }).makeLost c .lostJam) := fun g =>
    have absent : ∀ x, c ∉ ((s.unreserve g).unbindSlot? (s.record c).pendingRoute).queue x :=
      ((held.unreserve g).onRoutes (.unbindSlot? _ _)).absent
    ((State.Thins.onRoutes (.unbindSlot? _ (s.record c).pendingRoute)).trans
      (.modRecord _ c (fun r => { r with pendingRoute := none }) (.inl rfl))).trans (.makeLost _ (by exact absent) _)
  simp only [State.removeJammed, State.record_unreserve]
  refine ⟨_, thin _, ?_⟩
  split
  · exact (State.Thins.withdrawDirective _ k).trans (.raiseRoomEvent ..)
  · exact .withdrawDirective _ k

theorem State.hasRoom_iff {s : State} {g : Segment} : s.hasRoom g = true ↔ s.depth g < (s.segment g).capacity :=
  decide_eq_true_iff

theorem State.Thins.hasRoom {s t : State} (h : s.Thins t) {g : Segment} (hr : s.hasRoom g = true) : t.hasRoom g = true := by
  have hlen := (h.queues g).length_le
  rw [State.hasRoom_iff] at hr ⊢
  simp only [State.depth, State.reservedCount, State.segment, h.reserved, h.map] at hr ⊢
  omega

/-! ### Routes kept -/

/-- From `s` to `t` the Route Store is as it was, and no carrier has another route than before. -/
structure State.KeepsWays (s t : State) : Prop where
  routes : t.routes = s.routes
  route : ∀ x, (t.record x).route = (s.record x).route ∨ (t.record x).route = none

namespace State.KeepsWays

variable {s t u : State}

theorem refl (s : State) : s.KeepsWays s := ⟨rfl, fun _ => .inl rfl⟩

theorem trans (h : s.KeepsWays t) (h' : t.KeepsWays u) : s.KeepsWays u :=
  ⟨h'.1.trans h.1, fun x => (h'.2 x).elim (fun e => (h.2 x).imp e.trans e.trans) .inr⟩

theorem of_eq (hr : t.routes = s.routes) (hx : ∀ x, t.record x = s.record x) : s.KeepsWays t :=
  ⟨hr, fun x => .inl (by rw [hx])⟩

theorem withTags (s : State) (x : TagIndex) : s.KeepsWays (s.withTags x) := of_eq rfl fun _ => rfl

theorem modRecord (s : State) (c : Handle) (f : CarrierRecord → CarrierRecord)
    (hf : (f (s.record c)).route = (s.record c).route ∨ (f (s.record c)).route = none) : s.KeepsWays (s.modRecord c f) :=
  ⟨rfl, fun x => by
    rw [State.record_modRecord]
    split
    · next e => subst e; exact hf
    · exact .inl rfl⟩

theorem setException (s : State) (c : Handle) (k : ExceptionKind) : s.KeepsWays (s.setException c k) :=
  (modRecord s c (fun r => { r with exception := some k }) (.inl rfl)).trans (of_eq rfl fun _ => rfl)

theorem clearException (s : State) (c : Handle) : s.KeepsWays (s.clearException c) :=
  (modRecord s c (fun r => { r with exception := none }) (.inl rfl)).trans (of_eq rfl fun _ => rfl)

theorem makeLost (s : State) (c : Handle) (k : ExceptionKind) : s.KeepsWays (s.makeLost c k) :=
  (modRecord s c (fun r => { r with state := .lost, location := .nowhere, window := none }) (.inl rfl)).trans
    (setException _ c k)

theorem foldl_makeLost (k : ExceptionKind) (l : List Handle) (s : State) :
    s.KeepsWays (l.foldl (fun s h => s.makeLost h k) s) := by
  induction l generalizing s with
  | nil => exact refl s
  | cons c l ih => exact (makeLost s c k).trans (ih _)

theorem mark (s : State) (c : Handle) (f : CarrierFlags → CarrierFlags) : s.KeepsWays (s.mark c f) :=
  modRecord s c _ (.inl rfl)

theorem markEarly (s : State) (c : Handle) : s.KeepsWays (s.markEarly c) := by
  rw [State.markEarly_eq]; exact modRecord s c _ (.inl rfl)

theorem takeFromEntry (s : State) (g : Option Segment) (c : Handle) : s.KeepsWays (s.takeFromEntry g c) := by
  cases g <;> exact of_eq rfl fun _ => rfl

theorem extract (s : State) (c : Handle) : s.KeepsWays (s.extract c) := by
  rw [State.extract_eq]; exact of_eq rfl fun _ => rfl

theorem applyBinding (s : State) (g : Option Segment) (c : Handle) (how : Binding) :
    s.KeepsWays (s.applyBinding g c how) := by
  cases how with
  | position => exact takeFromEntry s g c
  | tagMatch => exact (markEarly s c).trans (takeFromEntry _ g c)
  | tagLearning u =>
    exact ((modRecord s c (fun r => { r with tag := some u, flags := { r.flags with tagLearned := true } }) (.inl rfl)).trans
      (withTags _ (TagIndex.add u c s.tags))).trans (takeFromEntry _ g c)
  | skip j =>
    cases g with
    | none => exact refl s
    | some g =>
      have dropped : (s.markEarly c).KeepsWays ((s.markEarly c).withQueue g (((s.markEarly c).queue g).drop (j + 1))) :=
        of_eq rfl fun _ => rfl
      exact (((markEarly s c).trans dropped).trans (foldl_makeLost _ _ _)).trans (of_eq rfl fun _ => rfl)
  | extraction => exact ((markEarly s c).trans (mark _ c _)).trans (takeFromEntry _ g c)
  | lateRecovery => exact (clearException s c).trans (mark _ c fun f => { f with late := true })
  | misrouteTake => exact ((extract s c).trans (clearException _ c)).trans (mark _ c fun f => { f with misrouted := true })

end State.KeepsWays

/-! ### An arrival (R67) -/

/-- An arrival in its parts: queues are thinned, and a carrier in no queue may be settled at the station. -/
theorem State.PlacedBut.resolveArrival_parts {s : State} (h : s.PlacedBut [] none) (k : Station)
    (port : Byte) (t : Tag) (seq : Byte) :
    s.Thins (s.resolveArrival k port t seq)
      ∨ s.isOutlet k = false ∧ ∃ c u v, s.Thins u ∧ s.KeepsWays u ∧ (∀ g, c ∉ u.queue g)
        ∧ u.Settled k c v ∧ v.Thins (s.resolveArrival k port t seq) := by
  simp only [State.resolveArrival]
  generalize (s.station k).entrySegment port.toNat = g
  split
  · next c how hr =>
    have hb := State.resolve_bind hr
    have bound := h.applyBinding hb
    have thin := (h.thins_applyBinding hb).trans (.bindArrival _ bound.absent k g)
    have ways := (State.KeepsWays.applyBinding s g c how).trans
      (.modRecord _ c (fun r => { r with
        sighting := some ⟨k, (s.applyBinding g c how).lineTime⟩, lastSegment := g, window := none }) (.inl rfl))
    have placed : ((s.applyBinding g c how).bindArrival k g c).PlacedBut [c] none := bound.modRecord_kept c fun _ => ⟨rfl, rfl⟩
    have outlet : ((s.applyBinding g c how).bindArrival k g c).isOutlet k = s.isOutlet k := by
      simp only [State.isOutlet, State.station, thin.map]
    unfold State.handOn
    rw [outlet]
    split
    · exact .inl (thin.trans (placed.thins_deliver k seq))
    · next ho =>
      obtain ⟨v, hv, ht⟩ := State.takeOccupant_settles placed.absent k seq
      exact .inr ⟨by simpa using ho, c, _, v, thin, ways, placed.absent, hv, ht⟩
  · next tag hr =>
    have counted : s.Thins (s.countUntracked k) := .of_records rfl fun _ _ _ => rfl
    unfold State.takeStranger
    split
    · exact .inl (counted.trans (.placeDirective ..))
    · next ho =>
      split
      · next x hx =>
        have hf := State.free_of_lowestFree hx
        have inHand := h.take_nowhere (c := x) (by rw [hf]; rfl) (by rw [hf]; rfl)
        have thin := (State.Thins.modRecord s x (fun r => .stranger r.generation k g tag s.lineTime)
          (.inr inHand.absent)).trans (.setException _ x .stranger)
        have ways := (State.KeepsWays.modRecord s x (fun r => .stranger r.generation k g tag s.lineTime) (.inr rfl)).trans
          (.setException _ x .stranger)
        have settled : ∀ w : State, s.Thins w → s.KeepsWays w → (∀ g, x ∉ w.queue g) →
            ∃ c u v, s.Thins u ∧ s.KeepsWays u ∧ (∀ g, c ∉ u.queue g) ∧ u.Settled k c v
              ∧ v.Thins (w.takeOccupant k x seq) := fun w ht hw hc => by
          obtain ⟨v, hv, hv'⟩ := State.takeOccupant_settles hc k seq
          exact ⟨x, w, v, ht, hw, hc, hv, hv'⟩
        refine .inr ⟨by simpa using ho, ?_⟩
        simp only [State.createStranger]
        cases tag with
        | none => exact settled _ thin ways inHand.absent
        | some u => exact settled _ (thin.trans (.withTags ..)) (ways.trans (.withTags ..)) inHand.absent
      · exact .inl (counted.trans (.placeDirective ..))

/-- INDUCT in its parts (R36). -/
theorem State.PlacedBut.induct_parts {s : State} (h : s.PlacedBut [] none) {g : Segment} {c : Handle}
    (hf : (s.record c).state = .free) (t : Tag) (cls : Option Class) (q : Slot) :
    ∃ u, s.Thins u ∧ u.PlacedBut [c] none ∧ (u.append g c .staged).Thins (s.induct g c t cls q) := by
  have inHand := h.take_nowhere (c := c) (by rw [hf]; rfl) (by rw [hf]; rfl)
  refine ⟨s.modRecord c fun r => .inducted r.generation (if t = 0 then none else some t) cls q,
    .modRecord s c _ (.inr inHand.absent), inHand.modRecord (.head _) _, ?_⟩
  simp only [State.induct]
  split
  · exact .of_records rfl fun _ _ _ => rfl
  · exact .of_records rfl fun _ _ _ => rfl

end Sys2Proof.Machine
end

section
/-! Every step keeps Laws 4 and 6 (R47, R59): reserved counts, and room. -/

-- One declaration at a time, which holds the text's memory down.
set_option Elab.async false

namespace Sys2Proof.Machine

/-- Of a list without repeats, one element counted apart. -/
theorem countP_apart {α : Type} [DecidableEq α] (p : α → Bool) (i : α) {l : List α} (hl : l.Nodup) :
    l.countP p = l.countP (fun j => Decidable.decide (j ≠ i) && p j) + if i ∈ l then (p i).toNat else 0 := by
  induction l with
  | nil => rfl
  | cons a l ih =>
    obtain ⟨ha, hl⟩ := List.nodup_cons.mp hl
    rw [List.countP_cons, List.countP_cons, ih hl]
    by_cases e : a = i
    · subst e
      simp only [ha, if_false, List.mem_cons, true_or, if_true, ne_eq, not_true, decide_false, Bool.false_and]
      cases p a <;> simp
    · have : i ≠ a := Ne.symm e
      simp only [List.mem_cons, this, false_or, ne_eq, e, not_false_eq_true, decide_true, Bool.true_and]
      omega

/-! ### Reservations with one station left out of account -/

/-- A segment's reserved count is the number of stations directed onto it, station `k` left out of account; and no segment
holds more than its capacity. -/
structure State.RoomBut (s : State) (k : Option Station) : Prop where
  reserved : ∀ g, s.reservedCount g
    = (List.finRange Config.stations).countP fun st => Decidable.decide (k ≠ some st) && Decidable.decide (s.directedSegment st = some g)
  capacity : s.CapacityLaw

theorem State.roomBut_none (s : State) : s.RoomBut none ↔ s.ReservationLaw ∧ s.CapacityLaw := by
  have same : ∀ g, ((List.finRange Config.stations).countP fun st =>
      Decidable.decide ((none : Option Station) ≠ some st) && Decidable.decide (s.directedSegment st = some g))
      = (List.finRange Config.stations).countP fun st => Decidable.decide (s.directedSegment st = some g) := fun g =>
    List.countP_congr fun _ _ => by simp
  exact ⟨fun h => ⟨fun g => (h.reserved g).trans (same g), h.capacity⟩,
    fun h => ⟨fun g => (h.1 g).trans (same g).symm, h.2⟩⟩

/-- The reservations of all stations, one counted apart. -/
theorem State.countP_directed (s : State) (k : Station) (g : Segment) :
    ((List.finRange Config.stations).countP fun st => Decidable.decide (s.directedSegment st = some g))
      = ((List.finRange Config.stations).countP fun st =>
          Decidable.decide (some k ≠ some st) && Decidable.decide (s.directedSegment st = some g))
        + if s.directedSegment k = some g then 1 else 0 := by
  rw [countP_apart _ k (List.nodup_finRange _), if_pos (List.mem_finRange k)]
  congr 1
  · refine List.countP_congr fun st _ => ?_
    have : Decidable.decide (st ≠ k) = Decidable.decide (some k ≠ some st) :=
      decide_eq_decide.mpr (not_congr ⟨fun e => e ▸ rfl, fun e => (Option.some.inj e).symm⟩)
    rw [this]
  · split
    · next h => rw [decide_eq_true h]; rfl
    · next h => rw [decide_eq_false h]; rfl

namespace State.RoomBut

variable {s t : State} {k : Option Station}

theorem thins (h : s.RoomBut k) (ht : s.Thins t) : t.RoomBut k := by
  have hdir : t.directedSegment = s.directedSegment := by
    funext st; simp only [State.directedSegment, State.custodyOf, State.station, ht.custody, ht.map]
  have hres : t.reservedCount = s.reservedCount := by funext g; simp only [State.reservedCount, ht.reserved]
  refine ⟨fun g => by rw [hres, hdir]; exact h.reserved g, fun g => ?_⟩
  have hlen := (ht.queues g).length_le
  have hcap := h.capacity g
  simp only [State.depth, State.segment, hres, ht.map] at hcap ⊢
  omega

theorem withWaiters (h : s.RoomBut k) (w : Table Config.segments (List Station)) :
    (s.withTracker { s.tracker with waiters := w }).RoomBut k := ⟨h.reserved, h.capacity⟩

/-- The reservation of a station released, and the station left out of account. -/
theorem release (h : s.RoomBut none) (st : Station) : (s.unreserve (s.directedSegment st)).RoomBut (some st) := by
  have law := ((s.roomBut_none).mp h).1
  cases hd : s.directedSegment st with
  | none =>
    refine ⟨fun g => ?_, h.capacity⟩
    have := s.countP_directed st g
    rw [hd] at this
    exact (law g).trans this
  | some x =>
    have hdir : (s.unreserve (some x)).directedSegment = s.directedSegment := rfl
    have hres : ∀ g, (s.unreserve (some x)).reservedCount g = if x = g then s.reservedCount x - 1 else s.reservedCount g :=
      fun g => State.reservedCount_withReserved ..
    refine ⟨fun g => ?_, fun g => ?_⟩
    · have split := s.countP_directed st g
      rw [hd] at split
      rw [hres, hdir]
      have hg := law g
      split
      · next e => subst e; rw [if_pos rfl] at split; omega
      · next e => rw [if_neg fun h => e (Option.some.inj h)] at split; omega
    · have hcap := h.capacity g
      have hq : (s.unreserve (some x)).queue g = s.queue g := rfl
      have hs : (s.unreserve (some x)).segment g = s.segment g := rfl
      simp only [State.depth, hq, hs, hres] at hcap ⊢
      split
      · next e => subst e; omega
      · exact hcap

/-- A station without a reservation left out of account. -/
theorem setAside (h : s.RoomBut none) {st : Station} (hd : s.directedSegment st = none) : s.RoomBut (some st) := by
  have := h.release st
  rwa [hd] at this

/-- The directions of stations after one station's custody changed. -/
theorem directedSegment_withCustody (s : State) (st st' : Station) (x : Custody) :
    (s.withCustody st x).directedSegment st'
      = if st = st' then x.directedExit?.bind fun e => (s.station st').exitSegment e.val else s.directedSegment st' := by
  unfold State.directedSegment
  rw [State.custodyOf_withCustody]
  split <;> rfl

theorem countP_withCustody (s : State) (st : Station) (x : Custody) (g : Segment) :
    ((List.finRange Config.stations).countP fun st' =>
        Decidable.decide (some st ≠ some st') && Decidable.decide ((s.withCustody st x).directedSegment st' = some g))
      = (List.finRange Config.stations).countP fun st' =>
        Decidable.decide (some st ≠ some st') && Decidable.decide (s.directedSegment st' = some g) :=
  List.countP_congr fun st' _ => by
    rw [directedSegment_withCustody]
    by_cases e : st = st'
    · simp [e]
    · simp [e]

/-- A station left with no exit directed counts again. -/
theorem vacate {st : Station} (h : s.RoomBut (some st)) {x : Custody} (hx : x.directedExit? = none) :
    (s.withCustody st x).RoomBut none := by
  refine (State.roomBut_none _).mpr ⟨fun g => ?_, h.capacity⟩
  rw [State.countP_directed _ st, countP_withCustody, directedSegment_withCustody, if_pos rfl, hx]
  exact h.reserved g

/-- A station's occupant directed to an exit whose segment has room. -/
theorem direct {st : Station} (h : s.RoomBut (some st)) {c : Handle} {e : Exit} {g : Segment} (x : Option Time)
    (hg : (s.station st).exitSegment e.val = some g) (hr : s.hasRoom g = true) :
    ((s.withReserved g (s.reservedCount g + 1)).withCustody st (.occupied c e x)).RoomBut none := by
  have hres : ∀ g', ((s.withReserved g (s.reservedCount g + 1)).withCustody st (.occupied c e x)).reservedCount g'
      = if g = g' then s.reservedCount g + 1 else s.reservedCount g' := fun g' => State.reservedCount_withReserved ..
  refine (State.roomBut_none _).mpr ⟨fun g' => ?_, fun g' => ?_⟩
  · rw [State.countP_directed _ st, countP_withCustody, directedSegment_withCustody, if_pos rfl, hres]
    have hd : ((Custody.occupied c e x).directedExit?.bind fun e => (s.station st).exitSegment e.val) = some g := hg
    have hold := h.reserved g'
    change _ = ((List.finRange Config.stations).countP fun st' =>
        Decidable.decide (some st ≠ some st') && Decidable.decide (s.directedSegment st' = some g'))
      + if ((Custody.occupied c e x).directedExit?.bind fun e => (s.station st).exitSegment e.val) = some g' then 1 else 0
    rw [hd, ← hold]
    split
    · next e => subst e; rw [if_pos rfl]
    · next e => rw [if_neg fun h => e (Option.some.inj h)]; rfl
  · have hcap := h.capacity g'
    have hq : ((s.withReserved g (s.reservedCount g + 1)).withCustody st (.occupied c e x)).queue g' = s.queue g' := rfl
    have hs : ((s.withReserved g (s.reservedCount g + 1)).withCustody st (.occupied c e x)).segment g' = s.segment g' := rfl
    simp only [State.depth, hq, hs, hres] at hcap ⊢
    split
    · next e =>
      subst e
      have hr := State.hasRoom_iff.mp hr; simp only [State.depth] at hr
      omega
    · exact hcap

/-- A carrier appended to a segment with room. -/
theorem append (h : s.RoomBut k) {g : Segment} (hr : s.hasRoom g = true) (c : Handle) (x : CarrierState) :
    (s.append g c x).RoomBut k := by
  refine ⟨h.reserved, fun g' => ?_⟩
  have hcap := h.capacity g'
  have hq : (s.append g c x).queue g' = if g = g' then s.queue g ++ [c] else s.queue g' := State.queue_withQueue ..
  have hs : (s.append g c x).segment g' = s.segment g' := rfl
  have hv : (s.append g c x).reservedCount g' = s.reservedCount g' := rfl
  simp only [State.depth, hq, hs, hv] at hcap ⊢
  split
  · next e =>
    subst e
    have hr := State.hasRoom_iff.mp hr; simp only [State.depth] at hr
    simp only [List.length_append, List.length_singleton]
    omega
  · exact hcap

theorem settled (h : s.RoomBut none) {st : Station} {c : Handle} (hd : s.directedSegment st = none)
    (hs : s.Settled st c t) : t.RoomBut none := by
  have aside := h.setAside hd
  cases hs with
  | dwell x => exact aside.vacate rfl
  | directed x hg hr => exact aside.direct x hg hr
  | @blocked g =>
    have put : (s.withCustody st (.heldBlocked c)).RoomBut none := aside.vacate rfl
    cases g with
    | none => exact put
    | some g => exact put.withWaiters _

theorem left (h : s.RoomBut k) {c : Handle} (hl : s.Left c t) : t.RoomBut k := by
  cases hl with
  | appended hr => exact h.append hr c _
  | gone ht => exact h.thins ht

theorem releaseHold (h : s.RoomBut none) {st : Station} (hh : (s.custodyOf st).isHalted = false) :
    (s.releaseHold st).RoomBut (some st) := by
  unfold State.releaseHold
  split
  · next hc => have := h.release st; rwa [State.directedSegment, hc] at this
  · next hc => have := h.release st; rwa [State.directedSegment, hc] at this
  · next hc => exact (h.setAside (by simp only [State.directedSegment, hc]; rfl)).withWaiters _
  · next h1 h2 h3 =>
    refine h.setAside ?_
    cases hc : s.custodyOf st with
    | idle | heldDwell => simp only [State.directedSegment, hc]; rfl
    | occupied c e x => exact absurd hc (h1 c e x)
    | heldBlocked c => exact absurd hc (h3 c)
    | jammed c e => exact absurd hc (h2 c e)
    | halted v => rw [hc] at hh; cases hh

end State.RoomBut

/-! ### Every event -/

/-- Laws 4 and 6 with the places of carriers. -/
def State.RoomLaws (s : State) : Prop := s.PlaceLaws ∧ s.RoomBut none

theorem State.absent_of_occupant {s : State} (h : s.PlaceLaws) {k : Station} {c : Handle}
    (hc : (s.custodyOf k).occupant? = some c) (g : Segment) : c ∉ s.queue g := fun hg => by
  have hq := (h.1.2.1 g c hg).1
  rw [(h.2.1.1 k c hc).1, CarrierState.not_queued_of_inCustody (Custody.occupantState_inCustody _)] at hq
  cases hq

theorem State.directedSegment_none {s : State} {k : Station} (h : (s.custodyOf k).directedExit? = none) :
    s.directedSegment k = none := by simp only [State.directedSegment, h]; rfl

theorem State.RoomBut.redecide {s : State} (h : s.RoomBut none) (hp : s.PlaceLaws) {k : Station} {c : Handle}
    (hc : (s.custodyOf k).occupant? = some c) (hd : (s.custodyOf k).directedExit? = none) : (s.redecide k c).RoomBut none := by
  obtain ⟨u, hu, ht⟩ := State.redecide_settles (State.absent_of_occupant hp hc) k
  exact (h.settled (State.directedSegment_none hd) hu).thins ht

theorem State.RoomBut.wake {s : State} (h : s.RoomBut none) (hp : s.PlaceLaws) (g : Segment) (k : Station) :
    (s.wake g k).RoomBut none := by
  have hw : (s.withWaiters g ((s.waiterList g).erase k)).RoomBut none := h.withWaiters _
  have hpw : (s.withWaiters g ((s.waiterList g).erase k)).PlaceLaws := hp
  simp only [State.wake]
  split
  · next c hc => exact hw.redecide hpw (by rw [hc]; rfl) (by rw [hc]; rfl)
  · exact hw

theorem State.RoomBut.grantRounds (g : Segment) (n : Nat) (woken : List Station) {s : State} (h : s.RoomBut none)
    (hp : s.PlaceLaws) : (State.grantRounds g n woken s).RoomBut none := by
  induction n generalizing woken s with
  | zero => exact h
  | succ n ih =>
    unfold State.grantRounds
    split
    · split
      · exact ih _ (h.wake hp g _) (hp.wake g _)
      · exact h
    · exact h

/-- With nothing queued, reserved or directed there is room. -/
theorem State.roomBut_of_empty {s : State} (hq : ∀ g, s.queue g = []) (hr : ∀ g, s.reservedCount g = 0)
    (hd : ∀ k, s.directedSegment k = none) : s.RoomBut none := by
  refine ⟨fun g => ?_, fun g => ?_⟩
  · rw [hr, eq_comm, List.countP_eq_zero]
    intro st _
    simp [hd]
  · simp [State.depth, hq, hr]

theorem Custody.directedExit?_of_occupant? {c : Custody} (h : c.occupant? = none) : c.directedExit? = none := by
  cases c with
  | idle => rfl
  | halted v =>
    cases v with
    | idle => rfl
    | occupied | heldDwell | heldBlocked | jammed => cases h
  | _ => cases h

/-- At rest nothing is reserved. -/
theorem State.RoomBut.still {s : State} (h : s.RoomBut none) (hp : s.PlaceLaws) (hd : s.map.device ≠ .running) (g : Segment) :
    s.reservedCount g = 0 := by
  rw [h.reserved, List.countP_eq_zero]
  intro st _
  simp [State.directedSegment_none (Custody.directedExit?_of_occupant? ((hp.still hd).2.2 st))]

/-- What a STATION_TUNE accepted writes: the fields given (R17). -/
theorem stationTuneRecord?_eq_some {p : StationTuneParams} {r r' : StationRecord} :
    stationTuneRecord? p r = some r' ↔
      maskFits p.mask 5 = true ∧ r.configured = true
        ∧ ¬ (r.type = .outlet ∧ (given p.mask 3 = true ∨ given p.mask 4 = true ∨ (given p.mask 2 = true ∧ p.occupancyLimit ≠ 0)))
        ∧ ∃ level limit occupancy dflt reject,
          tuned (given p.mask 0) (CheckLevel.ofCode p.checkLevel) r.checkLevel = some level
            ∧ tuned (given p.mask 1) ((index? 8 p.skipLimit).map Fin.val) r.skipLimit = some limit
            ∧ tuned (given p.mask 2) (some p.occupancyLimit) r.occupancyLimit = some occupancy
            ∧ tuned (given p.mask 3) ((index? Config.exits p.defaultExit).filter (belowCount r)) r.defaultExit = some dflt
            ∧ tuned (given p.mask 4) ((optIndex? Config.exits p.rejectExit).filter fun e => e.all (belowCount r)) r.rejectExit
              = some reject
            ∧ r' = { r with
                checkLevel := level, skipLimit := limit, occupancyLimit := occupancy, defaultExit := dflt
                rejectExit := reject } := by
  by_cases hm : ¬ maskFits p.mask 5 = true ∨ ¬ r.configured = true
  · simp only [stationTuneRecord?, if_pos hm, Option.bind_eq_bind, Option.bind_none, reduceCtorEq, false_iff]
    rintro ⟨h1, h2, -⟩
    exact hm.elim (· h1) (· h2)
  · by_cases ho : r.type = .outlet ∧ (given p.mask 3 = true ∨ given p.mask 4 = true
        ∨ (given p.mask 2 = true ∧ p.occupancyLimit ≠ 0))
    · simp only [stationTuneRecord?, if_neg hm, if_pos ho, Option.bind_eq_bind, Option.bind_eq_some_iff, Option.bind_none,
        reduceCtorEq, and_false, exists_false, false_iff]
      exact fun h => h.2.2.1 ho
    · obtain ⟨h1, h2⟩ := not_or.mp hm
      simp only [stationTuneRecord?, if_neg hm, if_neg ho, Option.bind_eq_bind, Option.bind_eq_some_iff, Option.pure_def,
        Option.some.injEq]
      constructor
      · rintro ⟨a, ha, b, hb, c, hc, d, hd, e, he, rfl⟩
        exact ⟨not_not.mp h1, not_not.mp h2, ho, a, b, c, d, e, ha, hb, hc, hd, he, rfl⟩
      · rintro ⟨-, -, -, a, b, c, d, e, ha, hb, hc, hd, he, rfl⟩
        exact ⟨a, ha, b, hb, c, hc, d, hd, e, he, rfl⟩

/-- STATION_TUNE leaves type, zone, entry segments and exits (R17). -/
theorem stationTuneRecord?_kept {p : StationTuneParams} {r r' : StationRecord} (h : stationTuneRecord? p r = some r') :
    r'.type = r.type ∧ r'.zone = r.zone ∧ r'.port0 = r.port0 ∧ r'.port1 = r.port1 ∧ r'.exits = r.exits := by
  obtain ⟨-, -, -, a, b, c, d, e, -, -, -, -, -, rfl⟩ := stationTuneRecord?_eq_some.mp h
  exact ⟨rfl, rfl, rfl, rfl, rfl⟩

/-- The capacity, the minimum and the maximum transit that a SEGMENT_TUNE gives (R18). -/
def SegmentRecord.tunedBy (r : SegmentRecord) (p : SegmentTuneParams) : SegmentRecord :=
  { r with
    capacity := if given p.mask 0 then p.capacity.toNat else r.capacity
    minTransit := if given p.mask 1 ∧ r.kind = .conveyor then p.minTransit else r.minTransit
    maxTransit := if given p.mask 2 then p.maxTransit else r.maxTransit }

/-- What a SEGMENT_TUNE accepted writes: the fields given (R18). -/
theorem segmentTuneRecord?_eq_some {p : SegmentTuneParams} {r r' : SegmentRecord} {n : Nat} :
    segmentTuneRecord? p r n = some r' ↔
      maskFits p.mask 3 = true ∧ r.used = true
        ∧ ¬ (given p.mask 0 = true ∧ (p.capacity = 0 ∨ 64 < p.capacity.toNat ∨ p.capacity.toNat < n))
        ∧ ¬ (given p.mask 2 = true ∧ p.maxTransit = 0)
        ∧ ¬ ((r.tunedBy p).kind = .conveyor ∧ (r.tunedBy p).maxTransit.toNat < (r.tunedBy p).minTransit.toNat)
        ∧ r' = r.tunedBy p := by
  by_cases hm : ¬ maskFits p.mask 3 = true ∨ ¬ r.used = true
  · simp only [segmentTuneRecord?, if_pos hm, Option.bind_eq_bind, Option.bind_none, reduceCtorEq, false_iff]
    rintro ⟨h1, h2, -⟩
    exact hm.elim (· h1) (· h2)
  · obtain ⟨h1, h2⟩ := not_or.mp hm
    by_cases hc : given p.mask 0 = true ∧ (p.capacity = 0 ∨ 64 < p.capacity.toNat ∨ p.capacity.toNat < n)
    · simp only [segmentTuneRecord?, if_neg hm, if_pos hc, Option.bind_eq_bind, Option.bind_none, reduceCtorEq, false_iff]
      exact fun h => h.2.2.1 hc
    · by_cases hx : given p.mask 2 = true ∧ p.maxTransit = 0
      · simp only [segmentTuneRecord?, if_neg hm, if_neg hc, if_pos hx, Option.bind_eq_bind, Option.bind_none, reduceCtorEq,
          false_iff]
        exact fun h => h.2.2.2.1 hx
      · have step : segmentTuneRecord? p r n
            = if (r.tunedBy p).kind = .conveyor ∧ (r.tunedBy p).maxTransit.toNat < (r.tunedBy p).minTransit.toNat then none
              else some (r.tunedBy p) := by
          simp only [segmentTuneRecord?, if_neg hm, if_neg hc, if_neg hx, Option.bind_eq_bind, Option.bind_none,
            Option.pure_def]
          rfl
        rw [step]
        split
        · next hw => exact ⟨nofun, fun h => absurd hw h.2.2.2.2.1⟩
        · next hw =>
          rw [Option.some.injEq]
          exact ⟨fun h => ⟨not_not.mp h1, not_not.mp h2, hc, hx, hw, h.symm⟩, fun h => h.2.2.2.2.2.symm⟩

/-- SEGMENT_TUNE leaves kind, upstream and downstream, and writes no capacity below what the segment holds (R18). -/
theorem segmentTuneRecord?_kept {p : SegmentTuneParams} {r r' : SegmentRecord} {n : Nat}
    (h : segmentTuneRecord? p r n = some r') :
    r'.kind = r.kind ∧ r'.upstream = r.upstream ∧ r'.downstream = r.downstream ∧ (n ≤ r.capacity → n ≤ r'.capacity) := by
  obtain ⟨-, -, hc, -, -, rfl⟩ := segmentTuneRecord?_eq_some.mp h
  refine ⟨rfl, rfl, rfl, fun hn => ?_⟩
  show n ≤ if given p.mask 0 = true then p.capacity.toNat else r.capacity
  split
  · next hg => exact Nat.le_of_not_lt fun hlt => hc ⟨hg, .inr (.inr hlt)⟩
  · exact hn

/-! ### The Line Map's events -/

/-- Reservations read the exits of the map, room its capacities. -/
theorem State.RoomBut.withMap {s : State} (h : s.RoomBut none) {m : LineMap}
    (hx : ∀ k, (m.stations.get k).exits = (s.station k).exits)
    (hc : ∀ g, s.depth g ≤ (m.segments.get g).capacity) : (s.withMap m).RoomBut none := by
  have hd : (s.withMap m).directedSegment = s.directedSegment := by
    funext k
    have : (s.withMap m).custodyOf k = s.custodyOf k := rfl
    simp only [State.directedSegment, this, State.station, State.withMap_map, StationRecord.exitSegment, hx]
  exact ⟨fun g => by rw [hd]; exact h.reserved g, hc⟩

theorem MapEvent.roomBut {s t : State} (h : s.RoomBut none) (hp : s.PlaceLaws) (e : MapEvent s t) : t.RoomBut none := by
  cases e with
  | @setStation p r k hd hr =>
    have rest : s.map.device ≠ .running := by rw [hd]; decide
    refine State.roomBut_of_empty (hp.still rest).2.1 (h.still hp rest) fun k' => State.directedSegment_none ?_
    refine Custody.directedExit?_of_occupant? ?_
    change (((s.withStation k r).withCustody k (s.freshCustody r)).custodyOf k').occupant? = none
    rw [State.custodyOf_withCustody]
    split
    · unfold State.freshCustody; split <;> rfl
    · exact (hp.still rest).2.2 k'
  | setSegment g hd hr =>
    have rest : s.map.device ≠ .running := by rw [hd]; decide
    refine h.withMap (fun _ => rfl) fun g' => ?_
    have : s.depth g' = 0 := by simp only [State.depth, (hp.still rest).2.1 g', h.still hp rest g']; rfl
    omega
  | @tuneStation p k r hr =>
    refine h.withMap (fun k' => ?_) h.capacity
    simp only [Table.get_set]
    split
    · next e => subst e; exact (stationTuneRecord?_kept hr).2.2.2.2
    · rfl
  | @tuneSegment p g r hr =>
    refine h.withMap (fun _ => rfl) fun g' => ?_
    simp only [Table.get_set]
    split
    · next e => subst e; exact (segmentTuneRecord?_kept hr).2.2.2 (h.capacity g)
    · exact h.capacity g'
  | setPolicy | beginValidation | passValidation | failValidation | stop => exact h.withMap (fun _ => rfl) h.capacity

/-! ### Every event -/

theorem State.RoomBut.congr {s t : State} (h : s.RoomBut none) (hq : t.queue = s.queue)
    (hr : t.reservedCount = s.reservedCount) (hs : t.station = s.station) (hg : t.segment = s.segment)
    (hc : ∀ k, (t.custodyOf k).directedExit? = (s.custodyOf k).directedExit?) : t.RoomBut none := by
  have hd : t.directedSegment = s.directedSegment := by funext k; simp only [State.directedSegment, hc, hs]
  refine ⟨fun g => by rw [hr, hd]; exact h.reserved g, fun g => ?_⟩
  have := h.capacity g
  simpa only [State.depth, hq, hr, hg] using this

theorem State.RoomBut.of_same {s t : State} (hs : s.SameCore t) (h : s.RoomBut none) : t.RoomBut none :=
  h.congr hs.queue hs.reservedCount hs.station hs.segment fun k => by rw [hs.custodyOf]

theorem State.OnlyZones.roomBut {s t : State} (hz : s.OnlyZones t) (h : s.RoomBut none) : t.RoomBut none := by
  refine h.congr ?_ ?_ ?_ ?_ fun k => (hz.custody k).exit <;> rw [hz.frame] <;> rfl

theorem State.roomBut_reset : State.reset.RoomBut none :=
  State.roomBut_of_empty (fun _ => Table.get_fill _ _) (fun _ => Table.get_fill _ _) fun k =>
    State.directedSegment_none (by rw [State.custodyOf, show State.reset.custody.get k = .idle from Table.get_fill _ _]; rfl)

theorem Event.roomBut {s t : State} (h : s.RoomBut none) (hp : s.PlaceLaws) (e : Event s t) : t.RoomBut none := by
  cases e with
  | idle => exact h
  | reset => exact State.roomBut_reset
  | tick => exact h.congr rfl rfl rfl rfl fun _ => rfl
  | ofMap e => exact e.roomBut h hp
  | ofRoute e => rw [e.frame]; exact h.congr rfl rfl rfl rfl fun _ => rfl
  | causes z c => exact (State.OnlyZones.withCauses s z c).roomBut h
  | latches n mask => exact (State.OnlyZones.latchMask s n mask).roomBut h
  | resetTracking =>
    refine State.roomBut_of_empty (fun _ => Table.get_fill _ _) (fun _ => Table.get_fill _ _) fun k =>
      State.directedSegment_none ?_
    simp only [State.resetTracking, State.custodyOf, Table.get_mapRows]
    split <;> rfl
  | arrival k port t seq hc hd hi =>
    have hn : s.directedSegment k = none := State.directedSegment_none (by rw [hi]; rfl)
    rcases (hp.placed hd).resolveArrival_parts k port t seq with ht | ⟨-, c, u, v, hu, -, -, hv, ht⟩
    · exact h.thins ht
    · have hn' : u.directedSegment k = none := by
        rw [← hn]; simp only [State.directedSegment, State.custodyOf, State.station, hu.custody, hu.map]
      exact ((h.thins hu).settled hn' hv).thins ht
  | clear k c e hc hd ho hh =>
    obtain ⟨u, v, hu, -, hv, ht⟩ := (hp.placed hd).clearOccupant_parts ho e
    exact (((h.releaseHold hh).thins hu).left hv |>.vacate rfl).thins ht
  | removeJam k c e hd hj =>
    obtain ⟨u, hu, ht⟩ := (hp.placed hd).removeJammed_parts (c := c) (by rw [hj]; rfl) e
    have hrel := h.release k
    rw [State.directedSegment, hj] at hrel
    exact ((hrel.thins hu).vacate rfl).thins ht
  | grant g n woken => exact h.grantRounds g n woken hp
  | @redecide k c x hk => exact h.redecide hp (by rw [hk]; rfl) (by rw [hk]; rfl)
  | @jam k c e x hk =>
    refine h.congr rfl rfl rfl rfl fun k' => ?_
    rw [State.custodyOf_withCustody]
    split
    · next e => subst e; rw [hk]; rfl
    · rfl
  | @expire g c hx =>
    have hg : c ∈ s.queue g := List.mem_of_mem_head? (State.mem_of_expiredHead hx)
    have hd := hp.running_of_live (CarrierState.ne_free_of_queued (hp.1.2.1 g c hg).1)
    exact h.thins ((State.Thins.dequeue s g c).trans (.makeLost _ ((hp.placed hd).dequeue hg).absent _))
  | purge g hd => exact h.thins ((hp.placed hd).thins_purge g)
  | @induct g c t cls q p hd ht hq hf hr =>
    obtain ⟨u, hu, -, hv⟩ := (hp.placed hd).induct_parts (g := g) hf t cls q
    exact ((h.thins hu).append (hu.hasRoom hr) c _).thins hv
  | rerouteNow => rw [State.rerouteNow_eq]; exact h.congr rfl rfl rfl rfl fun _ => rfl
  | rerouteLater => rw [State.rerouteLater_eq]; exact h.congr rfl rfl rfl rfl fun _ => rfl
  | @retire c hs =>
    have hd := hp.running_of_live (c := c) fun e => by rw [e] at hs; cases hs
    exact h.thins ((hp.placed hd).thins_retire hs)

end Sys2Proof.Machine
end

section
/-! Every step keeps Law 11 (R60): a station stands on one waiter list, once, exactly while it is HELD BLOCKED or saved so. On
a line that passed START's validation every decision's exit feeds a segment, so a blocked station has a list to join. -/

-- One declaration at a time, which holds the text's memory down.
set_option Elab.async false

namespace Sys2Proof.Machine

/-! ### Decisions on a valid line -/

/-- An entry names exits that its station has. -/
def State.EntryInRange (s : State) (e : DecisionEntry) : Prop :=
  match e.preference with
  | .fixed a => a.val < (s.station e.station).exits.length
  | .balance a b => a.val < (s.station e.station).exits.length ∧ b.val < (s.station e.station).exits.length

/-- What decisions rest on: transfers and infeeds have their default exit, and the sets of the stages that carriers are in
name exits that are there. -/
structure State.SoundWays (s : State) : Prop where
  defaultExit : ∀ k, s.configured k = true → s.isOutlet k = false →
    (s.station k).defaultExit.val < (s.station k).exits.length
  entries : ∀ x r stage, (s.record x).route = some r → s.stageOf r = some stage →
    ∀ e ∈ (s.setOf stage.set).entries, s.EntryInRange e

theorem State.SoundWays.congr {s t : State} (h : s.SoundWays) (hm : t.map.stations = s.map.stations)
    (hw : s.KeepsWays t) : t.SoundWays := by
  have hst : t.station = s.station := by funext k; simp only [State.station, hm]
  have hstage : t.stageOf = s.stageOf := by
    funext r; simp only [State.stageOf, State.programOf, State.slotOf, hw.routes]
  have hset : t.setOf = s.setOf := by funext i; simp only [State.setOf, hw.routes]
  refine ⟨fun k => ?_, fun x r stage hx hs e he => ?_⟩
  · simp only [State.configured, State.isOutlet, hst]; exact h.defaultExit k
  · rw [hstage] at hs
    rw [hset] at he
    have hx' : (s.record x).route = some r := (hw.route x).elim (fun e => e ▸ hx) fun e => by rw [e] at hx; cases hx
    have := h.entries x r stage hx' hs e he
    simpa only [State.EntryInRange, hst] using this

theorem State.SoundWays.of_same {s t : State} (hs : s.SameCore t) (h : s.SoundWays) : t.SoundWays :=
  h.congr hs.stations (.of_eq hs.routes fun x => by rw [hs.record])

theorem SlotState.program?_of_counted? {x : SlotState} {p : Program} (h : x.counted? = some p) : x.program? = some p := by
  cases x <;> cases h <;> rfl

/-- A RUNNING line's decisions rest on what START's validation and the Route Store's laws say (R12, R14, R117). -/
theorem State.soundWays_of_laws {s : State} (hd : s.map.device = .running) (hr : s.RouteLaw) (hv : s.ValidLaw)
    (hg : s.RangeLaw) : s.SoundWays := by
  obtain ⟨-, hstations, -, hslots⟩ := hv hd
  refine ⟨fun k hc ho => ?_, fun x r stage hx hs e he => ?_⟩
  · have hshape := (hstations k hc).1
    rw [if_neg (by simpa [State.isOutlet] using ho)] at hshape
    obtain ⟨-, -, -, hdef, -⟩ := hg.1 k
    exact hdef.resolve_right fun h => hshape h.1
  · obtain ⟨p, hp, hstage, -⟩ := hr.2.2 x r hx
    obtain ⟨stage', hget, -, hentries, -⟩ := hslots _ p hp _ hstage
    have : s.stageOf r = p.stages.get r.stage := by
      simp only [State.stageOf, State.programOf, SlotState.program?_of_counted? hp, Option.bind_some]
    rw [this, hget] at hs
    cases hs
    have valid := (hentries e he).2.2
    exact valid

theorem DecisionSet.mem_of_entryFor {d : DecisionSet} {k : Station} {x : Preference} (h : d.entryFor k = some x) :
    ∃ e ∈ d.entries, e.station = k ∧ e.preference = x := by
  obtain ⟨e, he, hx⟩ := Option.map_eq_some_iff.mp h
  exact ⟨e, List.mem_of_find?_eq_some he, by simpa using List.find?_some he, hx⟩

theorem State.balance_exit (s : State) (k : Station) (a b : Exit) :
    (s.balance k a b).exit = a ∨ (s.balance k a b).exit = b := by
  unfold State.balance
  split
  · split
    · exact .inl rfl
    · split
      · exact .inr rfl
      · cases s.toggles.get k
        · exact .inl rfl
        · exact .inr rfl
  · exact .inl rfl
  · exact .inr rfl
  · exact .inl rfl

/-- The preferred exit is one the station has (R130, R131). -/
theorem State.SoundWays.preferredExit_lt {s : State} (h : s.SoundWays) {k : Station} (hc : s.configured k = true)
    (ho : s.isOutlet k = false) (c : Handle) : (s.preferredExit k c).exit.val < (s.station k).exits.length := by
  have hdef := h.defaultExit k hc ho
  have hpos : 0 < (s.station k).exits.length := Nat.lt_of_le_of_lt (Nat.zero_le _) hdef
  unfold State.preferredExit
  split
  · exact hpos
  · split
    · exact hdef
    · next r hr =>
      have entry : ∀ x, s.routeEntry r k = some x → ∃ stage e, s.stageOf r = some stage ∧ e ∈ (s.setOf stage.set).entries
          ∧ e.station = k ∧ e.preference = x := fun x hx => by
        obtain ⟨stage, hs, he⟩ := Option.bind_eq_some_iff.mp hx
        obtain ⟨e, hm, hk, hp⟩ := DecisionSet.mem_of_entryFor he
        exact ⟨stage, e, hs, hm, hk, hp⟩
      split
      · next a ha =>
        obtain ⟨stage, e, hs, hm, hk, hp⟩ := entry _ ha
        have hin := h.entries c r stage hr hs e hm
        simpa only [State.EntryInRange, hp, hk] using hin
      · next a b hab =>
        obtain ⟨stage, e, hs, hm, hk, hp⟩ := entry _ hab
        have hin := h.entries c r stage hr hs e hm
        simp only [State.EntryInRange, hp, hk] at hin
        rcases s.balance_exit k a b with e | e <;> rw [e]
        · exact hin.1
        · exact hin.2
      · exact hpos

/-- A decision that is blocked is blocked on a segment. -/
theorem State.SoundWays.blocked_on {s : State} (h : s.SoundWays) {k : Station} (hc : s.configured k = true)
    (ho : s.isOutlet k = false) {c : Handle} {x : Option Segment} (hb : (s.decide k c).choice = .blocked x) :
    ∃ g, x = some g := by
  have hlt := h.preferredExit_lt hc ho c
  have hpos : 0 < (s.station k).exits.length := Nat.lt_of_le_of_lt (Nat.zero_le _) hlt
  have feeds : ∀ e : Exit, e.val < (s.station k).exits.length → ∃ g, (s.station k).exitSegment e.val = some g := fun e he =>
    ⟨_, List.getElem?_eq_getElem he⟩
  have room : ∀ e : Exit, e.val < (s.station k).exits.length → s.roomTest k e = .blocked x → ∃ g, x = some g :=
    fun e he hr => by
      unfold State.roomTest at hr
      split at hr
      · cases hr
      · cases hr; exact feeds e he
  simp only [State.decide] at hb
  split at hb
  · split at hb
    · exact room 0 hpos hb
    · cases hb; exact feeds 0 hpos
  · exact room _ hlt hb

/-! ### Waiter lists with one station left out of account -/

/-- Law 11, station `k` left out of account and on no list. -/
structure State.WaitBut (s : State) (k : Option Station) : Prop where
  nodup : ∀ g, (s.waiterList g).Nodup
  once : ∀ g g' st, st ∈ s.waiterList g → st ∈ s.waiterList g' → g = g'
  waits : ∀ st, k ≠ some st → ((∃ g, st ∈ s.waiterList g) ↔ (s.custodyOf st).waits = true)
  off : ∀ st, k = some st → ∀ g, st ∉ s.waiterList g

theorem State.waitBut_none (s : State) : s.WaitBut none ↔ s.WaiterLaw :=
  ⟨fun h => ⟨h.nodup, h.once, fun st => h.waits st nofun⟩, fun h => ⟨h.1, h.2.1, fun st _ => h.2.2 st, nofun⟩⟩

namespace State.WaitBut

variable {s t : State} {k : Option Station} {st : Station}

theorem congr (h : s.WaitBut k) (hw : t.waiterList = s.waiterList)
    (hc : ∀ st, (t.custodyOf st).waits = (s.custodyOf st).waits) : t.WaitBut k :=
  ⟨by rw [hw]; exact h.nodup, by rw [hw]; exact h.once, fun st hk => by rw [hw, hc]; exact h.waits st hk,
    by rw [hw]; exact h.off⟩

theorem thins (h : s.WaitBut k) (ht : s.Thins t) : t.WaitBut k :=
  h.congr (by funext g; simp only [State.waiterList, ht.waiters]) fun st => by simp only [State.custodyOf, ht.custody]

theorem of_same (hs : s.SameCore t) (h : s.WaitBut k) : t.WaitBut k := h.congr hs.waiterList fun st => by rw [hs.custodyOf]

/-- A station that does not wait left out of account. -/
theorem setAside (h : s.WaitBut none) (hk : (s.custodyOf st).waits = false) : s.WaitBut (some st) := by
  refine ⟨h.nodup, h.once, fun st' _ => h.waits st' nofun, fun st' e g hm => ?_⟩
  cases e
  have := (h.waits st nofun).mp ⟨g, hm⟩
  rw [hk] at this; cases this

/-- A station taken off every list. -/
theorem leave (h : s.WaitBut none) (st : Station) : (s.leaveWaiters st).WaitBut (some st) := by
  have hw : ∀ g, (s.leaveWaiters st).waiterList g = (s.waiterList g).filter fun x => x ≠ st := fun g =>
    Table.get_mapRows _ _ _
  have mem : ∀ g x, x ∈ (s.leaveWaiters st).waiterList g ↔ x ∈ s.waiterList g ∧ x ≠ st := fun g x => by
    rw [hw, List.mem_filter]; simp
  refine ⟨fun g => by rw [hw]; exact (h.nodup g).filter _, fun g g' x hg hg' => ?_, fun x hx => ?_, fun x e g hm => ?_⟩
  · exact h.once g g' x ((mem g x).mp hg).1 ((mem g' x).mp hg').1
  · have hne : x ≠ st := fun e => hx (e ▸ rfl)
    have := h.waits x nofun
    simp only [mem, hne, ne_eq, not_false_eq_true, and_true]
    exact this
  · cases e; exact ((mem g st).mp hm).2 rfl

/-- A waiter taken off the list it stands on. -/
theorem erase (h : s.WaitBut none) {g : Segment} (hg : st ∈ s.waiterList g) :
    (s.withWaiters g ((s.waiterList g).erase st)).WaitBut (some st) := by
  have hw : ∀ g', (s.withWaiters g ((s.waiterList g).erase st)).waiterList g'
      = if g = g' then (s.waiterList g).erase st else s.waiterList g' := fun g' => State.waiterList_withWaiters ..
  have mem : ∀ g' x, x ∈ (s.withWaiters g ((s.waiterList g).erase st)).waiterList g' ↔ x ∈ s.waiterList g' ∧ x ≠ st :=
    fun g' x => by
      rw [hw]
      split
      · next e => subst e; rw [(h.nodup g).mem_erase_iff, and_comm]
      · next e => exact ⟨fun hx => ⟨hx, fun e' => e (h.once g g' st hg (e' ▸ hx))⟩, And.left⟩
  refine ⟨fun g' => ?_, fun g₁ g₂ x h₁ h₂ => ?_, fun x hx => ?_, fun x e g' hm => ?_⟩
  · rw [hw]
    split
    · exact (h.nodup g).erase st
    · exact h.nodup g'
  · exact h.once g₁ g₂ x ((mem g₁ x).mp h₁).1 ((mem g₂ x).mp h₂).1
  · have hne : x ≠ st := fun e => hx (e ▸ rfl)
    have := h.waits x nofun
    simp only [mem, hne, ne_eq, not_false_eq_true, and_true]
    exact this
  · cases e; exact ((mem g' st).mp hm).2 rfl

/-- A station that does not wait counts again. -/
theorem vacate (h : s.WaitBut (some st)) {x : Custody} (hx : x.waits = false) : (s.withCustody st x).WaitBut none := by
  refine ⟨h.nodup, h.once, fun st' _ => ?_, nofun⟩
  rw [State.custodyOf_withCustody]
  split
  · next e =>
    subst e
    rw [hx]
    exact ⟨fun ⟨g, hg⟩ => absurd hg (h.off st rfl g), nofun⟩
  · next e => exact h.waits st' fun h => e (Option.some.inj h)

/-- A station HELD BLOCKED put at the tail of one list. -/
theorem join (h : s.WaitBut (some st)) (c : Handle) (g : Segment) :
    ((s.withCustody st (.heldBlocked c)).joinWaiters (some g) st).WaitBut none := by
  have hw : ∀ g', ((s.withCustody st (.heldBlocked c)).joinWaiters (some g) st).waiterList g'
      = if g = g' then s.waiterList g ++ [st] else s.waiterList g' := fun g' => State.waiterList_withWaiters ..
  have hc : ∀ st', ((s.withCustody st (.heldBlocked c)).joinWaiters (some g) st).custodyOf st'
      = if st = st' then .heldBlocked c else s.custodyOf st' := fun st' => State.custodyOf_withCustody ..
  have off := h.off st rfl
  have mem : ∀ g' x, x ∈ ((s.withCustody st (.heldBlocked c)).joinWaiters (some g) st).waiterList g'
      ↔ x ∈ s.waiterList g' ∨ (x = st ∧ g = g') := fun g' x => by
    rw [hw]
    split
    · next e => subst e; simp
    · next e => simp [e]
  refine ⟨fun g' => ?_, fun g₁ g₂ x h₁ h₂ => ?_, fun x _ => ?_, nofun⟩
  · rw [hw]
    split
    · refine List.nodup_append.mpr ⟨h.nodup g, List.nodup_singleton st, fun a ha b hb => ?_⟩
      rw [List.mem_singleton.mp hb]
      exact fun e => off g (e ▸ ha)
    · exact h.nodup g'
  · rcases (mem g₁ x).mp h₁ with m₁ | ⟨rfl, e₁⟩ <;> rcases (mem g₂ x).mp h₂ with m₂ | ⟨e₂', e₂⟩
    · exact h.once g₁ g₂ x m₁ m₂
    · exact absurd (e₂' ▸ m₁) (off g₁)
    · exact absurd m₂ (off g₂)
    · exact e₁.symm.trans e₂
  · rw [hc]
    by_cases e : st = x
    · subst e
      rw [if_pos rfl]
      exact ⟨fun _ => rfl, fun _ => ⟨g, (mem g st).mpr (.inr ⟨rfl, rfl⟩)⟩⟩
    · rw [if_neg e, ← h.waits x fun h => e (Option.some.inj h)]
      have hne : x ≠ st := Ne.symm e
      simp only [mem, hne, false_and, or_false]

theorem settled (h : s.WaitBut (some st)) {c : Handle} (hb : ∀ x, (s.decide st c).choice = .blocked x → ∃ g, x = some g)
    (hs : s.Settled st c t) : t.WaitBut none := by
  cases hs with
  | dwell x => exact h.vacate rfl
  | directed x hg hr => exact (h.congr rfl fun _ => rfl : (s.withReserved _ _).WaitBut (some st)).vacate rfl
  | blocked hd =>
    obtain ⟨g, rfl⟩ := hb _ hd
    exact h.join c g

theorem left (h : s.WaitBut k) {c : Handle} (hl : s.Left c t) : t.WaitBut k := by
  cases hl with
  | appended hr => exact h.congr rfl fun _ => rfl
  | gone ht => exact h.thins ht

theorem unreserve (h : s.WaitBut k) (g : Option Segment) : (s.unreserve g).WaitBut k := by
  cases g with
  | none => exact h
  | some g => exact h.congr rfl fun _ => rfl

theorem releaseHold (h : s.WaitBut none) (hh : (s.custodyOf st).isHalted = false) :
    (s.releaseHold st).WaitBut (some st) := by
  unfold State.releaseHold
  split
  · next hc => exact (h.setAside (by rw [hc]; rfl)).unreserve _
  · next hc => exact (h.setAside (by rw [hc]; rfl)).unreserve _
  · exact h.leave st
  · next h1 h2 h3 =>
    refine h.setAside ?_
    cases hc : s.custodyOf st with
    | heldBlocked c => exact absurd hc (h3 c)
    | halted v => rw [hc] at hh; cases hh
    | _ => rfl

end State.WaitBut

/-! ### Held stations -/

/-- A station that holds an occupant is configured and no OUTLET. -/
def State.Stands (s : State) : Prop :=
  ∀ k c, (s.custodyOf k).occupant? = some c → s.configured k = true ∧ s.isOutlet k = false

theorem State.HaltLaw.stands {s : State} (h : s.HaltLaw) : s.Stands := fun k c hc => by
  obtain ⟨halt, outlet⟩ := h k
  constructor
  · by_contra hn
    rw [if_neg hn] at halt
    rw [halt] at hc; cases hc
  · by_contra ho
    rw [outlet (by simpa using ho)] at hc; cases hc

theorem State.Stands.of_same {s t : State} (hs : s.SameCore t) (h : s.Stands) : t.Stands := by
  unfold State.Stands at h ⊢
  rw [hs.custodyOf, hs.configured, hs.isOutlet]; exact h

theorem State.KeepsWays.markDecision (s : State) (k : Station) (c : Handle) (d : Decision) :
    s.KeepsWays (s.markDecision k c d) := by
  refine (modRecord s c (fun r => { r with flags := { r.flags with missed := r.flags.missed || d.missed } }) (.inl rfl)).trans ?_
  rw [State.markDecision_eq]; exact of_eq rfl fun _ => rfl

theorem State.KeepsWays.redecide (s : State) (k : Station) (c : Handle) : s.KeepsWays (s.redecide k c) := by
  have put : ∀ (u : State) (x : CarrierState), u.KeepsWays (u.putInCustody k c x) := fun u x => modRecord u c _ (.inl rfl)
  simp only [State.redecide]
  refine (markDecision s k c (s.decide k c)).trans ?_
  split
  · refine (put _ .atStation).trans ?_
    simp only [State.directTo, State.reserve]
    split <;> exact of_eq rfl fun _ => rfl
  · next g _ =>
    refine (put _ .held).trans ?_
    cases g <;> exact of_eq rfl fun _ => rfl

theorem State.Settled.map {s t : State} {k : Station} {c : Handle} (h : s.Settled k c t) : t.map = s.map := by
  cases h with
  | dwell | directed => rfl
  | @blocked g => cases g <;> rfl

theorem State.Settled.custodyOf {s t : State} {k : Station} {c : Handle} (h : s.Settled k c t) {st : Station}
    (hne : k ≠ st) : t.custodyOf st = s.custodyOf st := by
  cases h with
  | dwell x => rw [State.custodyOf_withCustody, if_neg hne]
  | directed => rw [State.custodyOf_withCustody, if_neg hne]; rfl
  | @blocked g =>
    have : ((s.withCustody k (.heldBlocked c)).joinWaiters g k).custodyOf st
        = (s.withCustody k (.heldBlocked c)).custodyOf st := by cases g <;> rfl
    rw [this, State.custodyOf_withCustody, if_neg hne]

/-- What a grant's rounds rest on. -/
structure State.WaitLaws (s : State) : Prop where
  place : s.PlaceLaws
  ways : s.map.device = .running → s.SoundWays
  stands : s.Stands
  wait : s.WaitBut none

namespace State.WaitLaws

variable {s t : State}

theorem of_same (hs : s.SameCore t) (h : s.WaitLaws) : t.WaitLaws :=
  ⟨.of_same hs h.place, fun hd => .of_same hs (h.ways (hs.device ▸ hd)), .of_same hs h.stands, .of_same hs h.wait⟩

/-- A fresh decision of the occupant of a station on no waiter list. -/
theorem redecide {w : State} (hp : w.PlaceLaws) (hw : w.map.device = .running → w.SoundWays) (hs : w.Stands) {k : Station}
    {c : Handle} (hc : (w.custodyOf k).occupant? = some c) (h : w.WaitBut (some k)) : (w.redecide k c).WaitLaws := by
  have hd := hp.running_of_occupant hc
  obtain ⟨u, hu, ht⟩ := State.redecide_settles (State.absent_of_occupant hp hc) k
  have hmap : (w.redecide k c).map = w.map := ht.map.trans hu.map
  obtain ⟨hconf, hout⟩ := hs k c hc
  have station : (w.redecide k c).station = w.station := by funext x; simp only [State.station, hmap]
  refine ⟨hp.redecide hc, fun _ => (hw hd).congr (by rw [hmap]) (.redecide w k c), fun st x hx => ?_,
    (h.settled (fun x hb => (hw hd).blocked_on hconf hout hb) hu).thins ht⟩
  have hcust : (w.redecide k c).custodyOf st = u.custodyOf st := by simp only [State.custodyOf, ht.custody]
  simp only [State.configured, State.isOutlet, station]
  by_cases e : k = st
  · subst e; exact ⟨hconf, hout⟩
  · rw [hcust, hu.custodyOf e] at hx
    exact hs st x hx

theorem wake (h : s.WaitLaws) {g : Segment} {k : Station} {woken : List Station} (hn : s.nextWaiter g woken = some k) :
    (s.wake g k).WaitLaws := by
  have hm : k ∈ s.waiterList g := List.mem_of_find?_eq_some hn
  have hh : (s.custodyOf k).isHalted = false := by
    have := List.find?_some hn
    simp only [Bool.and_eq_true, Bool.not_eq_true'] at this
    exact this.1
  have hw := (h.wait.waits k nofun).mp ⟨g, hm⟩
  obtain ⟨c, hc⟩ : ∃ c, s.custodyOf k = .heldBlocked c := by
    cases hx : s.custodyOf k with
    | heldBlocked c => exact ⟨c, rfl⟩
    | halted v => rw [hx] at hh; cases hh
    | _ => rw [hx] at hw; cases hw
  have off := h.wait.erase hm
  have woken : s.wake g k = (s.withWaiters g ((s.waiterList g).erase k)).redecide k c := by
    have hc' : (s.withWaiters g ((s.waiterList g).erase k)).custodyOf k = .heldBlocked c := hc
    simp only [State.wake, hc']
  have place : (s.withWaiters g ((s.waiterList g).erase k)).PlaceLaws := h.place
  have stands : (s.withWaiters g ((s.waiterList g).erase k)).Stands := h.stands
  have ways : s.map.device = .running → (s.withWaiters g ((s.waiterList g).erase k)).SoundWays := fun hd =>
    (h.ways hd).congr rfl (.of_eq rfl fun _ => rfl)
  have held : (s.custodyOf k).occupant? = some c := by rw [hc]; rfl
  rw [woken]
  exact redecide place ways stands held off

theorem grantRounds (g : Segment) (n : Nat) (woken : List Station) {s : State} (h : s.WaitLaws) :
    (State.grantRounds g n woken s).WaitLaws := by
  induction n generalizing woken s with
  | zero => exact h
  | succ n ih =>
    unfold State.grantRounds
    split
    · split
      · next hn => exact ih _ (h.wake hn)
      · exact h
    · exact h

end State.WaitLaws

/-! ### Every event -/

/-- With no station waiting and the lists empty Law 11 holds. -/
theorem State.waitBut_of_empty {s : State} (hw : ∀ g, s.waiterList g = []) (hc : ∀ k, (s.custodyOf k).waits = false) :
    s.WaitBut none := by
  refine ⟨fun g => by rw [hw]; exact .nil, fun g g' st hg => ?_, fun st _ => ⟨fun ⟨g, hg⟩ => ?_, fun h => ?_⟩, nofun⟩
  · rw [hw] at hg; cases hg
  · rw [hw] at hg; cases hg
  · rw [hc] at h; cases h

theorem Custody.waits_of_occupant? {c : Custody} (h : c.occupant? = none) : c.waits = false := by
  cases c with
  | idle => rfl
  | halted v =>
    cases v with
    | idle => rfl
    | occupied | heldDwell | heldBlocked | jammed => cases h
  | _ => cases h

theorem MapEvent.waitBut {s t : State} (h : s.WaitLaws) (e : MapEvent s t) : t.WaitBut none := by
  cases e with
  | @setStation p r k hd hr =>
    have rest := (h.place.still (by rw [hd]; decide)).2.2
    have empty : ∀ g, s.waiterList g = [] := fun g => List.eq_nil_iff_forall_not_mem.mpr fun st hm => by
      have := (h.wait.waits st nofun).mp ⟨g, hm⟩
      rw [Custody.waits_of_occupant? (rest st)] at this; cases this
    refine State.waitBut_of_empty empty fun k' => Custody.waits_of_occupant? ?_
    change (((s.withStation k r).withCustody k (s.freshCustody r)).custodyOf k').occupant? = none
    rw [State.custodyOf_withCustody]
    split
    · unfold State.freshCustody; split <;> rfl
    · exact rest k'
  | _ => exact h.wait.congr rfl fun _ => rfl

theorem State.OnlyZones.waitBut {s t : State} (hz : s.OnlyZones t) (h : s.WaitBut none) : t.WaitBut none :=
  h.congr (by rw [hz.frame]; rfl) fun k => (hz.custody k).waits

theorem State.waitBut_reset : State.reset.WaitBut none :=
  State.waitBut_of_empty (fun _ => Table.get_fill _ _) fun k => by
    rw [State.custodyOf, show State.reset.custody.get k = .idle from Table.get_fill _ _]; rfl

theorem Event.waitBut {s t : State} (h : s.WaitLaws) (e : Event s t) : t.WaitBut none := by
  have hp := h.place
  cases e with
  | idle => exact h.wait
  | reset => exact State.waitBut_reset
  | tick => exact h.wait.congr rfl fun _ => rfl
  | ofMap e => exact e.waitBut h
  | ofRoute e => rw [e.frame]; exact h.wait.congr rfl fun _ => rfl
  | causes z c => exact (State.OnlyZones.withCauses s z c).waitBut h.wait
  | latches n mask => exact (State.OnlyZones.latchMask s n mask).waitBut h.wait
  | resetTracking =>
    refine State.waitBut_of_empty (fun _ => Table.get_fill _ _) fun k => ?_
    simp only [State.resetTracking, State.custodyOf, Table.get_mapRows]
    split <;> rfl
  | arrival k port t seq hc hd hi =>
    rcases (hp.placed hd).resolveArrival_parts k port t seq with ht | ⟨ho, c, u, v, hu, hw, -, hv, ht⟩
    · exact h.wait.thins ht
    · have sound : u.SoundWays := (h.ways hd).congr (by rw [hu.map]) hw
      have station : u.station = s.station := by funext x; simp only [State.station, hu.map]
      have aside : u.WaitBut (some k) := (h.wait.setAside (st := k) (by rw [hi]; rfl)).thins hu
      refine (aside.settled (fun x hb => sound.blocked_on ?_ ?_ hb) hv).thins ht
      · simp only [State.configured, station]; exact hc
      · simp only [State.isOutlet, station]; exact ho
  | clear k c e hc hd ho hh =>
    obtain ⟨u, v, hu, -, hv, ht⟩ := (hp.placed hd).clearOccupant_parts ho e
    exact ((((h.wait.releaseHold hh).thins hu).left hv).vacate rfl).thins ht
  | removeJam k c e hd hj =>
    obtain ⟨u, hu, ht⟩ := (hp.placed hd).removeJammed_parts (c := c) (by rw [hj]; rfl) e
    exact ((((h.wait.setAside (st := k) (by rw [hj]; rfl)).unreserve _).thins hu).vacate rfl).thins ht
  | grant g n woken => exact (h.grantRounds g n woken).wait
  | @redecide k c x hk =>
    exact (State.WaitLaws.redecide hp h.ways h.stands (by rw [hk]; rfl) (h.wait.setAside (by rw [hk]; rfl))).wait
  | @jam k c e x hk => exact (h.wait.setAside (st := k) (by rw [hk]; rfl)).vacate rfl
  | @expire g c hx =>
    have hg : c ∈ s.queue g := List.mem_of_mem_head? (State.mem_of_expiredHead hx)
    have hd := hp.running_of_live (CarrierState.ne_free_of_queued (hp.1.2.1 g c hg).1)
    exact h.wait.thins ((State.Thins.dequeue s g c).trans (.makeLost _ ((hp.placed hd).dequeue hg).absent _))
  | purge g hd => exact h.wait.thins ((hp.placed hd).thins_purge g)
  | @induct g c t cls q p hd ht hq hf hr =>
    obtain ⟨u, hu, -, hv⟩ := (hp.placed hd).induct_parts (g := g) hf t cls q
    exact ((h.wait.thins hu).congr rfl fun _ => rfl : (u.append g c .staged).WaitBut none).thins hv
  | rerouteNow => rw [State.rerouteNow_eq]; exact h.wait.congr rfl fun _ => rfl
  | rerouteLater => rw [State.rerouteLater_eq]; exact h.wait.congr rfl fun _ => rfl
  | @retire c hs =>
    have hd := hp.running_of_live (c := c) fun e => by rw [e] at hs; cases hs
    exact h.wait.thins ((hp.placed hd).thins_retire hs)

end Sys2Proof.Machine
end

section
/-! Every step keeps Law 5 (R49, R50): the windows along a queue; and with it O58, the laws of room. -/

-- One declaration at a time, which holds the text's memory down.
set_option Elab.async false

namespace Sys2Proof.Machine

/-! ### Windows compared -/

theorem Time.isAfter_iff {now t : Time} : Time.isAfter now t = true ↔ 1 ≤ (t - now).toNat ∧ (t - now).toNat ≤ 65535 := by
  simp [Time.isAfter]

/-- A time a number of ticks ahead of now. -/
theorem Ticks.toNat_sub_asTime (now : Time) (x : Ticks) : (now + x.asTime - now).toNat = x.toNat := by
  have hx := x.isLt
  have : (x.asTime).toNat = x.toNat := by
    simp only [Ticks.asTime, BitVec.toNat_setWidth]
    omega
  rw [show now + x.asTime - now = x.asTime by bv_omega, this]

theorem Window.NotAfter.refl (now : Time) (w : Window) : w.NotAfter now w := by
  cases w with
  | timed e d => exact fun h => ⟨h, Nat.le_refl _⟩
  | remaining e r => exact Nat.le_refl _

/-- One tick on, the order of two deadlines stands, unless the one ahead lay 65536 ticks ahead. -/
theorem Window.NotAfter.tick {now : Time} {w w' : Window} (h : w.NotAfter now w')
    (hd : ∀ e d, w = .timed e d → d ≠ now + 65536) : w.NotAfter (now + 1) w' := by
  cases w with
  | remaining e r =>
    cases w' with
    | remaining e' r' => exact h
    | timed e' d' => cases h
  | timed e d =>
    cases w' with
    | remaining e' r' => cases h
    | timed e' d' =>
      intro hp
      have hne := hd e d rfl
      rw [Time.isAfter_iff] at hp
      have hp' : Time.isAfter now d = true := by rw [Time.isAfter_iff]; bv_omega
      obtain ⟨hq, hle⟩ := h hp'
      rw [Time.isAfter_iff] at hq hp'
      rw [Time.isAfter_iff]
      bv_omega

theorem Time.toNat_left (now t : Time) :
    (Time.left now t).toNat = if Time.isAfter now t then (t - now).toNat else 0 := by
  unfold Time.left
  split
  · next h =>
    rw [Time.isAfter_iff] at h
    rw [BitVec.toNat_setWidth, Nat.mod_eq_of_lt (by omega)]
  · rfl

/-- Suspended, two windows keep their order (R161). -/
theorem Window.NotAfter.suspend {now : Time} {w w' : Window} (h : w.NotAfter now w') :
    (w.suspend now).NotAfter now (w'.suspend now) := by
  cases w with
  | remaining e r =>
    cases w' with
    | remaining e' r' => exact h
    | timed e' d' => cases h
  | timed e d =>
    cases w' with
    | remaining e' r' => cases h
    | timed e' d' =>
      show (Time.left now d).toNat ≤ (Time.left now d').toNat
      rw [Time.toNat_left, Time.toNat_left]
      split
      · next hp =>
        obtain ⟨hq, hle⟩ := h hp
        rw [if_pos hq]; exact hle
      · exact Nat.zero_le _

/-- Running on, two windows keep their order (R165). -/
theorem Window.NotAfter.runOn {now : Time} {w w' : Window} (h : w.NotAfter now w') :
    (w.runOn now).NotAfter now (w'.runOn now) := by
  cases w with
  | timed e d =>
    cases w' with
    | timed e' d' => exact h
    | remaining e' r' => cases h
  | remaining e r =>
    cases w' with
    | timed e' d' => cases h
    | remaining e' r' =>
      have hr : r.toNat ≤ r'.toNat := h
      intro hp
      have hlt := r'.isLt
      rw [Time.isAfter_iff, Ticks.toNat_sub_asTime] at hp
      rw [Time.isAfter_iff, Ticks.toNat_sub_asTime, Ticks.toNat_sub_asTime]
      omega

/-! ### The law under changes of state -/

/-- The law after the windows of each queue are changed by a map that keeps their order. -/
theorem State.WindowLaw.map {s t : State} (h : s.WindowLaw) (hq : t.queue = s.queue) (f : Segment → Window → Window)
    (hw : ∀ g, ∀ x ∈ s.queue g, (t.record x).window = (s.record x).window.map (f g))
    (hf : ∀ g, ∀ x ∈ s.queue g, ∀ w, (s.record x).window = some w → w.isRemaining = s.segmentSuspended g →
      (f g w).isRemaining = t.segmentSuspended g)
    (hm : ∀ g, ∀ x ∈ s.queue g, ∀ w w', (s.record x).window = some w → w.isRemaining = s.segmentSuspended g →
      w.NotAfter s.lineTime w' → (f g w).NotAfter t.lineTime (f g w')) : t.WindowLaw := by
  intro g
  obtain ⟨form, order⟩ := h g
  rw [hq]
  refine ⟨fun x hx => ?_, order.imp_of_mem fun {x y} hx hy hxy => ?_⟩
  · obtain ⟨w, hxw, hr⟩ := form x hx
    exact ⟨f g w, by rw [hw g x hx, hxw]; rfl, hf g x hx w hxw hr⟩
  · intro v v' hv hv'
    obtain ⟨w, hxw, hr⟩ := form x hx
    obtain ⟨w', hyw, -⟩ := form y hy
    rw [hw g x hx, hxw] at hv
    rw [hw g y hy, hyw] at hv'
    cases hv; cases hv'
    exact hm g x hx w w' hxw hr (hxy w w' hxw hyw)

theorem State.segmentSuspended_congr {s t : State} (hst : t.map.stations = s.map.stations)
    (hg : ∀ g, (t.segment g).downstream = (s.segment g).downstream) (hp : t.map.policies = s.map.policies)
    (hc : t.zones.causes = s.zones.causes) : t.segmentSuspended = s.segmentSuspended := by
  funext g
  simp only [State.segmentSuspended, State.segmentZone, State.zoneHalted, State.station, hst, hg, hp, hc]

theorem State.WindowLaw.thins {s t : State} (h : s.WindowLaw) (ht : s.Thins t) : t.WindowLaw := by
  have hsus : t.segmentSuspended = s.segmentSuspended :=
    State.segmentSuspended_congr (by rw [ht.map]) (fun _ => by rw [State.segment, ht.map]; rfl) (by rw [ht.map])
      (by rw [ht.zones])
  intro g
  obtain ⟨form, order⟩ := h g
  rw [hsus, ht.lineTime]
  refine ⟨fun x hx => ?_, (order.sublist (ht.queues g)).imp_of_mem fun {x y} hx hy hxy => ?_⟩
  · rw [ht.windows g x hx]; exact form x ((ht.queues g).subset hx)
  · rw [ht.windows g x hx, ht.windows g y hy]; exact hxy

theorem State.WindowLaw.of_empty {s : State} (hq : ∀ g, s.queue g = []) : s.WindowLaw := by
  intro g
  rw [hq]
  exact ⟨nofun, List.Pairwise.nil⟩

/-- A change of what the law does not read. -/
theorem State.WindowLaw.congr {s t : State} (h : s.WindowLaw) (hl : t.lineTime = s.lineTime) (hq : t.queue = s.queue)
    (hr : ∀ x, (t.record x).window = (s.record x).window) (hst : t.map.stations = s.map.stations)
    (hg : ∀ g, (t.segment g).downstream = (s.segment g).downstream) (hp : t.map.policies = s.map.policies)
    (hc : t.zones.causes = s.zones.causes) : t.WindowLaw := by
  have hsus := State.segmentSuspended_congr hst hg hp hc
  intro g
  obtain ⟨form, order⟩ := h g
  rw [hsus, hl, hq]
  refine ⟨fun x hx => by rw [hr]; exact form x hx, order.imp fun {x y} hxy => by rw [hr, hr]; exact hxy⟩

/-! ### A carrier appended (R49, R50) -/

/-- The window a carrier is appended with comes after every window of the queue. -/
theorem State.WindowLaw.notAfter_appendWindow {s : State} (h : s.WindowLaw) {g : Segment}
    (hmax : (s.segment g).maxTransit ≠ 0) {x : Handle} (hx : x ∈ s.queue g) {w : Window}
    (hw : (s.record x).window = some w) : w.NotAfter s.lineTime (s.appendWindow g) := by
  obtain ⟨form, order⟩ := h g
  obtain ⟨tail, hl⟩ : ∃ tail, (s.queue g).getLast? = some tail := by
    cases hl : (s.queue g).getLast? with
    | some tail => exact ⟨tail, rfl⟩
    | none => rw [List.getLast?_eq_none_iff] at hl; rw [hl] at hx; cases hx
  obtain ⟨ahead, hsplit⟩ := List.getLast?_eq_some_iff.mp hl
  have htail : tail ∈ s.queue g := by rw [hsplit]; simp
  obtain ⟨wt, hwt, hrt⟩ := form tail htail
  have before : w.NotAfter s.lineTime wt := by
    rw [hsplit] at hx order
    rcases List.mem_append.mp hx with ha | ha
    · exact (List.pairwise_append.mp order).2.2 x ha tail (.head _) w wt hw hwt
    · rw [List.mem_singleton.mp ha, hwt] at hw; cases hw; exact .refl _ _
  obtain ⟨w', hw', hr⟩ := form x hx
  rw [hw] at hw'; cases hw'
  simp only [State.appendWindow]
  split
  · next hs =>
    rw [hs] at hr hrt
    cases wt with
    | timed => cases hrt
    | remaining et rt =>
      cases w with
      | timed => cases hr
      | remaining e r =>
        have hle : r.toNat ≤ rt.toNat := before
        have htr : s.tailRemaining g = rt := by simp only [State.tailRemaining, hl, hwt]
        rw [htr]
        show r.toNat ≤ (if (s.segment g).maxTransit.toNat < rt.toNat then rt else (s.segment g).maxTransit).toNat
        split <;> omega
  · next hs =>
    rw [Bool.not_eq_true] at hs
    rw [hs] at hr hrt
    cases wt with
    | remaining => cases hrt
    | timed et dt =>
      cases w with
      | remaining => cases hr
      | timed e d =>
        intro hp
        obtain ⟨hpt, hle⟩ := before hp
        have htd : s.tailDeadline g = some dt := by simp only [State.tailDeadline, hl, hwt, if_pos hpt]
        have hown : Time.isAfter s.lineTime (s.lineTime + (s.segment g).maxTransit.asTime) = true := by
          have : (s.segment g).maxTransit.toNat ≠ 0 := fun e => hmax (BitVec.eq_of_toNat_eq e)
          have hlt := (s.segment g).maxTransit.isLt
          rw [Time.isAfter_iff, Ticks.toNat_sub_asTime]
          omega
        rw [htd]
        dsimp only
        split
        · exact ⟨hpt, hle⟩
        · exact ⟨hown, by omega⟩

/-- A carrier that is in no queue appended. -/
theorem State.WindowLaw.append {s : State} (h : s.WindowLaw) {g : Segment} (hmax : (s.segment g).maxTransit ≠ 0)
    {c : Handle} (hc : ∀ g, c ∉ s.queue g) (x : CarrierState) : (s.append g c x).WindowLaw := by
  have own : ((s.append g c x).record c).window = some (s.appendWindow g) := by
    rw [State.append_eq]; simp only [State.record, Table.get_set_self]
  have rest : ∀ y ≠ c, (s.append g c x).record y = s.record y := fun y hy => by
    rw [State.append_eq]; simp only [State.record, Table.get_set_ne _ (Ne.symm hy)]
  have same : ∀ g', ∀ y ∈ s.queue g', (s.append g c x).record y = s.record y := fun g' y hy =>
    rest y fun e => hc g' (e ▸ hy)
  have hsus : (s.append g c x).segmentSuspended = s.segmentSuspended :=
    State.segmentSuspended_congr rfl (fun _ => rfl) rfl rfl
  have hq : ∀ g', (s.append g c x).queue g' = if g = g' then s.queue g ++ [c] else s.queue g' := fun g' =>
    State.queue_withQueue ..
  intro g'
  obtain ⟨form, order⟩ := h g'
  have order' : (s.queue g').Pairwise fun y y' => ∀ w w', ((s.append g c x).record y).window = some w →
      ((s.append g c x).record y').window = some w' → w.NotAfter s.lineTime w' :=
    order.imp_of_mem fun {y y'} hy hy' hyy => by rw [same g' y hy, same g' y' hy']; exact hyy
  rw [hsus, hq]
  change _ ∧ List.Pairwise (fun y y' => ∀ w w', ((s.append g c x).record y).window = some w →
      ((s.append g c x).record y').window = some w' → w.NotAfter s.lineTime w') _
  split
  · next e =>
    subst e
    refine ⟨fun y hy => ?_, List.pairwise_append.mpr ⟨order', List.pairwise_singleton _ _, fun y hy y' hy' => ?_⟩⟩
    · rcases List.mem_append.mp hy with hy | hy
      · rw [same g y hy]; exact form y hy
      · rw [List.mem_singleton.mp hy]
        refine ⟨_, own, ?_⟩
        simp only [State.appendWindow]
        split
        · next hs => rw [hs]; rfl
        · next hs => rw [Bool.not_eq_true] at hs; rw [hs]; rfl
    · rw [List.mem_singleton.mp hy', own, same g y hy]
      intro w w' hw hw'
      cases hw'
      exact h.notAfter_appendWindow hmax hy hw
  · exact ⟨fun y hy => by rw [same g' y hy]; exact form y hy, order'⟩

/-! ### Zones entering and leaving HALTED (R161, R165) -/

/-- What the law of windows rests on. -/
structure State.WindowLaws (s : State) : Prop where
  place : s.PlaceLaws
  fed : s.map.device = .running → ∀ g d p, (s.segment g).downstream = some (d, p) → s.configured d = true
  transit : ∀ g, (s.segment g).maxTransit ≠ 0
  window : s.WindowLaw

/-- The window of a queued carrier, changed where its segment is in the zone. -/
theorem State.window_mapWindows {s : State} (hq : s.QueueLaw) (z : Zone) (f : Segment → Option Window → Option Window)
    {g : Segment} {x : Handle} (hx : x ∈ s.queue g) :
    ((s.mapWindows z f).record x).window
      = if s.zoneSegment z g then f g (s.record x).window else (s.record x).window := by
  have mem : ∀ p ∈ s.zoneQueued z, p.1 ∈ s.queue p.2 ∧ s.zoneSegment z p.2 = true := fun p hp => by
    obtain ⟨g', -, hg'⟩ := List.mem_flatMap.mp hp
    split at hg'
    · next hz =>
      obtain ⟨y, hy, rfl⟩ := List.mem_map.mp hg'
      exact ⟨hy, hz⟩
    · cases hg'
  have place : ∀ g', x ∈ s.queue g' → g' = g := fun g' hg' => by
    have h1 := (hq.2.1 g' x hg').2
    rw [(hq.2.1 g x hx).2] at h1
    exact (Location.onSegment.inj h1).symm
  cases hf : (s.zoneQueued z).find? fun p => p.1 = x with
  | none =>
    rw [State.record_mapWindows_none hf]
    split
    · next hz =>
      refine absurd (List.find?_eq_none.mp hf (x, g) (List.mem_flatMap.mpr ⟨g, List.mem_finRange g, ?_⟩)) (by simp)
      rw [if_pos hz]
      exact List.mem_map.mpr ⟨x, hx, rfl⟩
    · rfl
  | some p =>
    obtain ⟨y, g'⟩ := p
    have hy : y = x := by simpa using List.find?_some hf
    obtain ⟨hm, hz⟩ := mem _ (List.mem_of_find?_eq_some hf)
    have hg : g' = g := place g' (hy ▸ hm)
    rw [State.record_mapWindows_some (x := y) hf]
    subst hg
    rw [if_pos hz]

/-- On a RUNNING line a used segment is in the zone of its downstream station. -/
theorem State.WindowLaws.zoneSegment_iff {s : State} (h : s.WindowLaws) (hd : s.map.device = .running) (z : Zone) (g : Segment) :
    s.zoneSegment z g = true ↔ s.segmentZone g = some z := by
  unfold State.zoneSegment State.segmentZone
  cases hg : (s.segment g).downstream with
  | none => simp
  | some dp =>
    obtain ⟨d, p⟩ := dp
    simp [State.inZone, h.fed hd g d p hg]

theorem State.leaveHalted_zones (s : State) (z : Zone) : (s.leaveHalted z).zones = s.zones := by
  simp only [State.leaveHalted, State.withRoomEvents_zones, State.withLink_zones, State.withCustodies_zones]
  cases s.map.policies.get z <;> simp only [State.mapWindows, State.withCarriers_zones]

theorem State.enterHalted_zones (s : State) (z : Zone) : (s.enterHalted z).zones = s.zones := by
  simp only [State.enterHalted, State.withCustodies_zones]
  split
  · simp only [State.mapWindows, State.withCarriers_zones]
  · rfl

theorem State.withCauses_zones (s : State) (z : Zone) (c : HaltCauses) :
    (s.withCauses z c).zones = { s.zones with causes := s.zones.causes.set z c } := by
  simp only [State.withCauses]
  split
  · exact State.enterHalted_zones _ z
  · split
    · exact State.leaveHalted_zones _ z
    · rfl

/-- A zone's halted state once a zone's causes are replaced. -/
theorem State.zoneHalted_withCauses (s : State) (z : Zone) (c : HaltCauses) (z' : Zone) :
    (s.withCauses z c).zoneHalted z' = if z = z' then c.present else s.zoneHalted z' := by
  simp only [State.zoneHalted, State.withCauses_zones, Table.get_set]
  split <;> rfl

theorem State.OnlyZones.map {s t : State} (h : s.OnlyZones t) : t.map = s.map := by rw [h.frame]

theorem State.OnlyZones.queue {s t : State} (h : s.OnlyZones t) : t.queue = s.queue := by rw [h.frame]; rfl

theorem State.OnlyZones.lineTime {s t : State} (h : s.OnlyZones t) : t.lineTime = s.lineTime := by rw [h.frame]

/-- Which segments are suspended once a zone's causes are replaced. -/
theorem State.segmentSuspended_withCauses (s : State) (z : Zone) (c : HaltCauses) (g : Segment) :
    (s.withCauses z c).segmentSuspended g
      = if s.segmentZone g = some z then c.present && s.map.policies.get z == .suspend else s.segmentSuspended g := by
  have hmap := (State.OnlyZones.withCauses s z c).map
  have hzone : (s.withCauses z c).segmentZone g = s.segmentZone g := by
    simp only [State.segmentZone, State.segment, State.station, hmap]
  simp only [State.segmentSuspended, hzone, hmap, State.zoneHalted_withCauses]
  cases hz : s.segmentZone g with
  | none => simp
  | some z' =>
    by_cases e : z = z'
    · subst e; simp
    · simp [e, Ne.symm e]

/-- A queue's windows entering HALTED: suspended under SUSPEND, kept under RESTART (R161). -/
theorem State.window_enterHalted {s : State} (hq : s.QueueLaw) (z : Zone) {g : Segment} {x : Handle} (hx : x ∈ s.queue g) :
    ((s.enterHalted z).record x).window
      = if s.map.policies.get z = .suspend ∧ s.zoneSegment z g = true then
          (s.record x).window.map (Window.suspend s.lineTime)
        else (s.record x).window := by
  have same : (s.enterHalted z).record x = (if s.map.policies.get z = .suspend then
      s.mapWindows z fun _ w => w.map (Window.suspend s.lineTime) else s).record x := rfl
  rw [same]
  by_cases hp : s.map.policies.get z = .suspend
  · rw [if_pos hp, State.window_mapWindows hq z _ hx]
    simp only [hp, true_and]
  · rw [if_neg hp, if_neg fun h => hp h.1]

/-- A queue's windows leaving HALTED: running on under SUSPEND, fresh under RESTART (R165). -/
theorem State.window_leaveHalted {s : State} (hq : s.QueueLaw) (z : Zone) {g : Segment} {x : Handle} (hx : x ∈ s.queue g) :
    ((s.leaveHalted z).record x).window
      = if s.zoneSegment z g = true then
          (s.record x).window.map fun w => if s.map.policies.get z = .suspend then w.runOn s.lineTime
            else (s.segment g).freshWindow s.lineTime
        else (s.record x).window := by
  cases hp : s.map.policies.get z with
  | suspend =>
    have same : (s.leaveHalted z).record x = (s.mapWindows z fun _ w => w.map (Window.runOn s.lineTime)).record x := by
      simp only [State.leaveHalted, hp, State.record, State.withRoomEvents_carriers, State.withLink_carriers,
        State.withCustodies_carriers]
    rw [same, State.window_mapWindows hq z _ hx]
    simp only [if_true]
  | restart =>
    have same : (s.leaveHalted z).record x
        = (s.mapWindows z fun g w => w.map fun _ => (s.segment g).freshWindow s.lineTime).record x := by
      simp only [State.leaveHalted, hp, State.record, State.withRoomEvents_carriers, State.withLink_carriers,
        State.withCustodies_carriers]
    rw [same, State.window_mapWindows hq z _ hx]
    simp only [reduceCtorEq, if_false]

theorem Window.isRemaining_suspend (now : Time) (w : Window) : (w.suspend now).isRemaining = true := by
  cases w <;> rfl

theorem Window.isRemaining_runOn (now : Time) (w : Window) : (w.runOn now).isRemaining = false := by
  cases w <;> rfl

namespace State.WindowLaws

variable {s : State}

/-- Law 5 as a zone's causes change. -/
theorem window_withCauses (h : s.WindowLaws) (z : Zone) (c : HaltCauses) : (s.withCauses z c).WindowLaw := by
  have only := State.OnlyZones.withCauses s z c
  by_cases hd : s.map.device = .running
  swap
  · exact .of_empty fun g => by rw [only.queue]; exact (h.place.still hd).2.1 g
  have hz := h.zoneSegment_iff hd z
  have hsus := State.segmentSuspended_withCauses s z c
  have old : ∀ g, s.segmentZone g = some z →
      s.segmentSuspended g = (s.zoneHalted z && s.map.policies.get z == .suspend) := fun g hg => by
    simp only [State.segmentSuspended, hg]
  have hu : (s.withZones { s.zones with causes := s.zones.causes.set z c }).QueueLaw := h.place.1
  by_cases hin : s.zoneHalted z = false ∧ c.present = true
  · -- the zone enters HALTED
    have ht : s.withCauses z c = (s.withZones { s.zones with causes := s.zones.causes.set z c }).enterHalted z := by
      simp only [State.withCauses, hin]; rfl
    refine h.window.map only.queue
      (fun g w => if s.map.policies.get z = .suspend ∧ s.zoneSegment z g = true then w.suspend s.lineTime else w) ?_ ?_ ?_
    · intro g x hx
      rw [ht, State.window_enterHalted hu z hx]
      change (if s.map.policies.get z = .suspend ∧ s.zoneSegment z g = true then _ else (s.record x).window) = _
      split
      · rfl
      · rw [Option.map_id']
    · intro g x hx w _ hw
      rw [hsus, hin.2]
      by_cases hg : s.segmentZone g = some z
      · rw [if_pos hg]
        by_cases hp : s.map.policies.get z = .suspend
        · rw [if_pos ⟨hp, (hz g).mpr hg⟩, Window.isRemaining_suspend, hp]; rfl
        · rw [if_neg fun e => hp e.1, hw, old g hg, hin.1]
          simp [hp]
      · rw [if_neg hg, if_neg fun e => hg ((hz g).mp e.2)]; exact hw
    · intro g x hx w w' _ _ hn
      rw [only.lineTime]
      split
      · exact hn.suspend
      · exact hn
  · by_cases hout : s.zoneHalted z = true ∧ c.present = false
    · -- the zone leaves HALTED
      have ht : s.withCauses z c = (s.withZones { s.zones with causes := s.zones.causes.set z c }).leaveHalted z := by
        simp only [State.withCauses, hout]; rfl
      refine h.window.map only.queue
        (fun g w => if s.zoneSegment z g = true then
          (if s.map.policies.get z = .suspend then w.runOn s.lineTime else (s.segment g).freshWindow s.lineTime) else w) ?_ ?_ ?_
      · intro g x hx
        rw [ht, State.window_leaveHalted hu z hx]
        change (if s.zoneSegment z g = true then _ else (s.record x).window) = _
        split
        · rfl
        · rw [Option.map_id']
      · intro g x hx w _ hw
        rw [hsus, hout.2]
        by_cases hg : s.segmentZone g = some z
        · rw [if_pos hg, if_pos ((hz g).mpr hg)]
          split
          · exact Window.isRemaining_runOn ..
          · rfl
        · rw [if_neg hg, if_neg fun e => hg ((hz g).mp e)]; exact hw
      · intro g x hx w w' _ _ hn
        rw [only.lineTime]
        split
        · split
          · exact hn.runOn
          · exact .refl _ _
        · exact hn
    · -- the zone stays as it was
      have hsame : c.present = s.zoneHalted z := by
        cases hx : s.zoneHalted z <;> cases hy : c.present <;> simp_all
      have ht : s.withCauses z c = s.withZones { s.zones with causes := s.zones.causes.set z c } := by
        simp only [State.withCauses, hsame]
        cases s.zoneHalted z <;> rfl
      refine h.window.map only.queue (fun _ w => w) ?_ ?_ ?_
      · intro g x hx
        rw [ht, Option.map_id']; rfl
      · intro g x hx w _ hw
        rw [hsus]
        split
        · next hg => rw [hw, old g hg, hsame]
        · exact hw
      · intro g x hx w w' _ _ hn
        rw [only.lineTime]; exact hn

theorem withCauses (h : s.WindowLaws) (z : Zone) (c : HaltCauses) : (s.withCauses z c).WindowLaws := by
  have only := State.OnlyZones.withCauses s z c
  have hmap := only.map
  refine ⟨only.placeLaws h.place, fun hd g d p hg => ?_, fun g => ?_, h.window_withCauses z c⟩
  · simp only [State.segment, State.configured, State.station, hmap] at hd hg ⊢
    exact h.fed hd g d p hg
  · simp only [State.segment, hmap]; exact h.transit g

theorem latchMask (h : s.WindowLaws) (n : HaltLine) (mask : Byte) : (s.latchMask n mask).WindowLaws :=
  State.latchMask_keeps (P := State.WindowLaws) (fun _ z c hs => hs.withCauses z c) n mask h

end State.WindowLaws

/-! ### Every event -/

theorem State.WindowLaw.withReserved {s : State} (h : s.WindowLaw) (g : Segment) (n : Nat) : (s.withReserved g n).WindowLaw :=
  h.congr rfl rfl (fun _ => rfl) rfl (fun _ => rfl) rfl rfl

theorem State.WindowLaw.unreserve {s : State} (h : s.WindowLaw) (g : Option Segment) : (s.unreserve g).WindowLaw := by
  cases g with
  | none => exact h
  | some g => exact h.withReserved g _

theorem State.WindowLaw.withCustody {s : State} (h : s.WindowLaw) (k : Station) (c : Custody) : (s.withCustody k c).WindowLaw :=
  h.congr rfl rfl (fun _ => rfl) rfl (fun _ => rfl) rfl rfl

theorem State.WindowLaw.withWaiters {s : State} (h : s.WindowLaw) (g : Segment) (w : List Station) :
    (s.withWaiters g w).WindowLaw :=
  h.congr rfl rfl (fun _ => rfl) rfl (fun _ => rfl) rfl rfl

theorem State.WindowLaw.releaseHold {s : State} (h : s.WindowLaw) (k : Station) : (s.releaseHold k).WindowLaw := by
  unfold State.releaseHold
  split
  · exact h.unreserve _
  · exact h.unreserve _
  · exact h.congr rfl rfl (fun _ => rfl) rfl (fun _ => rfl) rfl rfl
  · exact h

theorem State.WindowLaw.settled {s t : State} (h : s.WindowLaw) {k : Station} {c : Handle} (hs : s.Settled k c t) :
    t.WindowLaw := by
  cases hs with
  | dwell x => exact h.withCustody k _
  | directed => exact (h.withReserved _ _).withCustody k _
  | @blocked g =>
    cases g with
    | none => exact h.withCustody k _
    | some g => exact (h.withCustody k _).withWaiters g _

theorem State.WindowLaw.redecide {s : State} (h : s.WindowLaw) (hp : s.PlaceLaws) {k : Station} {c : Handle}
    (hc : (s.custodyOf k).occupant? = some c) : (s.redecide k c).WindowLaw := by
  obtain ⟨u, hu, ht⟩ := State.redecide_settles (State.absent_of_occupant hp hc) k
  exact (h.settled hu).thins ht

theorem State.WindowLaw.wake {s : State} (h : s.WindowLaw) (hp : s.PlaceLaws) (g : Segment) (k : Station) :
    (s.wake g k).WindowLaw := by
  have hw := h.withWaiters g ((s.waiterList g).erase k)
  have hpw : (s.withWaiters g ((s.waiterList g).erase k)).PlaceLaws := hp
  simp only [State.wake]
  split
  · next c hc => exact hw.redecide hpw (by rw [hc]; rfl)
  · exact hw

theorem State.WindowLaw.grantRounds (g : Segment) (n : Nat) (woken : List Station) {s : State} (h : s.WindowLaw)
    (hp : s.PlaceLaws) : (State.grantRounds g n woken s).WindowLaw := by
  induction n generalizing woken s with
  | zero => exact h
  | succ n ih =>
    unfold State.grantRounds
    split
    · split
      · exact ih _ (h.wake hp g _) (hp.wake g _)
      · exact h
    · exact h

theorem MapEvent.windowLaw {s t : State} (h : s.WindowLaws) (e : MapEvent s t) : t.WindowLaw := by
  have still : s.map.device ≠ .running → t.WindowLaw := fun hd =>
    .of_empty fun g => by rw [show t.queue = s.queue by rw [e.frame]; rfl]; exact (h.place.still hd).2.1 g
  cases e with
  | setStation k hd => exact still (by rw [hd]; decide)
  | setSegment g hd => exact still (by rw [hd]; decide)
  | setPolicy z policy hd => exact still (by rw [hd]; decide)
  | @tuneStation p k r hr =>
    have hzone : ∀ k', ((s.withStation k r).station k').zone = (s.station k').zone := fun k' => by
      show ((s.map.stations.set k r).get k').zone = _
      rw [Table.get_set]
      split
      · next e => subst e; exact (stationTuneRecord?_kept hr).2.1
      · rfl
    have hsus : (s.withStation k r).segmentSuspended = s.segmentSuspended := by
      have hsz : (s.withStation k r).segmentZone = s.segmentZone := by
        funext g
        show ((s.segment g).downstream.map fun d => ((s.withStation k r).station d.1).zone) = _
        simp only [hzone]; rfl
      funext g
      simp only [State.segmentSuspended, hsz]
      rfl
    intro g
    rw [hsus]
    exact h.window g
  | @tuneSegment p g r hr =>
    refine h.window.congr rfl rfl (fun _ => rfl) rfl (fun g' => ?_) rfl rfl
    show ((s.map.segments.set g r).get g').downstream = _
    rw [Table.get_set]
    split
    · next e => subst e; exact (segmentTuneRecord?_kept hr).2.2.1
    · rfl
  | beginValidation | passValidation | failValidation | stop =>
    exact h.window.congr rfl rfl (fun _ => rfl) rfl (fun _ => rfl) rfl rfl

/-- A reroute leaves every window. -/
theorem State.window_rerouted (s : State) (c : Handle) (q : Slot) (y : Option Slot) {r : CarrierRecord}
    (hr : r.window = (s.record c).window) (x : Handle) : ((s.rerouted c q y r).record x).window = (s.record x).window := by
  simp only [State.rerouted, State.record, Table.get_set]
  split
  · next e => subst e; exact hr
  · rfl

/-- No queued deadline lies 65536 ticks ahead, where it was left untaken until line time came round to it. -/
def State.NotLate (s : State) : Prop :=
  ∀ g, ∀ x ∈ s.queue g, ∀ e d, (s.record x).window = some (.timed e d) → d ≠ s.lineTime + 65536

theorem State.NotLate.of_same {s t : State} (h : s.NotLate) (hs : s.SameCore t) : t.NotLate := by
  unfold State.NotLate at h ⊢
  rw [hs.queue, hs.record, hs.lineTime]; exact h

theorem Event.windowLaw {s t : State} (h : s.WindowLaws) (hlate : s.NotLate) (e : Event s t) : t.WindowLaw := by
  have hp := h.place
  cases e with
  | idle => exact h.window
  | reset => exact .of_empty fun _ => Table.get_fill _ _
  | tick samples =>
    have hsus : (s.tick samples).segmentSuspended = s.segmentSuspended :=
      State.segmentSuspended_congr rfl (fun _ => rfl) rfl rfl
    refine h.window.map rfl (fun _ w => w) (fun g x hx => ?_) (fun g x hx w _ hw => ?_) fun g x hx w w' hxw _ hn => ?_
    · rw [Option.map_id']; rfl
    · rw [hsus]; exact hw
    · exact hn.tick fun e d hw => hlate g x hx e d (hw ▸ hxw)
  | ofMap e => exact e.windowLaw h
  | ofRoute e => rw [e.frame]; exact h.window.congr rfl rfl (fun _ => rfl) rfl (fun _ => rfl) rfl rfl
  | causes z c => exact h.window_withCauses z c
  | latches n mask => exact (h.latchMask n mask).window
  | resetTracking => exact .of_empty fun _ => Table.get_fill _ _
  | arrival k port t seq hc hd hi =>
    rcases (hp.placed hd).resolveArrival_parts k port t seq with ht | ⟨-, c, u, v, hu, -, -, hv, ht⟩
    · exact h.window.thins ht
    · exact ((h.window.thins hu).settled hv).thins ht
  | clear k c e hc hd ho hh =>
    obtain ⟨u, v, hu, placed, hv, ht⟩ := (hp.placed hd).clearOccupant_parts ho e
    have thinned := (h.window.releaseHold k).thins hu
    have hseg : ∀ g, (u.segment g).maxTransit ≠ 0 := fun g => by
      have hmap : (s.releaseHold k).map = s.map := by
        unfold State.releaseHold
        split
        · cases (s.station k).exitSegment _ <;> rfl
        · cases (s.station k).exitSegment _ <;> rfl
        · rfl
        · rfl
      simp only [State.segment, hu.map, hmap]; exact h.transit g
    have left : v.WindowLaw := by
      cases hv with
      | appended hr => exact thinned.append (hseg _) placed.absent _
      | gone ht => exact thinned.thins ht
    exact (left.withCustody k _).thins ht
  | removeJam k c e hd hj =>
    obtain ⟨u, hu, ht⟩ := (hp.placed hd).removeJammed_parts (c := c) (by rw [hj]; rfl) e
    exact (((h.window.unreserve _).thins hu).withCustody k _).thins ht
  | grant g n woken => exact h.window.grantRounds g n woken hp
  | @redecide k c x hk => exact h.window.redecide hp (by rw [hk]; rfl)
  | jam => exact h.window.withCustody _ _
  | @expire g c hx =>
    have hg : c ∈ s.queue g := List.mem_of_mem_head? (State.mem_of_expiredHead hx)
    have hd := hp.running_of_live (CarrierState.ne_free_of_queued (hp.1.2.1 g c hg).1)
    exact h.window.thins ((State.Thins.dequeue s g c).trans (.makeLost _ ((hp.placed hd).dequeue hg).absent _))
  | purge g hd => exact h.window.thins ((hp.placed hd).thins_purge g)
  | @induct g c t cls q p hd ht hq hf hr =>
    obtain ⟨u, hu, placed, hv⟩ := (hp.placed hd).induct_parts (g := g) hf t cls q
    have hseg : (u.segment g).maxTransit ≠ 0 := by simp only [State.segment, hu.map]; exact h.transit g
    exact ((h.window.thins hu).append hseg placed.absent _).thins hv
  | @rerouteNow c q hs hq =>
    rw [State.rerouteNow_eq]
    exact h.window.congr rfl rfl (State.window_rerouted s c q _ rfl) rfl (fun _ => rfl) rfl rfl
  | @rerouteLater c q hs hq =>
    rw [State.rerouteLater_eq]
    exact h.window.congr rfl rfl (State.window_rerouted s c q _ rfl) rfl (fun _ => rfl) rfl rfl
  | @retire c hs =>
    have hd := hp.running_of_live (c := c) fun e => by rw [e] at hs; cases hs
    exact h.window.thins ((hp.placed hd).thins_retire hs)

/-! ### What each law is kept by, apart from what the laws do not read -/

theorem State.WindowLaw.of_same {s t : State} (hs : s.SameCore t) (h : s.WindowLaw) : t.WindowLaw :=
  h.congr hs.lineTime hs.queue (fun x => by rw [hs.record]) hs.stations (fun g => by rw [hs.segment]) hs.policies hs.causes

theorem State.WindowLaws.of_same {s t : State} (hs : s.SameCore t) (h : s.WindowLaws) : t.WindowLaws := by
  refine ⟨.of_same hs h.place, ?_, fun g => ?_, .of_same hs h.window⟩
  · rw [hs.device, hs.segment, hs.configured]; exact h.fed
  · rw [hs.segment]; exact h.transit g

end Sys2Proof.Machine

open Sys2Proof Sys2Proof.Machine

/-- Settles O58, law by law and event by event: an event thins queues, settles a carrier at a station that is left out of
account meanwhile, or appends one. -/
theorem stepsKeepRoomLaws : Obligations.StepsKeepRoomLaws := by
  refine ⟨fun s t ⟨hp, hr, hc⟩ h => ?_, fun s t hp _ _ hroute hv hs hw h => ?_, fun s t hp hv hs hw hlate h => ?_⟩
  · have laws := State.step_keeps (H := State.RoomLaws) (P := State.RoomLaws)
      (fun _ _ hs h => ⟨.of_same hs h.1, .of_same hs h.2⟩) (fun _ _ hs h => ⟨.of_same hs h.1, .of_same hs h.2⟩)
      (fun _ _ h e => ⟨e.placeLaws h.1, e.roomBut h.2 h.1⟩) ⟨hp, s.roomBut_none.mpr ⟨hr, hc⟩⟩ h
    exact ⟨laws.1, t.roomBut_none.mp laws.2⟩
  · obtain ⟨halt, -, -, range, -⟩ := hs
    exact t.waitBut_none.mp (State.step_keeps (H := State.WaitLaws) (P := (State.WaitBut · none))
      (fun _ _ hs => .of_same hs) (fun _ _ hs => .of_same hs) (fun _ _ h e => e.waitBut h)
      ⟨hp, fun hd => State.soundWays_of_laws hd hroute hv range, halt.stands, s.waitBut_none.mpr hw⟩ h)
  · obtain ⟨-, -, -, range, -⟩ := hs
    have laws : s.WindowLaws := ⟨hp, fun hd g d p hg => ((hv hd).2.2.1 g (by rw [hg]; nofun)).1 d p hg |>.1,
      fun g => (range.2.1 g).2.2, hw⟩
    exact State.step_keeps (H := fun s => s.WindowLaws ∧ s.NotLate) (P := State.WindowLaw)
      (fun _ _ hs h => ⟨.of_same hs h.1, h.2.of_same hs⟩) (fun _ _ hs => .of_same hs)
      (fun _ _ h e => e.windowLaw h.1 h.2) ⟨laws, hlate⟩ h

end

section
/-! The Route Store's bound counts (Law 7, R119 to R123). A carrier in hand is bound to a list of slots, which its record
names before and after the event, and in the event names no longer or not yet: the counts are right with that list in the
record's place throughout. -/

-- One declaration at a time, which holds the text's memory down.
set_option Elab.async false

namespace Sys2Proof

/-- Two rows of a table count no more than all of them. -/
theorem Table.le_sum {n : Nat} {α : Type} (t : Table n α) {i j : Fin n} (h : i ≠ j) {z : α} {f : α → Nat} (hz : f z = 0) :
    f (t.get i) + f (t.get j) ≤ (t.rows.map f).sum := by
  have first := t.sum_map_set i z f
  have second := (t.set i z).sum_map_set j z f
  rw [Table.get_set_ne _ h] at second
  omega

end Sys2Proof

namespace Sys2Proof.Machine

/-! ### What a record names, what a slot becomes -/

/-- The slots a record names, its route's first. -/
def CarrierRecord.named (r : CarrierRecord) : List Slot := (r.route.map RouteRef.slot).toList ++ r.pendingRoute.toList

theorem Option.count_toList {α : Type} [DecidableEq α] (x : Option α) (a : α) :
    x.toList.count a = if x = some a then 1 else 0 := by
  cases x with
  | none => rfl
  | some b => simp [List.count_singleton]

theorem CarrierRecord.count_named (r : CarrierRecord) (q : Slot) : r.named.count q = r.names q := by
  rw [CarrierRecord.named, List.count_append, Option.count_toList, Option.count_toList]; rfl

theorem CarrierRecord.names_free (n : Byte) (q : Slot) : (CarrierRecord.free n).names q = 0 := rfl

/-- A slot bound once less (R119, R121). -/
def RouteSlot.unbound (r : RouteSlot) : RouteSlot :=
  match r.state with
  | .draining _ => if r.bound - 1 = 0 then { state := .empty, bound := 0 } else { r with bound := r.bound - 1 }
  | _ => { r with bound := r.bound - 1 }

theorem State.slotOf_unbindSlot (s : State) (q k : Slot) :
    (s.unbindSlot q).slotOf k = if q = k then (s.slotOf q).unbound else s.slotOf k := by
  have same : ∀ (u : State) (p : Program), (u.releaseReferences p).slotOf = u.slotOf := fun _ _ => rfl
  cases hs : (s.slotOf q).state
  case draining p =>
    simp only [State.unbindSlot, RouteSlot.unbound, hs]
    split
    · rw [same, State.slotOf_withSlot]
    · rw [State.slotOf_withSlot]
  all_goals simp only [State.unbindSlot, RouteSlot.unbound, hs, State.slotOf_withSlot]

theorem State.classes_unbindSlot (s : State) (q : Slot) : (s.unbindSlot q).routes.classes = s.routes.classes := by
  simp only [State.unbindSlot]
  split
  · split <;> rfl
  · rfl

theorem State.slotOf_bindSlot (s : State) (q k : Slot) :
    (s.bindSlot q).slotOf k
      = if q = k then { s.slotOf q with bound := (s.slotOf q).bound + 1 } else s.slotOf k := State.slotOf_withSlot ..

/-- A slot's bound count goes with its state (R119, R113). -/
def RouteSlot.Sound (r : RouteSlot) : Prop :=
  match r.state with
  | .empty | .draft _ => r.bound = 0
  | .active _ => True
  | .draining _ => 0 < r.bound

/-- A bound slot is ACTIVE or DRAINING. -/
theorem RouteSlot.Sound.counted {r : RouteSlot} (h : r.Sound) (hb : 0 < r.bound) : ∃ p, r.state.counted? = some p := by
  cases hs : r.state <;> simp only [RouteSlot.Sound, hs] at h
  · omega
  · omega
  · exact ⟨_, rfl⟩
  · exact ⟨_, rfl⟩

theorem RouteSlot.Sound.unbound {r : RouteSlot} (h : r.Sound) (hb : 0 < r.bound) :
    r.unbound.Sound ∧ r.unbound.bound + 1 = r.bound ∧ (1 < r.bound → r.unbound.state = r.state)
      ∧ (r.state.isActive = true → r.unbound.state = r.state) := by
  cases hs : r.state with
  | empty => simp only [RouteSlot.Sound, hs] at h; omega
  | draft p => simp only [RouteSlot.Sound, hs] at h; omega
  | active p =>
    simp only [RouteSlot.unbound, hs, RouteSlot.Sound, true_and]
    exact ⟨by omega, fun _ => trivial, fun _ => trivial⟩
  | draining p =>
    simp only [RouteSlot.unbound, hs]
    split
    · exact ⟨rfl, by simp only; omega, fun _ => by omega, nofun⟩
    · refine ⟨?_, by simp only; omega, fun _ => rfl, nofun⟩
      simp only [RouteSlot.Sound]; omega

/-- The program of a slot bound once less, where it is still bound, and of a slot that loses none. -/
theorem State.state_unbindSlot {s : State} {q k : Slot} (h : (s.slotOf q).Sound) (hb : 0 < (s.slotOf q).bound)
    (hk : q = k → 1 < (s.slotOf q).bound) : ((s.unbindSlot q).slotOf k).state = (s.slotOf k).state := by
  rw [State.slotOf_unbindSlot]
  split
  · next e => rw [(h.unbound hb).2.2.1 (hk e), e]
  · rfl

/-! ### The tally -/

/-- Law 7 with the slots in `l` bound on behalf of carrier `c`, whatever its record names; and every other FREE record is
cleared. -/
structure State.Tally (s : State) (c : Handle) (l : List Slot) : Prop where
  bound : ∀ q, (s.slotOf q).bound + (s.record c).names q
    = (s.carriers.records.rows.map fun r => r.names q).sum + l.count q
  sound : ∀ q, (s.slotOf q).Sound
  classes : ∀ x q, s.routes.classes.get x = some q → (s.slotOf q).state.isActive = true
  cleared : ∀ h, h ≠ c → (s.record h).state = .free → s.record h = .free (s.record h).generation

/-- Law 7 with one record in hand. -/
def State.BoundBut (s : State) (c : Handle) : Prop := s.Tally c (s.record c).named

theorem State.boundBut_iff (s : State) : (s.FreeLaw ∧ s.BoundLaw) ↔ ∀ c, s.BoundBut c := by
  constructor
  · rintro ⟨hf, hb, hs, hc⟩ c
    exact ⟨fun q => by rw [hb q, CarrierRecord.count_named], hs, hc, fun h _ => hf h⟩
  · intro h
    refine ⟨fun x => (h (if x = 0 then 1 else 0)).cleared x (by split <;> simp_all), fun q => ?_, (h 0).sound, (h 0).classes⟩
    have := (h 0).bound q
    rw [CarrierRecord.count_named] at this
    omega

namespace State.Tally

variable {s t : State} {c : Handle} {l : List Slot}

theorem congr (h : s.Tally c l) (hr : t.carriers.records = s.carriers.records) (hs : t.routes.slots = s.routes.slots)
    (hc : t.routes.classes = s.routes.classes) : t.Tally c l := by
  have hrec : t.record = s.record := by funext x; simp only [State.record, hr]
  have hslot : t.slotOf = s.slotOf := by funext x; simp only [State.slotOf, hs]
  exact ⟨by rw [hslot, hrec, hr]; exact h.bound, by rw [hslot]; exact h.sound, by rw [hslot, hc]; exact h.classes,
    by rw [hrec]; exact h.cleared⟩

theorem ofPerm {l' : List Slot} (h : s.Tally c l) (hl : l.Perm l') : s.Tally c l' :=
  ⟨fun q => by rw [← hl.count_eq]; exact h.bound q, h.sound, h.classes, h.cleared⟩

/-- Whatever the record in hand is made, the slots bound on its carrier's behalf stay. -/
theorem modRecord (h : s.Tally c l) (f : CarrierRecord → CarrierRecord) : (s.modRecord c f).Tally c l := by
  refine ⟨fun q => ?_, h.sound, h.classes, fun y hy hf => ?_⟩
  · have hset := s.carriers.records.sum_map_set c (f (s.record c)) fun r => r.names q
    have hb := h.bound q
    have hrec : (s.modRecord c f).record c = f (s.record c) := by rw [State.record_modRecord, if_pos rfl]
    simp only [State.modRecord_eq] at hrec ⊢
    rw [hrec]
    simp only [State.record] at hb hset ⊢
    have hq : (State.slotOf { s with carriers := { s.carriers with records := s.carriers.records.set c (f (s.carriers.records.get c)) } } q)
      = s.slotOf q := rfl
    rw [hq]
    omega
  · rw [State.record_modRecord, if_neg (Ne.symm hy)] at hf ⊢
    exact h.cleared y hy hf

/-- The bound count of a slot bound on the carrier's behalf, and named by another. -/
theorem count_le (h : s.Tally c l) (q : Slot) {x : Handle} (hx : x ≠ c) :
    l.count q + (s.record x).names q ≤ (s.slotOf q).bound := by
  have := h.bound q
  have hle := s.carriers.records.le_sum (Ne.symm hx) (f := fun r => r.names q) (CarrierRecord.names_free 0 q)
  simp only [State.record] at this hle ⊢
  omega

theorem count_le_bound (h : s.Tally c l) (q : Slot) : l.count q ≤ (s.slotOf q).bound := by
  have hx : (if c = 0 then 1 else 0 : Handle) ≠ c := by split <;> simp_all [eq_comm]
  have := h.count_le q hx
  omega

/-- A slot is unbound that was bound on the carrier's behalf. -/
theorem unbindSlot {q : Slot} (h : s.Tally c (q :: l)) : (s.unbindSlot q).Tally c l := by
  have hq : 0 < (s.slotOf q).bound := by
    have := h.count_le_bound q
    rw [List.count_cons_self] at this; omega
  obtain ⟨hsound, hbound, -, hactive⟩ := (h.sound q).unbound hq
  have hrec : (s.unbindSlot q).carriers = s.carriers := by
    have := State.unbindSlot?_eq s (some q)
    rw [show s.unbindSlot q = _ from this]
  refine ⟨fun k => ?_, fun k => ?_, fun x k hx => ?_, ?_⟩
  · have hb := h.bound k
    simp only [State.record, hrec, State.slotOf_unbindSlot, List.count_cons] at hb ⊢
    by_cases e : q = k
    · subst e; simp only [BEq.rfl, if_true] at hb ⊢; omega
    · simp only [e, if_false, beq_iff_eq] at hb ⊢; omega
  · rw [State.slotOf_unbindSlot]; split
    · exact hsound
    · exact h.sound k
  · rw [State.classes_unbindSlot] at hx
    have ha := h.classes x k hx
    rw [State.slotOf_unbindSlot]
    split
    · next e => subst e; rw [hactive ha]; exact ha
    · exact ha
  · simp only [State.record, hrec]; exact h.cleared

theorem unbindSlot? {x : Option Slot} (h : s.Tally c (x.toList ++ l)) : (s.unbindSlot? x).Tally c l := by
  cases x with
  | none => exact h
  | some q => exact h.unbindSlot

/-- A slot's state is kept where it stays bound, on the carrier's behalf or another's. -/
theorem state_unbindSlot? {x : Option Slot} (h : s.Tally c (x.toList ++ l)) {k : Slot}
    (hk : k ∈ l ∨ ∃ y ≠ c, 0 < (s.record y).names k) : ((s.unbindSlot? x).slotOf k).state = (s.slotOf k).state := by
  cases x with
  | none => rfl
  | some q =>
    have hq := h.count_le_bound q
    simp only [Option.toList, List.cons_append, List.nil_append, List.count_cons_self] at hq
    refine State.state_unbindSlot (h.sound q) (by omega) fun e => ?_
    subst e
    rcases hk with hk | ⟨y, hy, hn⟩
    · have := List.count_pos_iff.mpr hk
      omega
    · have := h.count_le q hy
      simp only [Option.toList, List.cons_append, List.nil_append, List.count_cons_self] at this
      omega

/-- A slot that is ACTIVE is bound once more on the carrier's behalf. -/
theorem bindSlot {q : Slot} (h : s.Tally c l) (hq : (s.slotOf q).state.isActive = true) : (s.bindSlot q).Tally c (q :: l) := by
  have hstate : ∀ k, ((s.bindSlot q).slotOf k).state = (s.slotOf k).state := fun k => by
    rw [State.slotOf_bindSlot]; split
    · next e => rw [e]
    · rfl
  refine ⟨fun k => ?_, fun k => ?_, fun x k hx => (hstate k).symm ▸ h.classes x k hx, h.cleared⟩
  · have hb := h.bound k
    rw [State.slotOf_bindSlot, List.count_cons]
    show _ + (s.record c).names k = (s.carriers.records.rows.map fun r => r.names k).sum + _
    by_cases e : q = k
    · subst e; simp only [BEq.rfl, if_true]; omega
    · simp only [e, if_false, beq_iff_eq]; omega
  · rw [State.slotOf_bindSlot]; split
    · cases hs : (s.slotOf q).state <;> simp only [hs, SlotState.isActive, Bool.false_eq_true] at hq
      simp only [RouteSlot.Sound, hs]
    · exact h.sound k

/-- The record in hand names what is bound on its carrier's behalf. -/
theorem boundBut (h : s.Tally c l) (hl : (s.record c).named = l) : s.BoundBut c := by
  rw [State.BoundBut, hl]; exact h

end State.Tally

/-! ### One record in hand -/

/-- What a stage transition can do to a state (R136 to R141): with `u` the state, or the state with EXHAUSTED set. -/
inductive State.TransitsTo (s : State) (c : Handle) (u : State) : State → Prop
  | stays : TransitsTo s c u s
  | applies {q : Slot} (hp : (s.record c).pendingRoute = some q) : TransitsTo s c u (s.applyPending c q)
  | strands (hp : (s.record c).pendingRoute = none) : TransitsTo s c u (u.strand c)
  | advances {r r' : RouteRef} {p : Program} {stage : Stage} (hp : (s.record c).pendingRoute = none)
      (hr : (s.record c).route = some r) (hprog : s.programOf r.slot = some p) (hs : p.stages.get r.stage = some stage)
      (ha : stage.endAction = .advance) (hslot : r'.slot = r.slot) (hv : r'.stage.val = r.stage.val + 1)
      (hl : r'.laps = r.laps) : TransitsTo s c u (s.enterStage c r')
  | loops {r r' : RouteRef} {p : Program} (hp : (s.record c).pendingRoute = none) (hr : (s.record c).route = some r)
      (hprog : s.programOf r.slot = some p) (hslot : r'.slot = r.slot)
      (hv : p.loopBase = some r'.stage ∨ p.exhaustStage = some r'.stage) (hl : r'.laps ≤ p.lapLimit) :
      TransitsTo s c u (u.enterStage c r')

/-- The state with a carrier marked EXHAUSTED, or as it was. -/
def State.ExhaustedOr (s : State) (c : Handle) (u : State) : Prop :=
  u = s ∨ u = s.modRecord c fun rec => { rec with flags := { rec.flags with exhausted := true } }

theorem State.takeLoop_transits (s : State) {c : Handle} {r : RouteRef} {p : Program}
    (hp : (s.record c).pendingRoute = none) (hr : (s.record c).route = some r) (hprog : s.programOf r.slot = some p) :
    ∃ u, s.ExhaustedOr c u ∧ s.TransitsTo c u (s.takeLoop c r p) := by
  unfold State.takeLoop
  split
  · exact ⟨s, .inl rfl, .strands hp⟩
  · next base hb =>
    split
    · exact ⟨s, .inl rfl, .strands hp⟩
    · split
      · next hlt => exact ⟨s, .inl rfl, .loops hp hr hprog rfl (.inl hb) (Nat.le_of_lt hlt)⟩
      · refine ⟨_, .inr rfl, ?_⟩
        split
        · next x hx => exact .loops hp hr hprog rfl (.inr hx) le_rfl
        · exact .strands hp

theorem State.stageTransition_transits (s : State) (k : Station) (e : Byte) (c : Handle) :
    ∃ u, s.ExhaustedOr c u ∧ s.TransitsTo c u (s.stageTransition k e c) := by
  have stays : ∃ u, s.ExhaustedOr c u ∧ s.TransitsTo c u s := ⟨s, .inl rfl, .stays⟩
  unfold State.stageTransition
  split
  · next q _ hq => exact ⟨s, .inl rfl, .applies hq⟩
  · exact stays
  · next r hp hr =>
    split
    · exact stays
    · next p hprog =>
      split
      · exact stays
      · next stage hstage =>
        have loop := s.takeLoop_transits hp hr hprog
        unfold State.endAction
        split
        · next ha =>
          split
          · unfold State.takeAdvance
            split
            · exact ⟨s, .inl rfl, .advances hp hr hprog hstage ha rfl rfl rfl⟩
            · exact stays
          · exact stays
        · split
          · exact loop
          · exact stays
        · split
          · split
            · exact loop
            · exact stays
          · exact stays

namespace State.BoundBut

variable {s t : State} {c : Handle}

theorem congr (h : s.BoundBut c) (hc : t.carriers.records = s.carriers.records) (hr : t.routes = s.routes) :
    t.BoundBut c := by
  have hrec : t.record c = s.record c := by simp only [State.record, hc]
  exact (State.Tally.congr (h : s.Tally c _) hc (by rw [hr]) (by rw [hr])).boundBut (by rw [hrec])

/-- A change of the record in hand that leaves what it names. -/
theorem modRecord (h : s.BoundBut c) {f : CarrierRecord → CarrierRecord} (hf : (f (s.record c)).named = (s.record c).named) :
    (s.modRecord c f).BoundBut c :=
  (State.Tally.modRecord h f).boundBut (by rw [State.record_modRecord, if_pos rfl, hf])

theorem keptBy (h : s.BoundBut c) {f : CarrierRecord → CarrierRecord} (hf : CarrierRecord.KeptBy f) :
    (s.modRecord c f).BoundBut c := by
  obtain ⟨-, -, hroute, hpending⟩ := hf (s.record c)
  exact h.modRecord (by simp only [CarrierRecord.named, hroute, hpending])

theorem setException (h : s.BoundBut c) (k : ExceptionKind) : (s.setException c k).BoundBut c := by
  have hm := h.modRecord (f := fun r => { r with exception := some k }) rfl
  rw [State.setException_eq]
  exact hm.congr rfl rfl

theorem clearException (h : s.BoundBut c) : (s.clearException c).BoundBut c := by
  have hm := h.modRecord (f := fun r => { r with exception := none }) rfl
  rw [State.clearException_eq]
  exact hm.congr rfl rfl

/-- A slot that the record names is unbound and the record made to name the rest. -/
theorem drops (h : s.BoundBut c) {x : Option Slot} {f : CarrierRecord → CarrierRecord}
    (hf : (s.record c).named.Perm (x.toList ++ (f (s.record c)).named)) : ((s.unbindSlot? x).modRecord c f).BoundBut c :=
  ((State.Tally.ofPerm h hf).unbindSlot?.modRecord f).boundBut
    (by rw [State.record_modRecord, if_pos rfl, State.record_unbindSlot?])

theorem exhausted {u : State} (h : s.BoundBut c) (hu : s.ExhaustedOr c u) : u.BoundBut c := by
  rcases hu with rfl | rfl
  · exact h
  · exact h.keptBy fun _ => ⟨rfl, rfl, rfl, rfl⟩

theorem strand (h : s.BoundBut c) : (s.strand c).BoundBut c :=
  (h.drops (f := fun r => { r with route := none, flags := { r.flags with dwelt := false } }) (.refl _)).setException _

theorem enterStage (h : s.BoundBut c) {r r' : RouteRef} (hr : (s.record c).route = some r) (he : r'.slot = r.slot) :
    (s.enterStage c r').BoundBut c :=
  h.modRecord (by simp only [CarrierRecord.named, hr, Option.map_some, he])

theorem exhausted_route {s u : State} (hu : s.ExhaustedOr c u) :
    (u.record c).route = (s.record c).route ∧ (u.record c).pendingRoute = (s.record c).pendingRoute := by
  rcases hu with rfl | rfl
  · exact ⟨rfl, rfl⟩
  · rw [State.record_modRecord, if_pos rfl]; exact ⟨rfl, rfl⟩

theorem applyPending (h : s.BoundBut c) {q : Slot} (hp : (s.record c).pendingRoute = some q) :
    (s.applyPending c q).BoundBut c := by
  refine h.drops ?_
  simp only [CarrierRecord.named, hp]
  exact .refl _

theorem stageTransition (h : s.BoundBut c) (k : Station) (e : Byte) : (s.stageTransition k e c).BoundBut c := by
  obtain ⟨u, hu, ht⟩ := s.stageTransition_transits k e c
  generalize s.stageTransition k e c = t at ht
  cases ht with
  | stays => exact h
  | applies hp => exact h.applyPending hp
  | strands _ => exact (h.exhausted hu).strand
  | advances _ hr _ _ _ he _ _ => exact h.enterStage hr he
  | loops _ hr _ he _ _ => exact (h.exhausted hu).enterStage ((exhausted_route hu).1.trans hr) he

theorem settle (h : s.BoundBut c) (hs : (s.record c).state ≠ .free) (x : Handle) : s.BoundBut x := by
  refine (State.boundBut_iff s).mp ⟨fun y hf => ?_, fun q => ?_, h.sound, h.classes⟩ x
  · by_cases e : y = c
    · exact absurd hf (e ▸ hs)
    · exact h.cleared y e hf
  · have := h.bound q
    rw [CarrierRecord.count_named] at this
    omega

/-- A record in hand that is cleared is settled. -/
theorem settleFree (h : s.BoundBut c) {n : Byte} (hs : s.record c = .free n) (x : Handle) : s.BoundBut x := by
  refine (State.boundBut_iff s).mp ⟨fun y hf => ?_, fun q => ?_, h.sound, h.classes⟩ x
  · by_cases e : y = c
    · rw [e, hs]; rfl
    · exact h.cleared y e hf
  · have := h.bound q
    rw [CarrierRecord.count_named] at this
    omega

/-- A carrier bound to an ACTIVE slot, in place of another: the record as it is then, and the counts. -/
theorem rerouted (h : s.BoundBut c) {q : Slot} (hq : (s.slotOf q).state.isActive = true) {x : Option Slot}
    {r : CarrierRecord} (hr : (q :: (s.record c).named).Perm (x.toList ++ r.named)) : (s.rerouted c q x r).BoundBut c := by
  have made : (((s.bindSlot q).unbindSlot? x).modRecord c fun _ => { r with exception := r.mended }).BoundBut c :=
    ((State.Tally.ofPerm (State.Tally.bindSlot h hq) hr).unbindSlot?.modRecord _).boundBut
      (by rw [State.record_modRecord, if_pos rfl]; rfl)
  refine made.congr ?_ rfl
  rw [State.unbindSlot?_eq]; rfl

end State.BoundBut

end Sys2Proof.Machine
end

section
/-! Law 7 is a law of records, and every event keeps it: the Route Store's own events, the resets, and zones as they enter
and leave HALTED. -/

-- One declaration at a time, which holds the text's memory down.
set_option Elab.async false

namespace Sys2Proof.Machine

theorem CarrierRecord.named_of_none {r : CarrierRecord} (hr : r.route = none) (hp : r.pendingRoute = none) :
    r.named = [] := by rw [CarrierRecord.named, hr, hp]; rfl

/-- A queued or unrouted carrier's free record, filled, names what it is made to name. -/
theorem State.BoundBut.named_of_free {s : State} (h : ∀ x, s.BoundBut x) {c : Handle} (hf : (s.record c).state = .free) :
    (s.record c).named = [] := by
  have cleared := ((s.boundBut_iff.mpr h).1 c hf)
  rw [cleared]; rfl

/-- The record in hand freed: its slots are unbound and it names none (R28). -/
theorem State.BoundBut.freed {s : State} {c : Handle} (h : s.BoundBut c) (x : Handle) : (s.freeRecord c).BoundBut x := by
  have unbound := (State.Tally.unbindSlot? (l := (s.record c).pendingRoute.toList) h)
  have cleared := (State.Tally.unbindSlot? (l := []) (by rwa [List.append_nil])).modRecord
    fun r => .free (r.generation + 1)
  have made := cleared.boundBut (by rw [State.record_modRecord, if_pos rfl]; rfl)
  have freed : (s.freeRecord c).BoundBut c := by
    refine made.congr ?_ ?_
    · rw [State.freeRecord_eq, State.modRecord_eq, State.record_unbindSlot?, State.record_unbindSlot?,
        State.unbindSlot?_eq, State.unbindSlot?_eq]
    · rw [State.freeRecord_eq]; rfl
  refine freed.settleFree (n := (s.record c).generation + 1) ?_ x
  rw [State.freeRecord_eq]; simp only [State.record, Table.get_set_self]

theorem State.BoundBut.induct {s : State} (h : ∀ x, s.BoundBut x) {c : Handle} (g : Segment) (t : Tag)
    (cls : Option Class) {q : Slot} (hf : (s.record c).state = .free) (hq : (s.slotOf q).state.isActive = true) (x : Handle) :
    (s.induct g c t cls q).BoundBut x := by
  have empty : s.Tally c [] := State.BoundBut.named_of_free h hf ▸ h c
  have bound := empty.bindSlot hq |>.modRecord fun _ => (s.induct g c t cls q).record c
  have hrec : ((s.induct g c t cls q).record c).named = [q] ∧ ((s.induct g c t cls q).record c).state = .staged := by
    simp only [State.induct]
    split <;> simp only [State.bindSlot, State.record, State.withSlot_carriers, State.withTags_carriers, State.append_eq,
      State.modRecord_carriers, Table.modify, Table.get_set_self] <;> exact ⟨rfl, trivial⟩
  have made : (s.induct g c t cls q).BoundBut c := by
    refine (bound.congr ?_ ?_ ?_).boundBut hrec.1
    · simp only [State.induct]
      split <;> simp only [State.bindSlot, State.record, State.withSlot_carriers, State.withTags_carriers, State.append_eq,
        State.modRecord_carriers, Table.modify, Table.get_set_self, Table.set_set]
    · simp only [State.induct]; split <;> rfl
    · simp only [State.induct]; split <;> rfl
  exact made.settle (by rw [hrec.2]; decide) x

/-- Law 7 is a law of records. -/
theorem State.BoundBut.handLaw : HandLaw fun c s => s.BoundBut c where
  congr h hc _ hr := h.congr (by rw [hc]) hr
  modRecord h hf := h.keptBy hf
  setException k h := h.setException k
  clearException h := h.clearException
  learn h _ _ _ := (h.modRecord (f := fun r => { r with tag := _, flags := { r.flags with tagLearned := true } }) rfl).congr
    rfl rfl
  stageTransition k e h := h.stageTransition k e
  dropPending h := h.drops (by rw [CarrierRecord.named]; exact List.perm_append_comm.trans (by simp [CarrierRecord.named]))
  settle h hs := h.settle hs
  freed h := h.freed
  fill {c s tag f} h hf _ _ _ hr hp := by
    refine ((h c).modRecord (f := f) ?_).congr rfl rfl
    rw [CarrierRecord.named_of_none hr hp, State.BoundBut.named_of_free h hf]
  induct h hf _ hq := State.BoundBut.induct h _ _ _ hf (by rw [hq]; rfl)
  rerouteNow {c s q} h hs hq := by
    rw [State.rerouteNow_eq]
    refine ((h c).rerouted hq ?_).settle ?_
    · simp only [CarrierRecord.named, CarrierRecord.newRoute, Option.map_some, Option.toList_some]
      exact (List.perm_middle (l₁ := _)).symm
    · rw [State.state_rerouted]; exact CarrierState.ne_free_of_queued hs
  rerouteLater {c s q} h hs hq := by
    rw [State.rerouteLater_eq]
    refine ((h c).rerouted hq ?_).settle ?_
    · simp only [CarrierRecord.named, Option.toList_some]
      rw [← List.append_assoc, ← List.cons_append]
      exact (List.perm_append_singleton ..).symm.trans (List.perm_append_comm.append_right _)
    · rw [State.state_rerouted]; exact CarrierState.ne_free_of_inCustody hs

/-! ### The Route Store's own events -/

theorem State.BoundLaw.congr {s t : State} (h : s.BoundLaw) (hr : t.carriers.records = s.carriers.records)
    (hs : t.routes.slots = s.routes.slots) (hc : t.routes.classes = s.routes.classes) : t.BoundLaw := by
  have hslot : t.slotOf = s.slotOf := by funext x; simp only [State.slotOf, hs]
  simpa only [State.BoundLaw, hslot, hr, hc] using h

/-- A slot's state replaced by one that goes with its bound count, and that a class bound to it allows. -/
theorem State.BoundLaw.withSlot {s : State} (h : s.BoundLaw) {q : Slot} {r : RouteSlot}
    (hb : r.bound = (s.slotOf q).bound) (hs : r.Sound)
    (hc : (∃ x, s.routes.classes.get x = some q) → r.state.isActive = true) : (s.withSlot q r).BoundLaw := by
  obtain ⟨bound, sound, classes⟩ := h
  refine ⟨fun k => ?_, fun k => ?_, fun x k hx => ?_⟩
  · rw [State.slotOf_withSlot]
    split
    · next e => subst e; exact hb.trans (bound _)
    · exact bound k
  · show RouteSlot.Sound _
    rw [State.slotOf_withSlot]
    split
    · exact hs
    · exact sound k
  · rw [State.slotOf_withSlot]
    split
    · next e => subst e; exact hc ⟨x, hx⟩
    · exact classes x k hx

/-- A class is bound to no slot that is not ACTIVE (R123). -/
theorem State.BoundLaw.unclassed {s : State} (h : s.BoundLaw) {q : Slot} (hq : (s.slotOf q).state.isActive = false) :
    ¬ ∃ x, s.routes.classes.get x = some q := fun ⟨x, hx⟩ => by
  have := h.2.2 x q hx
  rw [hq] at this; cases this

theorem RouteEvent.boundLaw {s t : State} (e : RouteEvent s t) (h : s.BoundLaw) : t.BoundLaw := by
  have sound : ∀ q, (s.slotOf q).Sound := h.2.1
  have idle : ∀ {q : Slot} {x : SlotState}, (s.slotOf q).state = x → x.isActive = false → ∀ {P : Prop},
      (∃ x, s.routes.classes.get x = some q) → P :=
    fun hx ha _ hc => absurd hc (h.unclassed (hx ▸ ha))
  have none_of : ∀ {q : Slot}, s.classBoundTo q = false → ∀ {P : Prop}, (∃ x, s.routes.classes.get x = some q) → P :=
    fun hc _ hx => by have := (s.classBoundTo_iff _).mpr hx; rw [hc] at this; cases this
  cases e with
  | writeSet => exact h.congr rfl rfl rfl
  | @openSlot q hq =>
    have hb := sound q
    simp only [RouteSlot.Sound, hq] at hb
    exact h.withSlot rfl hb (idle hq rfl)
  | @discard q p hq =>
    have hb := sound q
    simp only [RouteSlot.Sound, hq] at hb
    exact h.withSlot rfl hb (idle hq rfl)
  | @writeDraft q p p' hq =>
    have hb := sound q
    simp only [RouteSlot.Sound, hq] at hb
    exact h.withSlot rfl hb (idle hq rfl)
  | @activate q p hq =>
    have hb := sound q
    simp only [RouteSlot.Sound, hq] at hb
    exact (h.withSlot (r := { state := .active p, bound := 0 }) hb.symm trivial fun _ => rfl).congr rfl rfl rfl
  | @withdraw q p _ hc hb =>
    exact (h.withSlot (r := { state := .empty, bound := 0 }) hb.symm rfl (none_of hc)).congr rfl rfl rfl
  | drain _ hc hb => exact h.withSlot rfl (Nat.pos_of_ne_zero hb) (none_of hc)
  | @bindClass c x hx =>
    obtain ⟨bound, sound, classes⟩ := h
    refine ⟨bound, sound, fun y q hy => ?_⟩
    have hget : (s.routes.classes.set c x).get y = some q := hy
    rw [Table.get_set] at hget
    split at hget
    · exact hx q hget
    · exact classes y q hget

theorem State.BoundLaw.resetTracking {s : State} (hf : s.FreeLaw) (h : s.BoundLaw) : s.resetTracking.BoundLaw := by
  have hslot : ∀ q, s.resetTracking.slotOf q = (s.slotOf q).afterReset := fun q => Table.get_mapRows ..
  refine ⟨fun q => ?_, fun q => ?_, fun x q hx => ?_⟩
  · have free : (s.resetTracking.carriers.records.rows.map fun r => r.names q).sum = 0 := by
      refine List.sum_eq_zero fun n hn => ?_
      obtain ⟨r, hr, rfl⟩ := List.mem_map.mp hn
      obtain ⟨x, rfl⟩ := (Table.mem_rows _ _).mp hr
      obtain ⟨n, hx⟩ := hf.resetTracking x
      rw [show s.resetTracking.carriers.records.get x = .free n from hx]; rfl
    rw [free, hslot, RouteSlot.afterReset]
    split <;> rfl
  · show ((s.resetTracking.slotOf q).Sound)
    rw [hslot, RouteSlot.afterReset]
    cases hs : (s.slotOf q).state with
    | draining p => exact rfl
    | active p => exact trivial
    | _ => exact rfl
  · have ha := h.2.2 x q hx
    rw [hslot, RouteSlot.afterReset]
    cases hs : (s.slotOf q).state with
    | active p => rfl
    | _ => rw [hs] at ha; cases ha

theorem State.boundLaw_reset : State.reset.BoundLaw := by
  have hslot : ∀ q, State.reset.slotOf q = { state := .empty, bound := 0 } := fun q => Table.get_fill _ _
  have hclass : ∀ x, State.reset.routes.classes.get x = none := fun x => Table.get_fill _ _
  refine ⟨fun q => ?_, fun q => by rw [hslot], fun x q hx => by rw [hclass] at hx; cases hx⟩
  rw [hslot]
  refine (List.sum_eq_zero fun n hn => ?_).symm
  obtain ⟨r, hr, rfl⟩ := List.mem_map.mp hn
  obtain ⟨x, rfl⟩ := (Table.mem_rows _ _).mp hr
  rw [show State.reset.carriers.records.get x = .free 0 from Table.get_fill _ _]; rfl

theorem State.OnlyZones.boundLaw {s t : State} (hz : s.OnlyZones t) (h : s.BoundLaw) : t.BoundLaw := by
  obtain ⟨bound, sound, classes⟩ := h
  have hroutes : t.routes = s.routes := by rw [hz.frame]
  have hslot : t.slotOf = s.slotOf := by funext x; simp only [State.slotOf, hroutes]
  refine ⟨fun q => ?_, hslot ▸ sound, by rw [hslot, hroutes]; exact classes⟩
  rw [hslot, bound q]
  refine Table.sum_congr fun x => ?_
  have hx := hz.record x
  simp only [State.record] at hx
  rw [hx]; rfl

theorem RouteEvent.carriers {s t : State} (e : RouteEvent s t) : t.carriers = s.carriers := by rw [e.frame]

theorem RouteEvent.freeLaw {s t : State} (e : RouteEvent s t) (h : s.FreeLaw) : t.FreeLaw := by
  simpa only [State.FreeLaw, State.record, e.carriers] using h

/-- Records that are FREE, the counts of bound slots and a law of records with them: every event keeps them. -/
theorem Event.boundBut {s t : State} (h : ∀ c, s.BoundBut c) (e : Event s t) : ∀ c, t.BoundBut c := by
  have iff := State.boundBut_iff
  refine State.BoundBut.handLaw.event ((iff _).mp ⟨State.recordLaws_reset.1, State.boundLaw_reset⟩) (fun h => ?_)
    (fun e h => ?_) (fun hz h => ?_) h e
  · obtain ⟨hf, hb⟩ := (iff _).mpr h
    refine (iff _).mp ⟨fun x _ => ?_, hb.resetTracking hf⟩
    obtain ⟨n, hn⟩ := hf.resetTracking x
    rw [hn]; rfl
  · obtain ⟨hf, hb⟩ := (iff _).mpr h
    exact (iff _).mp ⟨e.freeLaw hf, e.boundLaw hb⟩
  · obtain ⟨hf, hb⟩ := (iff _).mpr h
    exact (iff _).mp ⟨hz.freeLaw hf, hz.boundLaw hb⟩

theorem State.SameCore.boundBut {s t : State} (hc : s.SameCore t) {c : Handle} (h : s.BoundBut c) : t.BoundBut c :=
  h.congr (by rw [hc.carriers]) hc.routes

end Sys2Proof.Machine
end

section
/-! Lists of checks of which the first that fails is reported (R12 to R15, R117): the model's searches report what the
lists say. -/

-- One declaration at a time, which holds the text's memory down.
set_option Elab.async false

namespace Sys2Proof.Machine

/-! ### The first check that fails -/

section
variable {α β ι : Type} {code : β → α} {cs ds : List (Prop × α)}

theorem firstFails_nil (y : α) : ¬ firstFails ([] : List (Prop × α)) y := by
  rintro ⟨before, p, after, h, -⟩
  cases before <;> cases h

theorem firstFails_cons (p : Prop) (x y : α) :
    firstFails ((p, x) :: cs) y ↔ (¬ p ∧ y = x) ∨ (p ∧ firstFails cs y) := by
  constructor
  · rintro ⟨before, p', after, h, hb, hp⟩
    cases before with
    | nil => cases h; exact .inl ⟨hp, rfl⟩
    | cons c before =>
      cases h
      exact .inr ⟨hb _ List.mem_cons_self, before, p', after, rfl, fun d hd => hb d (List.mem_cons_of_mem _ hd), hp⟩
  · rintro (⟨hp, rfl⟩ | ⟨hp, before, p', after, rfl, hb, hp'⟩)
    · exact ⟨[], p, cs, rfl, fun _ h => absurd h List.not_mem_nil, hp⟩
    · exact ⟨(p, x) :: before, p', after, rfl, List.forall_mem_cons.mpr ⟨hp, hb⟩, hp'⟩

/-- A search reports what a list of checks says: nothing where all hold, else the code of the first that fails. -/
def Reports (code : β → α) (checks : List (Prop × α)) : Option β → Prop
  | none => ∀ c ∈ checks, c.1
  | some f => firstFails checks (code f)

theorem Reports.nil : Reports code [] none := fun _ h => absurd h List.not_mem_nil

theorem Reports.cons_of_holds {p : Prop} {x : α} {o : Option β} (hp : p) (h : Reports code cs o) :
    Reports code ((p, x) :: cs) o := by
  cases o with
  | none => exact List.forall_mem_cons.mpr ⟨hp, h⟩
  | some f => exact (firstFails_cons ..).mpr (.inr ⟨hp, h⟩)

theorem Reports.cons_of_fails {p : Prop} {f : β} (hp : ¬ p) : Reports code ((p, code f) :: cs) (some f) :=
  (firstFails_cons ..).mpr (.inl ⟨hp, rfl⟩)

theorem Reports.ite {p c : Prop} [Decidable c] {f : β} {o : Option β} (hc : c ↔ ¬ p) (h : p → Reports code cs o) :
    Reports code ((p, code f) :: cs) (if c then some f else o) := by
  split
  · next hx => exact .cons_of_fails (hc.mp hx)
  · next hx =>
    have hp : p := by rwa [hc, not_not] at hx
    exact .cons_of_holds hp (h hp)

theorem Reports.append {o o' : Option β} (h : Reports code cs o) (h' : o = none → Reports code ds o') :
    Reports code (cs ++ ds) (o.or o') := by
  cases o with
  | none =>
    have hd := h' rfl
    cases o' with
    | none => exact List.forall_mem_append.mpr ⟨h, hd⟩
    | some f =>
      obtain ⟨before, p, after, rfl, hb, hp⟩ := hd
      exact ⟨cs ++ before, p, after, by rw [List.append_assoc], List.forall_mem_append.mpr ⟨h, hb⟩, hp⟩
  | some f =>
    obtain ⟨before, p, after, rfl, hb, hp⟩ := h
    exact ⟨before, p, after ++ ds, by rw [List.append_assoc, List.cons_append], hb, hp⟩

theorem Reports.flatMap (l : List ι) {checks : ι → List (Prop × α)} {find : ι → Option β}
    (h : ∀ i, Reports code (checks i) (find i)) : Reports code (l.flatMap checks) (l.findSome? find) := by
  induction l with
  | nil => exact .nil
  | cons i l ih =>
    have hi := (h i).append fun _ => ih
    rw [List.flatMap_cons, List.findSome?_cons]
    cases hf : find i <;> rwa [hf] at hi

/-- Checks that hold where those of another list do, and report in another code. -/
theorem Reports.map {γ : Type} {code' : γ → α} {checks : List (Prop × ι)} {inner : β → ι} {o : Option β}
    {P : Prop → Prop} {enc : ι → α} {g : β → γ} (hP : ∀ p, P p ↔ p) (hc : ∀ f, code' (g f) = enc (inner f))
    (h : Reports inner checks o) : Reports code' (checks.map fun c => (P c.1, enc c.2)) (o.map g) := by
  cases o with
  | none =>
    intro c hx
    obtain ⟨d, hd, rfl⟩ := List.mem_map.mp hx
    exact (hP _).mpr (h d hd)
  | some f =>
    obtain ⟨before, p, after, rfl, hb, hp⟩ := h
    refine ⟨before.map fun c => (P c.1, enc c.2), P p, after.map fun c => (P c.1, enc c.2), ?_, fun c hx => ?_,
      fun hx => hp ((hP _).mp hx)⟩
    · rw [List.map_append, List.map_cons, hc]
    · obtain ⟨d, hd, rfl⟩ := List.mem_map.mp hx
      exact (hP _).mpr (hb d hd)

/-- Checks under a condition that does not hold. -/
theorem Reports.vacuous {checks : List (Prop × ι)} {P : Prop → Prop} {enc : ι → α} (hP : ∀ p, P p) :
    Reports code (checks.map fun c => (P c.1, enc c.2)) none := fun c hx => by
  obtain ⟨d, -, rfl⟩ := List.mem_map.mp hx
  exact hP _

/-- What a list reports is what the search finds. -/
theorem Reports.eq_some {o : Option β} {x : α} (h : Reports code cs o) (hx : firstFails cs x) : o.map code = some x := by
  induction cs with
  | nil => exact absurd hx (firstFails_nil x)
  | cons c cs ih =>
    obtain ⟨p, y⟩ := c
    rw [firstFails_cons] at hx
    cases o with
    | none =>
      obtain ⟨hp, hrest⟩ := List.forall_mem_cons.mp h
      exact ih hrest (hx.resolve_left fun e => e.1 hp).2
    | some f =>
      rcases (firstFails_cons ..).mp h with ⟨hp, e⟩ | ⟨hp, hrest⟩
      · exact (congrArg some e).trans (congrArg some (hx.resolve_right fun e => hp e.1).2).symm
      · exact ih hrest (hx.resolve_left fun e => e.1 hp).2

/-- Something is reported where not every check holds. -/
theorem Reports.exists_of_not {o : Option β} (h : Reports code cs o) (hx : ¬ ∀ c ∈ cs, c.1) :
    ∃ f, o = some f ∧ firstFails cs (code f) := by
  cases o with
  | none => exact absurd h hx
  | some f => exact ⟨f, rfl, h⟩

theorem firstFails_not_all {x : α} (h : firstFails cs x) : ¬ ∀ c ∈ cs, c.1 := by
  obtain ⟨before, p, after, rfl, -, hp⟩ := h
  exact fun hall => hp (hall (p, x) (List.mem_append_right _ List.mem_cons_self))

theorem Reports.eq_none_iff {o : Option β} (h : Reports code cs o) : o = none ↔ ∀ c ∈ cs, c.1 := by
  constructor
  · rintro rfl; exact h
  · intro hall
    cases o with
    | none => rfl
    | some f => exact absurd hall (firstFails_not_all h)

end

/-! ### The stages of a program (R117) -/

theorem State.entryFits_iff (s : State) (e : DecisionEntry) : s.entryFits e = true ↔ s.EntryValid e := by
  unfold State.entryFits State.EntryValid State.isOutlet
  cases e.preference <;> simp [and_assoc]

theorem State.stageFault_reports (s : State) (p : Program) (k : StageNo) :
    Reports StageFault.code (s.stageChecks p k) (s.stageFault p k) := by
  unfold State.stageFault State.stageChecks
  cases hs : p.stages.get k with
  | none => exact Reports.cons_of_fails (f := StageFault.stageUnwritten) fun h => h rfl
  | some stage =>
    refine .cons_of_holds (fun h => nomatch h) ?_
    refine Reports.ite (f := StageFault.boundary) (by simp) fun _ => ?_
    refine Reports.ite (f := StageFault.entry) (by simp [s.entryFits_iff]) fun _ => ?_
    refine Reports.ite (f := StageFault.endAction) (by simp) fun _ => ?_
    refine Reports.ite (f := StageFault.boundaryType) (by simp [State.isOutlet]) fun _ => ?_
    exact Reports.ite (f := StageFault.loopBase) (by simp) fun _ => .nil

theorem State.stageValid_iff (s : State) (p : Program) (k : StageNo) :
    s.StageValid p k ↔ ∀ c ∈ s.stageChecks p k, c.1 := by
  simp only [State.StageValid, State.stageChecks, List.forall_mem_cons]
  cases hs : p.stages.get k <;> simp

theorem State.stageFault_eq_none (s : State) (p : Program) (k : StageNo) : s.stageFault p k = none ↔ s.StageValid p k :=
  (s.stageFault_reports p k).eq_none_iff.trans (s.stageValid_iff p k).symm

theorem State.activationFault_eq_none (s : State) (p : Program) :
    s.activationFault p = none ↔ ∀ k : StageNo, k.val < p.stageCount → s.StageValid p k := by
  simp only [State.activationFault, List.findSome?_eq_none_iff, List.mem_finRange, true_implies, ← s.stageFault_eq_none]
  refine forall_congr' fun k => ?_
  split <;> simp [*]

/-- The lowest failing stage is found, with its first failing check. -/
theorem State.activationFault_lowest (s : State) {p : Program} {k : StageNo} (hk : k.val < p.stageCount) {f : StageFault}
    (hf : s.stageFault p k = some f) (hlow : ∀ j < k, s.StageValid p j) : s.activationFault p = some (k, f) := by
  rw [State.activationFault, List.findSome?_eq_some_iff]
  refine ⟨(List.finRange Config.stages).take k, k, (List.finRange Config.stages).drop (k + 1), ?_, by rw [if_pos hk, hf]; rfl,
    fun j hj => ?_⟩
  · have hlen : k.val < (List.finRange Config.stages).length := by rw [List.length_finRange]; exact k.isLt
    calc List.finRange Config.stages
        = (List.finRange Config.stages).take k ++ (List.finRange Config.stages).drop k := (List.take_append_drop ..).symm
      _ = _ := by rw [List.drop_eq_getElem_cons hlen, List.getElem_finRange]; rfl
  · obtain ⟨i, hi, rfl⟩ := List.mem_take_iff_getElem.mp hj
    rw [List.getElem_finRange]
    have hik : i < k.val := by omega
    have : s.stageFault p (Fin.cast (List.length_finRange) ⟨i, by omega⟩) = none := (s.stageFault_eq_none p _).mpr (hlow _ hik)
    rw [this]; simp

/-! ### The line (R12 to R14) -/

/-- A search of an object of a list that fails a check, one check for each. -/
theorem Reports.find {ι α β : Type} {code : β → α} {F : ι → β} {b : ι → Bool} {P : ι → Prop} (h : ∀ i, b i = true ↔ P i)
    (l : List ι) : Reports code (l.map fun i => (P i, code (F i))) ((l.find? fun i => !b i).map F) := by
  induction l with
  | nil => exact .nil
  | cons i l ih =>
    rw [List.map_cons, List.find?_cons]
    cases hb : b i with
    | true => exact .cons_of_holds ((h i).mp hb) ih
    | false => exact Reports.cons_of_fails (f := F i) fun hp => by rw [(h i).mpr hp] at hb; cases hb

end Sys2Proof.Machine
end

section
/-! START's validation (R12 to R15): it reports the first check of the line that fails, and nothing exactly where the line
is valid. -/

-- One declaration at a time, which holds the text's memory down.
set_option Elab.async false

namespace Sys2Proof.Machine

/-! ### A configured station (R12) -/

theorem StationRecord.shapeFits_iff (r : StationRecord) :
    r.shapeFits = true ↔ if r.type = .outlet then r.port1 = none ∧ r.exits = [] else r.exits ≠ [] := by
  rw [StationRecord.shapeFits]
  split <;> simp

theorem State.entryAgrees_zero (s : State) (st : Station) :
    s.entryAgrees st 0 = true ↔ ∀ g, (s.station st).port0 = some g → s.feeds g st 0 := by
  simp only [State.entryAgrees, StationRecord.entrySegment, State.feeds]
  cases (s.station st).port0 <;> simp

theorem State.entryAgrees_one (s : State) (st : Station) :
    s.entryAgrees st 1 = true ↔ ∀ g, (s.station st).port1 = some g → s.feeds g st 1 := by
  simp only [State.entryAgrees, StationRecord.entrySegment, State.feeds]
  cases (s.station st).port1 <;> simp

theorem State.entryKindFits_zero (s : State) (st : Station) :
    s.entryKindFits st 0 = true
      ↔ ∀ g, (s.station st).port0 = some g → ((s.segment g).kind = .staging ↔ (s.station st).type = .infeed) := by
  simp only [State.entryKindFits, StationRecord.entrySegment, StationRecord.entryKind]
  cases (s.station st).port0 with
  | none => simp
  | some g =>
    by_cases ht : (s.station st).type = .infeed <;> cases hk : (s.segment g).kind <;> simp [ht, hk]

theorem State.entryKindFits_one (s : State) (st : Station) :
    s.entryKindFits st 1 = true ↔ ∀ g, (s.station st).port1 = some g → (s.segment g).kind = .conveyor := by
  simp only [State.entryKindFits, StationRecord.entrySegment, StationRecord.entryKind]
  cases (s.station st).port1 <;> simp

theorem State.exitAgrees_iff (s : State) (st : Station) (e : Exit) :
    s.exitAgrees st e = true ↔ ∀ g, (s.station st).exits[e.val]? = some g →
      (s.segment g).downstream ≠ none ∧ (s.segment g).kind = .conveyor ∧ (s.segment g).upstream = some (st, e) := by
  simp only [State.exitAgrees, StationRecord.exitSegment, SegmentRecord.used]
  cases (s.station st).exits[e.val]? <;> simp [and_assoc, Option.isSome_iff_ne_none]

theorem State.stationFault_eq (s : State) (st : Station) :
    s.stationFault st
      = if ¬ (s.station st).shapeFits then some .shape
        else (((List.finRange Config.ports).find? fun p => !s.entryAgrees st p).map fun p => .entryMismatch p.val).or
          ((((List.finRange Config.ports).find? fun p => !s.entryKindFits st p).map fun p => .stagingMisplaced p.val).or
            (((List.finRange Config.exits).find? fun e => !s.exitAgrees st e).map fun e => .exitMismatch e.val)) := by
  rw [State.stationFault]
  split
  · rfl
  · cases (List.finRange Config.ports).find? fun p => !s.entryAgrees st p with
    | some p => rfl
    | none => cases (List.finRange Config.ports).find? fun p => !s.entryKindFits st p <;> rfl

theorem forall_ports {P : Port → Prop} (h0 : P 0) (h1 : P 1) (p : Port) : P p := by
  match p with
  | 0 => exact h0
  | 1 => exact h1

theorem StationRecord.entrySegment_port (r : StationRecord) (p : Port) :
    r.entrySegment p.val = if p = 0 then r.port0 else r.port1 :=
  forall_ports (P := fun p => r.entrySegment p.val = if p = 0 then r.port0 else r.port1) rfl rfl p

/-- Check 2 of R12 at a port. -/
def State.EntryMatches (s : State) (st : Station) (p : Port) : Prop :=
  ∀ g, (if p = 0 then (s.station st).port0 else (s.station st).port1) = some g → s.feeds g st p

/-- Check 3 of R12 at a port. -/
def State.EntryKindMatches (s : State) (st : Station) (p : Port) : Prop :=
  if p = 0 then ∀ g, (s.station st).port0 = some g → ((s.segment g).kind = .staging ↔ (s.station st).type = .infeed)
  else ∀ g, (s.station st).port1 = some g → (s.segment g).kind = .conveyor

theorem State.stationFault_reports (s : State) (st : Station) :
    Reports MapFault.bytes (s.stationChecks st) (s.stationFault st) := by
  have ports : List.finRange Config.ports = [0, 1] := by decide
  have exits : List.finRange Config.exits = [0, 1, 2] := by decide
  have entry := Reports.find (code := MapFault.bytes) (F := fun p : Port => .entryMismatch p.val)
    (b := s.entryAgrees st) (P := s.EntryMatches st)
    (forall_ports (s.entryAgrees_zero st) (s.entryAgrees_one st)) (List.finRange Config.ports)
  have kinds := Reports.find (code := MapFault.bytes) (F := fun p : Port => .stagingMisplaced p.val)
    (b := s.entryKindFits st) (P := s.EntryKindMatches st)
    (forall_ports (s.entryKindFits_zero st) (s.entryKindFits_one st)) (List.finRange Config.ports)
  have exit := Reports.find (code := MapFault.bytes) (F := fun e : Exit => .exitMismatch e.val)
    (s.exitAgrees_iff st) (List.finRange Config.exits)
  have all := entry.append fun _ => kinds.append fun _ => exit
  rw [s.stationFault_eq]
  refine Reports.ite (f := MapFault.shape) (not_congr (s.station st).shapeFits_iff) fun _ => ?_
  rw [ports, exits] at all ⊢
  exact all

/-- A configured station is valid exactly where each of its checks holds. -/
theorem State.stationValid_iff (s : State) (st : Station) : s.StationValid st ↔ ∀ c ∈ s.stationChecks st, c.1 := by
  simp only [State.StationValid, State.stationChecks, List.forall_mem_cons, List.not_mem_nil, false_implies, implies_true,
    and_true]
  constructor
  · rintro ⟨shape, zero, one, exits⟩
    exact ⟨shape, fun g h => (zero g h).1, fun g h => (one g h).1, fun g h => (zero g h).2, fun g h => (one g h).2,
      exits 0, exits 1, exits 2⟩
  · rintro ⟨shape, e0, e1, k0, k1, x0, x1, x2⟩
    refine ⟨shape, fun g h => ⟨e0 g h, k0 g h⟩, fun g h => ⟨e1 g h, k1 g h⟩, fun e => ?_⟩
    match e with
    | 0 => exact x0
    | 1 => exact x1
    | 2 => exact x2

/-! ### A used segment (R13) -/

theorem State.downstreamAgrees_iff (s : State) (g : Segment) (hu : (s.segment g).downstream ≠ none) :
    (match (s.segment g).downstream with
      | some (d, p) => s.configured d && (s.station d).entrySegment p.val == some g
      | none => false) = true
    ↔ ∀ st p, (s.segment g).downstream = some (st, p) → s.configured st = true ∧
        (if p = 0 then (s.station st).port0 else (s.station st).port1) = some g := by
  cases hd : (s.segment g).downstream with
  | none => exact absurd hd hu
  | some d =>
    obtain ⟨st, p⟩ := d
    simp only [StationRecord.entrySegment_port, Bool.and_eq_true, beq_iff_eq, Option.some.injEq, Prod.mk.injEq]
    exact ⟨fun h _ _ e => by obtain ⟨rfl, rfl⟩ := e; exact h, fun h => h st p ⟨rfl, rfl⟩⟩

theorem State.segmentFault_reports (s : State) {g : Segment} (hu : (s.segment g).downstream ≠ none) :
    Reports MapFault.bytes (s.segmentChecks g) (s.segmentFault g) := by
  unfold State.segmentFault State.segmentChecks
  refine Reports.ite (f := MapFault.segmentOrphan 0) (not_congr (s.downstreamAgrees_iff g hu)) fun _ => ?_
  refine Reports.ite (f := MapFault.segmentOrphan 1) ?_ fun _ => ?_
  · cases (s.segment g).upstream with
    | none => simp
    | some u =>
      obtain ⟨st, e⟩ := u
      simp only [StationRecord.exitSegment, Option.some.injEq, Prod.mk.injEq, Bool.and_eq_true, beq_iff_eq, Classical.not_imp]
      refine and_congr_right fun _ => not_congr ⟨fun h => ⟨st, e, ⟨rfl, rfl⟩, h⟩, ?_⟩
      rintro ⟨_, _, ⟨rfl, rfl⟩, h⟩
      exact h
  · exact Reports.ite (f := MapFault.window) (by simp) fun _ => .nil

theorem State.segmentValid_iff (s : State) (g : Segment) : s.SegmentValid g ↔ ∀ c ∈ s.segmentChecks g, c.1 := by
  simp only [State.SegmentValid, State.segmentChecks, List.forall_mem_cons, List.not_mem_nil, false_implies, implies_true,
    and_true]
  exact and_congr_right fun _ => ⟨fun h => ⟨fun k => (h k).1, fun k => (h k).2⟩, fun h k => ⟨h.1 k, h.2 k⟩⟩

/-! ### A counted slot (R14) -/

/-- The checks of a slot: of each stage in use, that it is valid. -/
def State.slotChecks (s : State) (q : Slot) : List (Prop × List Byte) :=
  (List.finRange Config.stages).map fun k =>
    (∀ p, (s.slotOf q).state.counted? = some p → k.val < p.stageCount → s.StageValid p k, [0x07, byteNat k.val])

theorem State.slotFault_reports (s : State) (q : Slot) : Reports MapFault.bytes (s.slotChecks q) (s.slotFault q) := by
  have uncounted : (s.slotOf q).state.counted? = none → Reports MapFault.bytes (s.slotChecks q) none := fun h c hc => by
    obtain ⟨k, -, rfl⟩ := List.mem_map.mp hc
    intro p hp
    rw [h] at hp; cases hp
  have counted : ∀ p, (s.slotOf q).state.counted? = some p →
      Reports MapFault.bytes (s.slotChecks q) ((s.activationFault p).map fun f => .routeInvalid f.1) := fun p hp => by
    have stages := Reports.flatMap (code := MapFault.bytes) (List.finRange Config.stages)
      (checks := fun k => [(k.val < p.stageCount → s.StageValid p k, [0x07, byteNat k.val])])
      (find := fun k => if k.val < p.stageCount then (s.stageFault p k).map fun _ => MapFault.routeInvalid k else none)
      fun k => by
        split
        · next hk =>
          have one : Reports MapFault.bytes [((k.val < p.stageCount → s.StageValid p k), [0x07, byteNat k.val])]
              (if (s.stageFault p k).isSome then some (.routeInvalid k) else none) :=
            Reports.ite (f := MapFault.routeInvalid k)
              (by simp [hk, ← s.stageFault_eq_none, Option.isSome_iff_ne_none]) fun _ => .nil
          cases hf : s.stageFault p k <;> simpa [hf] using one
        · next hk => exact .cons_of_holds (fun h => absurd h hk) .nil
    have found : (s.activationFault p).map (fun f => MapFault.routeInvalid f.1)
        = (List.finRange Config.stages).findSome? fun k =>
            if k.val < p.stageCount then (s.stageFault p k).map fun _ => MapFault.routeInvalid k else none := by
      rw [State.activationFault, List.map_findSome?]
      congr 1; funext k
      simp only [Function.comp]
      split <;> cases s.stageFault p k <;> rfl
    rw [found]
    rw [← List.map_eq_flatMap] at stages
    simpa only [State.slotChecks, hp, Option.some.injEq, forall_eq'] using stages
  unfold State.slotFault
  split
  · next p hp => exact counted p (by rw [hp]; rfl)
  · next p hp => exact counted p (by rw [hp]; rfl)
  · next hne1 hne2 =>
    refine uncounted ?_
    cases hs : (s.slotOf q).state with
    | active p => exact absurd hs (hne1 p)
    | draining p => exact absurd hs (hne2 p)
    | _ => rfl

/-! ### The line (R15) -/

theorem State.validate_eq (s : State) :
    s.validate
      = if (List.finRange Config.stations).all fun st => !s.configured st then some ⟨.line, .noStations⟩
        else ((List.finRange Config.stations).findSome? fun st =>
            if s.configured st then (s.stationFault st).map (Failure.mk (.station st)) else none).or
          (((List.finRange Config.segments).findSome? fun g =>
              if (s.segment g).used then (s.segmentFault g).map (Failure.mk (.segment g)) else none).or
            ((List.finRange Config.slots).findSome? fun q => (s.slotFault q).map (Failure.mk (.slot q)))) := by
  rw [State.validate]
  split
  · rfl
  · cases (List.finRange Config.stations).findSome? fun st =>
        if s.configured st then (s.stationFault st).map (Failure.mk (.station st)) else none with
    | some f => rfl
    | none =>
      cases (List.finRange Config.segments).findSome? fun g =>
          if (s.segment g).used then (s.segmentFault g).map (Failure.mk (.segment g)) else none <;> rfl

theorem State.configured_reports (s : State) (st : Station) :
    Reports Failure.bytes ((s.stationChecks st).map fun c => (s.configured st = true → c.1, 1 :: byteNat st.val :: c.2))
      (if s.configured st then (s.stationFault st).map (Failure.mk (.station st)) else none) := by
  split
  · next h =>
    exact (s.stationFault_reports st).map (P := fun p => s.configured st = true → p)
      (enc := fun b => 1 :: byteNat st.val :: b) (fun p => ⟨fun hp => hp h, fun hp _ => hp⟩) fun _ => rfl
  · next h =>
    exact Reports.vacuous (P := fun p => s.configured st = true → p)
      (enc := fun b => 1 :: byteNat st.val :: b) fun p hc => absurd hc h

theorem State.used_reports (s : State) (g : Segment) :
    Reports Failure.bytes
      ((s.segmentChecks g).map fun c => ((s.segment g).downstream ≠ none → c.1, 2 :: byteNat g.val :: c.2))
      (if (s.segment g).used then (s.segmentFault g).map (Failure.mk (.segment g)) else none) := by
  have hu : (s.segment g).used = true ↔ (s.segment g).downstream ≠ none := Option.isSome_iff_ne_none
  split
  · next h =>
    exact (s.segmentFault_reports (hu.mp h)).map (P := fun p => (s.segment g).downstream ≠ none → p)
      (enc := fun b => 2 :: byteNat g.val :: b) (fun p => ⟨fun hp => hp (hu.mp h), fun hp _ => hp⟩) fun _ => rfl
  · next h =>
    exact Reports.vacuous (P := fun p => (s.segment g).downstream ≠ none → p)
      (enc := fun b => 2 :: byteNat g.val :: b) fun p hc => absurd (hu.mpr hc) h

theorem State.slot_reports (s : State) (q : Slot) :
    Reports Failure.bytes ((List.finRange Config.stages).map fun k =>
        (∀ p, (s.slotOf q).state.counted? = some p → k.val < p.stageCount → s.StageValid p k,
          [3, byteNat q.val, 0x07, byteNat k.val]))
      ((s.slotFault q).map (Failure.mk (.slot q))) := by
  have h := (s.slotFault_reports q).map (code' := Failure.bytes) (P := fun p => p) (enc := fun b => 3 :: byteNat q.val :: b)
    (g := Failure.mk (.slot q)) (fun _ => Iff.rfl) fun _ => rfl
  rwa [State.slotChecks, List.map_map] at h

/-- START's validation reports the first check of the line that fails. -/
theorem State.validate_reports (s : State) : Reports Failure.bytes s.lineChecks s.validate := by
  have later := (Reports.flatMap (List.finRange Config.stations) s.configured_reports).append
    (fun _ => (Reports.flatMap (List.finRange Config.segments) s.used_reports).append
      fun _ => Reports.flatMap (List.finRange Config.slots) s.slot_reports)
  rw [State.lineChecks, List.append_assoc, List.append_assoc, s.validate_eq]
  exact Reports.ite (p := ∃ st, s.configured st = true) (f := (⟨.line, .noStations⟩ : Failure)) (by simp) fun _ => later

/-- The line is valid exactly where every check holds. -/
theorem State.lineValid_iff (s : State) : s.LineValid ↔ ∀ c ∈ s.lineChecks, c.1 := by
  simp only [State.lineChecks, List.forall_mem_append, List.forall_mem_flatMap, List.forall_mem_map, List.forall_mem_cons,
    List.not_mem_nil, false_implies, implies_true, and_true, List.mem_finRange, true_implies, State.LineValid,
    s.stationValid_iff, s.segmentValid_iff, and_assoc]
  refine and_congr_right fun _ => and_congr ?_ (and_congr ?_ ?_)
  · exact forall_congr' fun st => ⟨fun h c hc hs => h hs c hc, fun h hs c hc => h c hc hs⟩
  · exact forall_congr' fun g => ⟨fun h c hc hs => h hs c hc, fun h hs c hc => h c hc hs⟩
  · exact forall_congr' fun q => ⟨fun h k p hp => h p hp k, fun h p hp k => h k p hp⟩

theorem State.validate_eq_none (s : State) : s.validate = none ↔ s.LineValid :=
  s.validate_reports.eq_none_iff.trans s.lineValid_iff.symm

theorem Failure.bytes_eq (f : Failure) : ∃ object number reason detail : Byte, f.bytes = [object, number, reason, detail] := by
  obtain ⟨object, fault⟩ := f
  cases object <;> cases fault <;> exact ⟨_, _, _, _, rfl⟩

end Sys2Proof.Machine

open Sys2Proof Sys2Proof.Machine

/-- Settles O18: the search of START's validation reports what the list of checks says. -/
theorem validationDecidesTheDeviceState : Obligations.ValidationDecidesTheDeviceState := by
  intro s
  have run : exec .validationComplete s = .next s.completeValidation := rfl
  refine ⟨fun hd => ?_, fun hd hv => ?_, fun _ hv => ?_, fun report hd hf => ?_⟩
  · rw [run, State.completeValidation, if_neg hd]
  · rw [run, State.completeValidation, if_pos hd, s.validate_eq_none.mpr hv]; rfl
  · obtain ⟨f, -, hf⟩ := s.validate_reports.exists_of_not fun h => hv (s.lineValid_iff.mpr h)
    obtain ⟨object, number, reason, detail, e⟩ := f.bytes_eq
    exact ⟨object, number, reason, detail, e ▸ hf⟩
  · obtain ⟨f, hx, e⟩ := Option.map_eq_some_iff.mp (s.validate_reports.eq_some hf)
    rw [run, State.completeValidation, if_pos hd, hx, ← e]; rfl

end

section
/-! Law 8's counts (R112): every event keeps them. -/

-- One declaration at a time, which holds the text's memory down.
set_option Elab.async false

namespace Sys2Proof.Machine

/-- How often the stages of a slot name a set, where they count (R112). -/
def RouteSlot.uses (r : RouteSlot) (i : SetNo) : Nat := match r.state.counted? with | some p => p.uses i | none => 0

theorem RouteSlot.uses_of_counted {r : RouteSlot} {x : Option Program} (h : r.state.counted? = x) (i : SetNo) :
    r.uses i = x.elim 0 fun p => p.uses i := by
  rw [RouteSlot.uses, h]; cases x <;> rfl

theorem State.references_withSets_mapRows (s : State) (f : SetNo → DecisionSet → DecisionSet) (i : SetNo) :
    (s.withSets (s.routes.sets.mapRows f)).setOf i = f i (s.setOf i) := Table.get_mapRows ..

/-- The program of a DRAINING slot. -/
def RouteSlot.draining? (r : RouteSlot) : Option Program := match r.state with | .draining p => some p | _ => none

theorem State.drainingPrograms_eq (s : State) :
    s.drainingPrograms = s.routes.slots.rows.filterMap RouteSlot.draining? := rfl

namespace State.ReferenceLaw

variable {s t : State}

theorem congr (h : s.ReferenceLaw) (ht : t.routes = s.routes) : t.ReferenceLaw := by
  simpa only [State.ReferenceLaw, State.setOf, ht] using h

theorem uses_le (h : s.ReferenceLaw) (q : Slot) (i : SetNo) : (s.slotOf q).uses i ≤ (s.setOf i).references := by
  rw [h i]
  exact List.single_le_sum (fun _ _ => Nat.zero_le _) _
    (List.mem_map_of_mem ((Table.mem_rows _ _).mpr ⟨q, rfl⟩))

/-- One slot replaced, and each set's count changed by what the slot's stages name. -/
theorem replaceSlot (h : s.ReferenceLaw) {q : Slot} {r : RouteSlot} (hs : t.routes.slots = s.routes.slots.set q r)
    (hr : ∀ i, (t.setOf i).references + (s.slotOf q).uses i = (s.setOf i).references + r.uses i) : t.ReferenceLaw := by
  intro i
  have sum := s.routes.slots.sum_map_set q r fun r => r.uses i
  have old := h i
  have new := hr i
  rw [hs]
  show _ = ((s.routes.slots.set q r).rows.map fun r => r.uses i).sum
  change _ = (s.routes.slots.rows.map fun r => r.uses i).sum at old
  simp only [State.slotOf] at new
  omega

theorem withSlot (h : s.ReferenceLaw) {q : Slot} {r : RouteSlot} (hr : r.state.counted? = (s.slotOf q).state.counted?) :
    (s.withSlot q r).ReferenceLaw :=
  h.replaceSlot rfl fun i => by rw [RouteSlot.uses, RouteSlot.uses, hr]; rfl

theorem bindSlot (h : s.ReferenceLaw) (q : Slot) : (s.bindSlot q).ReferenceLaw := h.withSlot rfl

/-- A slot that stops counting gives up its stages' references (R112, R121). -/
theorem release (h : s.ReferenceLaw) {q : Slot} {r : RouteSlot} {p : Program} (hp : (s.slotOf q).state.counted? = some p)
    (hr : r.state.counted? = none) : ((s.withSlot q r).releaseReferences p).ReferenceLaw :=
  h.replaceSlot (q := q) (r := r) rfl fun i => by
    have hle := h.uses_le q i
    have hi : ((s.withSlot q r).releaseReferences p).setOf i
        = { s.setOf i with references := (s.setOf i).references - p.uses i } := Table.get_mapRows ..
    rw [RouteSlot.uses_of_counted hp] at hle ⊢
    rw [hi, RouteSlot.uses_of_counted hr]
    simp only [Option.elim] at hle ⊢
    omega

theorem unbindSlot? (h : s.ReferenceLaw) (x : Option Slot) : (s.unbindSlot? x).ReferenceLaw := by
  cases x with
  | none => exact h
  | some q =>
    simp only [State.unbindSlot?, State.unbindSlot]
    split
    · next p hp =>
      split
      · exact h.release (by rw [hp]; rfl) rfl
      · exact h.withSlot rfl
    · exact h.withSlot rfl

theorem strand (h : s.ReferenceLaw) (c : Handle) : (s.strand c).ReferenceLaw :=
  (h.unbindSlot? ((s.record c).route.map RouteRef.slot)).congr (by rw [State.strand_eq])

theorem exhausted {u : State} {c : Handle} (h : s.ReferenceLaw) (hu : s.ExhaustedOr c u) : u.ReferenceLaw := by
  rcases hu with rfl | rfl
  · exact h
  · exact h.congr rfl

theorem stageTransition (h : s.ReferenceLaw) (k : Station) (e : Byte) (c : Handle) :
    (s.stageTransition k e c).ReferenceLaw := by
  obtain ⟨u, hu, ht⟩ := s.stageTransition_transits k e c
  generalize s.stageTransition k e c = t at ht
  cases ht with
  | stays => exact h
  | applies => exact (h.unbindSlot? _).congr rfl
  | strands => exact (h.exhausted hu).strand c
  | advances => exact h.congr rfl
  | loops => exact (h.exhausted hu).congr rfl

theorem rerouted (h : s.ReferenceLaw) (c : Handle) (q : Slot) (x : Option Slot) (r : CarrierRecord) :
    (s.rerouted c q x r).ReferenceLaw :=
  ((h.bindSlot q).unbindSlot? x).congr rfl

theorem induct (h : s.ReferenceLaw) (g : Segment) (c : Handle) (t : Tag) (cls : Option Class) (q : Slot) :
    (s.induct g c t cls q).ReferenceLaw := by
  refine (h.bindSlot q).congr ?_
  simp only [State.induct]; split <;> rfl

/-- Law 8 is a law of records: only unbinding a slot can change a count. -/
theorem handLaw : HandLaw fun _ s => s.ReferenceLaw where
  congr h _ _ hr := h.congr hr
  modRecord h _ := h.congr rfl
  setException _ h := h.congr (by rw [State.setException_eq])
  clearException h := h.congr (by rw [State.clearException_eq])
  learn h _ _ _ := h.congr rfl
  stageTransition k e h := h.stageTransition k e _
  dropPending h := (h.unbindSlot? _).congr rfl
  settle h _ _ := h
  freed h _ := ((h.unbindSlot? _).unbindSlot? _).congr (by rw [State.freeRecord_eq])
  fill h _ _ _ _ _ _ := (h 0).congr rfl
  induct h _ _ _ _ := (h 0).induct _ _ _ _ _
  rerouteNow h _ _ _ := by rw [State.rerouteNow_eq]; exact (h 0).rerouted _ _ _ _
  rerouteLater h _ _ _ := by rw [State.rerouteLater_eq]; exact (h 0).rerouted _ _ _ _

theorem ofRoute (h : s.ReferenceLaw) (e : RouteEvent s t) : t.ReferenceLaw := by
  cases e with
  | @writeSet n places entries i hw hr =>
    intro j
    have hj : ((s.withSets (s.routes.sets.modify i fun d => { d with entries })).setOf j).references
        = (s.setOf j).references := by
      show ((s.routes.sets.modify i fun d => { d with entries }).get j).references = _
      rw [Table.get_modify]; split <;> rfl
    rw [hj]; exact h j
  | openSlot hq => exact h.withSlot (by rw [hq]; rfl)
  | discard hq => exact h.withSlot (by rw [hq]; rfl)
  | writeDraft hq => exact h.withSlot (by rw [hq]; rfl)
  | @activate q p hq =>
    refine h.replaceSlot (q := q) (r := { state := .active p, bound := 0 }) rfl fun i => ?_
    have hi : (((s.withSlot q { state := .active p, bound := 0 }).countReferences p).setOf i)
        = { s.setOf i with references := (s.setOf i).references + p.uses i } := Table.get_mapRows ..
    rw [hi, RouteSlot.uses_of_counted (x := none) (by rw [hq]; rfl)]; rfl
  | withdraw hq => exact h.release (by rw [hq]; rfl) rfl
  | drain hq => exact h.withSlot (by rw [hq]; rfl)
  | bindClass => exact h

/-- What the stages of a slot name is what they name after a tracking reset, and what a DRAINING slot gives up (R43). -/
theorem resetTracking (h : s.ReferenceLaw) : s.resetTracking.ReferenceLaw := by
  intro i
  have split : ∀ l : List RouteSlot, (l.map fun r => r.uses i).sum
      = (l.map fun r => r.afterReset.uses i).sum
        + ((l.filterMap RouteSlot.draining?).map fun p => p.uses i).sum := by
    intro l
    induction l with
    | nil => rfl
    | cons r l ih =>
      rw [List.map_cons, List.map_cons, List.sum_cons, List.sum_cons, ih, List.filterMap_cons]
      cases hr : r.state <;>
        simp only [RouteSlot.uses, RouteSlot.afterReset, RouteSlot.draining?, hr, SlotState.counted?, List.map_cons,
          List.sum_cons] <;> omega
  have rows : (s.resetTracking.routes.slots.rows.map fun r => r.uses i) = s.routes.slots.rows.map fun r => r.afterReset.uses i := by
    rw [Table.rows_eq, Table.rows_eq s.routes.slots, List.map_map, List.map_map]
    refine List.map_congr_left fun q _ => ?_
    show RouteSlot.uses (Table.get (s.routes.slots.mapRows fun _ r => r.afterReset) q) i = _
    rw [Table.get_mapRows]; rfl
  have hi : (s.resetTracking.setOf i).references
      = (s.setOf i).references - (s.drainingPrograms.map fun p => p.uses i).sum :=
    congrArg DecisionSet.references (Table.get_mapRows ..)
  show _ = (s.resetTracking.routes.slots.rows.map fun r => r.uses i).sum
  rw [rows, hi, h i]
  show (s.routes.slots.rows.map fun r => r.uses i).sum - _ = _
  rw [split, State.drainingPrograms_eq, Nat.add_sub_cancel]

end State.ReferenceLaw

theorem State.referenceLaw_reset : State.reset.ReferenceLaw := fun i => by
  have hi : (State.reset.setOf i).references = 0 := congrArg DecisionSet.references (Table.get_fill _ i)
  rw [hi]
  refine (List.sum_eq_zero fun n hn => ?_).symm
  obtain ⟨r, hr, rfl⟩ := List.mem_map.mp hn
  obtain ⟨q, rfl⟩ := (Table.mem_rows _ _).mp hr
  rw [show State.reset.routes.slots.get q = { state := .empty, bound := 0 } from Table.get_fill _ _]; rfl

theorem Event.referenceLaw {s t : State} (h : s.ReferenceLaw) (e : Event s t) : t.ReferenceLaw :=
  State.ReferenceLaw.handLaw.event (fun _ => State.referenceLaw_reset) (fun h _ => (h 0).resetTracking)
    (fun e h _ => (h 0).ofRoute e) (fun hz h _ => (h 0).congr (by rw [hz.frame])) (fun _ => h) e 0

end Sys2Proof.Machine
end

section
/-! Law 9 (R139): a routed carrier's slot is ACTIVE or DRAINING, its stage in use and its laps within the limit. With one
record in hand the law holds of every other, and of the one in hand again once what it names is bound. -/

namespace Sys2Proof.Machine

/-- A route that Law 9 allows a record. -/
def State.RouteSound (s : State) (r : RouteRef) : Prop :=
  ∃ p, (s.slotOf r.slot).state.counted? = some p ∧ r.stage.val < p.stageCount ∧ r.laps ≤ p.lapLimit

/-- Law 9 for every record but one. -/
structure State.RoutedBut (s : State) (c : Handle) : Prop where
  ranges : ∀ q p, s.programOf q = some p → p.InRange
  staged : ∀ q p, (s.slotOf q).state.counted? = some p → ∀ k : StageNo, k.val < p.stageCount →
    ∃ stage, p.stages.get k = some stage ∧ (stage.endAction = .advance → k.val + 1 ≠ p.stageCount)
      ∧ (stage.endAction = .loop → p.loopBase ≠ none)
  routed : ∀ h ≠ c, ∀ r, (s.record h).route = some r → s.RouteSound r

theorem State.RouteSound.of_state {s t : State} {r : RouteRef} (h : s.RouteSound r)
    (ht : (t.slotOf r.slot).state = (s.slotOf r.slot).state) : t.RouteSound r := by
  simpa only [State.RouteSound, ht] using h

/-- The slot of a sound route is read by the program it counts. -/
theorem State.RouteSound.program {s : State} {r : RouteRef} {p : Program} (h : s.RouteSound r)
    (hp : s.programOf r.slot = some p) :
    (s.slotOf r.slot).state.counted? = some p ∧ r.stage.val < p.stageCount ∧ r.laps ≤ p.lapLimit := by
  obtain ⟨p', hc, hs, hl⟩ := h
  have same : p' = p := by
    simp only [State.programOf] at hp
    cases hx : (s.slotOf r.slot).state <;> rw [hx] at hp hc <;> simp_all [SlotState.counted?, SlotState.program?]
  exact same ▸ ⟨hc, hs, hl⟩

theorem RouteRef.named {r : CarrierRecord} {x : RouteRef} (h : r.route = some x) : x.slot ∈ r.named := by
  simp [CarrierRecord.named, h]

theorem CarrierRecord.names_pos {r : CarrierRecord} {x : RouteRef} (h : r.route = some x) : 0 < r.names x.slot := by
  rw [← CarrierRecord.count_named]; exact List.count_pos_iff.mpr (RouteRef.named h)

namespace State.RoutedBut

variable {s t : State} {c : Handle} {l : List Slot}

theorem of_law (h : s.RouteLaw) (c : Handle) : s.RoutedBut c := ⟨h.1, h.2.1, fun x _ => h.2.2 x⟩

/-- The record in hand named again: the law holds. -/
theorem law (h : s.RoutedBut c) (hc : ∀ r, (s.record c).route = some r → s.RouteSound r) : s.RouteLaw :=
  ⟨h.ranges, h.staged, fun x r hr => by
    by_cases e : x = c
    · exact hc r (e ▸ hr)
    · exact h.routed x e r hr⟩

theorem congr (h : s.RoutedBut c) (hr : ∀ x ≠ c, (t.record x).route = (s.record x).route)
    (hs : ∀ q, (t.slotOf q).state = (s.slotOf q).state) : t.RoutedBut c :=
  ⟨fun q p hp => h.ranges q p (by rwa [State.programOf, hs] at hp), fun q p hp => h.staged q p (by rwa [hs] at hp),
    fun x hx r hxr => (h.routed x hx r (by rwa [hr x hx] at hxr)).of_state (hs _)⟩

theorem modRecord (h : s.RoutedBut c) (f : CarrierRecord → CarrierRecord) : (s.modRecord c f).RoutedBut c :=
  h.congr (fun x hx => by rw [State.record_modRecord, if_neg (Ne.symm hx)]) fun _ => rfl

theorem state_bindSlot (s : State) (q k : Slot) : ((s.bindSlot q).slotOf k).state = (s.slotOf k).state := by
  rw [State.slotOf_bindSlot]; split
  · next e => rw [e]
  · rfl

/-- A slot bound once less is as it was, or EMPTY. -/
theorem state_unbindSlot?_or (s : State) (x : Option Slot) (k : Slot) :
    ((s.unbindSlot? x).slotOf k).state = (s.slotOf k).state ∨ ((s.unbindSlot? x).slotOf k).state = .empty := by
  cases x with
  | none => exact .inl rfl
  | some q =>
    rw [State.unbindSlot?, State.slotOf_unbindSlot]
    split
    · next e =>
      subst e
      simp only [RouteSlot.unbound]
      split
      · split
        · exact .inr rfl
        · exact .inl rfl
      · exact .inl rfl
    · exact .inl rfl

/-- A slot unbound that was bound on the carrier's behalf: other carriers' routes stand. -/
theorem unbindSlot? (h : s.RoutedBut c) {x : Option Slot} (ht : s.Tally c (x.toList ++ l)) :
    (s.unbindSlot? x).RoutedBut c := by
  refine ⟨fun q p hp => ?_, fun q p hp => ?_, fun y hy r hr => ?_⟩
  · rcases state_unbindSlot?_or s x q with e | e
    · exact h.ranges q p (by rwa [State.programOf, e] at hp)
    · rw [State.programOf, e] at hp; cases hp
  · rcases state_unbindSlot?_or s x q with e | e
    · exact h.staged q p (by rwa [e] at hp)
    · rw [e] at hp; cases hp
  · rw [State.record_unbindSlot?] at hr
    exact (h.routed y hy r hr).of_state (ht.state_unbindSlot? (.inr ⟨y, hy, CarrierRecord.names_pos hr⟩))

end State.RoutedBut

/-- Laws 7 and 9 with one record in hand. -/
def State.RoutesBut (s : State) (c : Handle) : Prop := s.BoundBut c ∧ s.RouteLaw

namespace State.RoutesBut

variable {s t : State} {c : Handle}

theorem routedBut (h : s.RoutesBut c) (x : Handle) : s.RoutedBut x := .of_law h.2 x

theorem congr (h : s.RoutesBut c) (hc : t.carriers.records = s.carriers.records) (hr : t.routes = s.routes) :
    t.RoutesBut c := by
  have hrec : t.record = s.record := by funext x; simp only [State.record, hc]
  have hslot : t.slotOf = s.slotOf := by funext x; simp only [State.slotOf, hr]
  exact ⟨h.1.congr hc hr, by simpa only [State.RouteLaw, State.programOf, hrec, hslot] using h.2⟩

/-- The record in hand changed, but not what it names, nor its route. -/
theorem modRecord (h : s.RoutesBut c) {f : CarrierRecord → CarrierRecord}
    (hf : (f (s.record c)).route = (s.record c).route ∧ (f (s.record c)).pendingRoute = (s.record c).pendingRoute) :
    (s.modRecord c f).RoutesBut c := by
  refine ⟨h.1.modRecord (by simp only [CarrierRecord.named, hf]), ((h.routedBut c).modRecord f).law fun r hr => ?_⟩
  rw [State.record_modRecord, if_pos rfl, hf.1] at hr
  exact h.2.2.2 c r hr

theorem setException (h : s.RoutesBut c) (k : ExceptionKind) : (s.setException c k).RoutesBut c := by
  rw [State.setException_eq]
  exact (h.modRecord (f := fun r => { r with exception := some k }) ⟨rfl, rfl⟩).congr rfl rfl

theorem clearException (h : s.RoutesBut c) : (s.clearException c).RoutesBut c := by
  rw [State.clearException_eq]
  exact (h.modRecord (f := fun r => { r with exception := none }) ⟨rfl, rfl⟩).congr rfl rfl

/-- A slot that the record names is unbound, and the record made to name the rest: its new route is sound where the state
before counts it so. -/
theorem drops (h : s.RoutesBut c) {x : Option Slot} {f : CarrierRecord → CarrierRecord}
    (hf : (s.record c).named.Perm (x.toList ++ (f (s.record c)).named))
    (hr : ∀ r, (f (s.record c)).route = some r → s.RouteSound r) : ((s.unbindSlot? x).modRecord c f).RoutesBut c := by
  have tally := State.Tally.ofPerm h.1 hf
  refine ⟨h.1.drops hf, (((h.routedBut c).unbindSlot? tally).modRecord f).law fun r hxr => ?_⟩
  rw [State.record_modRecord, if_pos rfl, State.record_unbindSlot?] at hxr
  exact (hr r hxr).of_state (tally.state_unbindSlot? (.inl (RouteRef.named hxr)))

theorem exhausted {u : State} (h : s.RoutesBut c) (hu : s.ExhaustedOr c u) : u.RoutesBut c := by
  rcases hu with rfl | rfl
  · exact h
  · exact h.modRecord ⟨rfl, rfl⟩

theorem strand (h : s.RoutesBut c) : (s.strand c).RoutesBut c :=
  (h.drops (f := fun r => { r with route := none, flags := { r.flags with dwelt := false } }) (.refl _) nofun).setException _

theorem enterStage (h : s.RoutesBut c) {r r' : RouteRef} (hr : (s.record c).route = some r) (he : r'.slot = r.slot)
    (hs : s.RouteSound r') : (s.enterStage c r').RoutesBut c := by
  refine ⟨h.1.enterStage hr he, ((h.routedBut c).modRecord _).law fun x hx => ?_⟩
  rw [State.record_modRecord, if_pos rfl] at hx
  cases hx
  exact hs.of_state rfl

/-- A slot that a carrier names is bound, so it is ACTIVE or DRAINING: its stage 0 is in use. -/
theorem sound_first (h : s.RoutesBut c) {q : Slot} (hq : 0 < (s.slotOf q).bound) : s.RouteSound ⟨q, 0, 0⟩ := by
  obtain ⟨p, hp⟩ := (h.1.sound q).counted hq
  have range : p.InRange := h.2.1 q p (by
    rw [State.programOf]
    cases hx : (s.slotOf q).state <;> rw [hx] at hp <;> simp_all [SlotState.counted?, SlotState.program?])
  exact ⟨p, hp, range.1, Nat.zero_le _⟩

theorem applyPending (h : s.RoutesBut c) {q : Slot} (hp : (s.record c).pendingRoute = some q) :
    (s.applyPending c q).RoutesBut c := by
  refine h.drops ?_ fun r hr => ?_
  · simp only [CarrierRecord.named, hp]
    exact .refl _
  · cases hr
    have := State.Tally.count_le_bound h.1 q
    refine h.sound_first (lt_of_lt_of_le (List.count_pos_iff.mpr ?_) this)
    simp [CarrierRecord.named, hp]

theorem stageTransition (h : s.RoutesBut c) (k : Station) (e : Byte) : (s.stageTransition k e c).RoutesBut c := by
  obtain ⟨u, hu, ht⟩ := s.stageTransition_transits k e c
  generalize s.stageTransition k e c = t at ht
  cases ht with
  | stays => exact h
  | applies hp => exact h.applyPending hp
  | strands _ => exact (h.exhausted hu).strand
  | @advances r r' p stage _ hr hprog hs ha he hv hl =>
    obtain ⟨hc, hlt, hlaps⟩ := State.RouteSound.program (h.2.2.2 c r hr) hprog
    obtain ⟨stage', hs', hlast, -⟩ := h.2.2.1 _ _ hc _ hlt
    have same : stage' = stage := Option.some.inj (hs'.symm.trans hs)
    have := hlast (same ▸ ha)
    exact h.enterStage hr he ⟨p, by rw [he]; exact hc, by omega, by omega⟩
  | @loops r r' p _ hr hprog he hv hl =>
    obtain ⟨hc, -, -⟩ := State.RouteSound.program (h.2.2.2 c r hr) hprog
    have range := h.2.1 _ _ hprog
    have hlt : r'.stage.val < p.stageCount := hv.elim (range.2.2.2.2.1 _) (range.2.2.2.2.2 _)
    have slots : u.slotOf = s.slotOf := by rcases hu with rfl | rfl <;> rfl
    exact (h.exhausted hu).enterStage ((State.BoundBut.exhausted_route hu).1.trans hr) he
      ⟨p, by rw [he, slots]; exact hc, hlt, hl⟩

theorem freed (h : s.RoutesBut c) (x : Handle) : (s.freeRecord c).RoutesBut x := by
  have first := (h.routedBut c).unbindSlot? (l := (s.record c).pendingRoute.toList) h.1
  have second := first.unbindSlot? (l := []) (x := (s.record c).pendingRoute)
    (by rw [List.append_nil]; exact State.Tally.unbindSlot? h.1)
  refine ⟨h.1.freed x, (second.congr (t := s.freeRecord c) (fun y hy => ?_) fun q => ?_).law fun r hr => ?_⟩
  · rw [State.freeRecord_eq, State.record_unbindSlot?, State.record_unbindSlot?]
    simp only [State.record, Table.get_set_ne _ (Ne.symm hy)]
  · rw [State.freeRecord_eq]; rfl
  · rw [State.freeRecord_eq] at hr
    simp only [State.record, Table.get_set_self] at hr
    cases hr

theorem rerouted (h : s.RoutesBut c) {q : Slot} (hq : (s.slotOf q).state.isActive = true) {x : Option Slot}
    {r : CarrierRecord} (hp : (q :: (s.record c).named).Perm (x.toList ++ r.named))
    (hr : ∀ y, r.route = some y → y = ⟨q, 0, 0⟩ ∨ (s.record c).route = some y) : (s.rerouted c q x r).RoutesBut c := by
  have tally := State.Tally.ofPerm (State.Tally.bindSlot h.1 hq) hp
  have bound : (s.bindSlot q).RoutedBut c :=
    (h.routedBut c).congr (fun _ _ => rfl) (State.RoutedBut.state_bindSlot s q)
  refine ⟨h.1.rerouted hq hp, ((bound.unbindSlot? tally).congr (t := s.rerouted c q x r) (fun y hy => ?_)
    fun _ => rfl).law fun y hy => ?_⟩
  · rw [State.record_unbindSlot?]
    simp only [State.rerouted, State.record, Table.get_set_ne _ (Ne.symm hy)]
    rfl
  · simp only [State.rerouted, State.record, Table.get_set_self] at hy
    have kept := tally.state_unbindSlot? (.inl (RouteRef.named hy))
    have sound : s.RouteSound y := by
      rcases hr y hy with rfl | hold
      · cases hs : (s.slotOf q).state with
        | active p => exact ⟨p, by rw [hs]; rfl, (h.2.1 q p (by rw [State.programOf, hs]; rfl)).1, Nat.zero_le _⟩
        | _ => rw [hs] at hq; cases hq
      · exact h.2.2.2 c y hold
    exact (sound.of_state (State.RoutedBut.state_bindSlot s q _)).of_state kept

theorem induct (h : ∀ x, s.RoutesBut x) (g : Segment) (t : Tag) (cls : Option Class) {q : Slot} {p : Program}
    (hf : (s.record c).state = .free) (hq : (s.slotOf q).state = .active p) (x : Handle) :
    (s.induct g c t cls q).RoutesBut x := by
  have hslots : (s.induct g c t cls q).slotOf = (s.bindSlot q).slotOf := by
    funext k; simp only [State.induct]; split <;> rfl
  have hother : ∀ y ≠ c, (s.induct g c t cls q).record y = s.record y := fun y hy => by
    simp only [State.induct]
    split <;> simp only [State.bindSlot, State.record, State.withSlot_carriers, State.withTags_carriers, State.append_eq,
      State.modRecord_carriers, Table.modify, Table.get_set_ne _ (Ne.symm hy)]
  have hroute : ((s.induct g c t cls q).record c).route = some ⟨q, 0, 0⟩ := by
    simp only [State.induct]
    split <;> simp only [State.bindSlot, State.record, State.withSlot_carriers, State.withTags_carriers, State.append_eq,
      State.modRecord_carriers, Table.modify, Table.get_set_self] <;> rfl
  refine ⟨State.BoundBut.induct (fun x => (h x).1) g t cls hf (by rw [hq]; rfl) x,
    (((h c).routedBut c).congr (t := s.induct g c t cls q) (fun y hy => by rw [hother y hy]) fun k => ?_).law
      fun r hr => ?_⟩
  · rw [hslots, State.RoutedBut.state_bindSlot]
  · rw [hroute] at hr; cases hr
    refine ⟨p, ?_, ((h c).2.1 q p (by rw [State.programOf, hq]; rfl)).1, Nat.zero_le _⟩
    rw [hslots, State.RoutedBut.state_bindSlot, hq]; rfl

/-- Laws 7 and 9 together are a law of records. -/
theorem handLaw : HandLaw fun c s => s.RoutesBut c where
  congr h hc _ hr := h.congr (by rw [hc]) hr
  modRecord h hf := h.modRecord ⟨(hf _).2.2.1, (hf _).2.2.2⟩
  setException k h := h.setException k
  clearException h := h.clearException
  learn h _ _ _ := (h.modRecord (f := fun r => { r with tag := _, flags := { r.flags with tagLearned := true } })
    ⟨rfl, rfl⟩).congr rfl rfl
  stageTransition k e h := h.stageTransition k e
  dropPending h := h.drops
    (by rw [CarrierRecord.named]; exact List.perm_append_comm.trans (by simp [CarrierRecord.named])) fun r hr => h.2.2.2 _ r hr
  settle h hs x := ⟨h.1.settle hs x, h.2⟩
  freed h := h.freed
  fill {c s tag f} h hf _ _ _ hr hp := by
    have hrec : (s.record c).route = none ∧ (s.record c).pendingRoute = none := by
      rw [((s.boundBut_iff.mpr fun x => (h x).1).1 c hf)]; exact ⟨rfl, rfl⟩
    exact ((h c).modRecord (f := f) ⟨hr.trans hrec.1.symm, hp.trans hrec.2.symm⟩).congr rfl rfl
  induct h hf _ hq := State.RoutesBut.induct h _ _ _ hf hq
  rerouteNow {c s q} h hs hq x := by
    have bound := State.BoundBut.handLaw.rerouteNow (fun x => (h x).1) hs hq x
    rw [State.rerouteNow_eq] at bound ⊢
    refine ⟨bound, ((h c).rerouted hq ?_ ?_).2⟩
    · simp only [CarrierRecord.named, CarrierRecord.newRoute, Option.map_some, Option.toList_some]
      exact (List.perm_middle (l₁ := _)).symm
    · exact fun y hy => .inl (Option.some.inj hy).symm
  rerouteLater {c s q} h hs hq x := by
    have bound := State.BoundBut.handLaw.rerouteLater (fun x => (h x).1) hs hq x
    rw [State.rerouteLater_eq] at bound ⊢
    refine ⟨bound, ((h c).rerouted hq ?_ ?_).2⟩
    · simp only [CarrierRecord.named, Option.toList_some]
      rw [← List.append_assoc, ← List.cons_append]
      exact (List.perm_append_singleton ..).symm.trans (List.perm_append_comm.append_right _)
    · exact fun y hy => .inr hy

end State.RoutesBut

/-! ### The Route Store's own events, zones and resets -/

theorem State.RouteLaw.congr {s t : State} (h : s.RouteLaw) (hr : ∀ x, (t.record x).route = (s.record x).route)
    (hs : t.routes.slots = s.routes.slots) : t.RouteLaw :=
  ((State.RoutedBut.of_law h 0).congr (fun x _ => hr x) fun q => by simp only [State.slotOf, hs]).law fun r hx =>
    (State.RouteSound.of_state (h.2.2 0 r (by rwa [hr] at hx))) (by simp only [State.slotOf, hs])

/-- A slot's state replaced by one whose program is in range, whose stages pass where they count, and which no route is
bound to or which reads as the one before. -/
theorem State.RouteLaw.withSlot {s : State} (h : s.RouteLaw) {q : Slot} {r : RouteSlot}
    (hrange : ∀ p, r.state.program? = some p → p.InRange)
    (hstaged : ∀ p, r.state.counted? = some p → ∀ k : StageNo, k.val < p.stageCount →
      ∃ stage, p.stages.get k = some stage ∧ (stage.endAction = .advance → k.val + 1 ≠ p.stageCount)
        ∧ (stage.endAction = .loop → p.loopBase ≠ none))
    (hrouted : (∀ x y, (s.record x).route = some y → y.slot ≠ q) ∨ r.state.counted? = (s.slotOf q).state.counted?) :
    (s.withSlot q r).RouteLaw := by
  refine ⟨fun k p hp => ?_, fun k p hp => ?_, fun x y hy => ?_⟩
  · rw [State.programOf, State.slotOf_withSlot] at hp
    split at hp
    · exact hrange p hp
    · exact h.1 k p hp
  · rw [State.slotOf_withSlot] at hp
    split at hp
    · exact hstaged p hp
    · exact h.2.1 k p hp
  · obtain ⟨p, hc, hrest⟩ := h.2.2 x y hy
    refine ⟨p, ?_, hrest⟩
    rw [State.slotOf_withSlot]
    split
    · next e => exact hrouted.elim (fun hn => absurd e.symm (hn x y hy)) fun hc' => hc'.trans (e ▸ hc)
    · exact hc

/-- No carrier's route is at a slot that counts no program. -/
theorem State.RouteLaw.unrouted {s : State} (h : s.RouteLaw) {q : Slot} (hq : (s.slotOf q).state.counted? = none)
    (x : Handle) (y : RouteRef) (hy : (s.record x).route = some y) : y.slot ≠ q := fun e => by
  obtain ⟨p, hc, -⟩ := h.2.2 x y hy
  rw [e, hq] at hc; cases hc

/-- A slot bound to no carrier is on no carrier's route. -/
theorem State.BoundLaw.unrouted {s : State} (h : s.BoundLaw) {q : Slot} (hq : (s.slotOf q).bound = 0) (x : Handle)
    (y : RouteRef) (hy : (s.record x).route = some y) : y.slot ≠ q := fun e => by
  have hle : (s.record x).names q ≤ (s.carriers.records.rows.map fun r => r.names q).sum :=
    List.single_le_sum (fun _ _ => Nat.zero_le _) _ (List.mem_map_of_mem ((Table.mem_rows _ _).mpr ⟨x, rfl⟩))
  have := CarrierRecord.names_pos hy
  rw [← h.1 q, hq] at hle
  rw [e] at this
  omega

theorem Program.inRange_cleared : Program.cleared.InRange :=
  ⟨le_rfl, by decide, le_rfl, by decide, nofun, nofun⟩

/-- An activated program's stages pass (R117). -/
theorem State.staged_of_activation {s : State} {p : Program} (h : s.activationFault p = none) (k : StageNo)
    (hk : k.val < p.stageCount) : ∃ stage, p.stages.get k = some stage
      ∧ (stage.endAction = .advance → k.val + 1 ≠ p.stageCount) ∧ (stage.endAction = .loop → p.loopBase ≠ none) := by
  obtain ⟨stage, hget, -, -, hadvance, -, hloop⟩ := (s.activationFault_eq_none p).mp h k hk
  exact ⟨stage, hget, hadvance, hloop⟩

theorem RouteEvent.routeLaw {s t : State} (e : RouteEvent s t) (hb : s.BoundLaw) (h : s.RouteLaw) : t.RouteLaw := by
  have range : ∀ {q p}, (s.slotOf q).state.program? = some p → p.InRange := fun hp => h.1 _ _ hp
  cases e with
  | writeSet => exact h.congr (fun _ => rfl) rfl
  | openSlot hq =>
    exact h.withSlot (fun p hp => by cases hp; exact Program.inRange_cleared) nofun (.inr (by rw [hq]; rfl))
  | discard hq => exact h.withSlot nofun nofun (.inr (by rw [hq]; rfl))
  | writeDraft hq hp =>
    exact h.withSlot (fun p hx => by cases hx; exact hp (range (by rw [hq]; rfl))) nofun (.inr (by rw [hq]; rfl))
  | @activate q p hq ha =>
    have active := h.withSlot (q := q) (r := { state := .active p, bound := 0 })
      (fun p' hx => by cases hx; exact range (by rw [hq]; rfl))
      (fun p' hx => by cases hx; exact State.staged_of_activation ha) (.inl (h.unrouted (by rw [hq]; rfl)))
    exact active.congr (fun _ => rfl) rfl
  | withdraw _ _ hbound =>
    exact (h.withSlot (r := { state := .empty, bound := 0 }) nofun nofun (.inl (hb.unrouted hbound))).congr (fun _ => rfl) rfl
  | @drain q p hq =>
    exact h.withSlot (fun p' hx => by cases hx; exact range (by rw [hq]; rfl))
      (fun p' hx => by cases hx; exact h.2.1 q p (by rw [hq]; rfl)) (.inr (by rw [hq]; rfl))
  | bindClass => exact h.congr (fun _ => rfl) rfl

theorem State.routeLaw_reset : State.reset.RouteLaw := by
  have hslot : ∀ q, State.reset.slotOf q = { state := .empty, bound := 0 } := fun q => Table.get_fill _ _
  refine ⟨fun q p hp => ?_, fun q p hp => ?_, fun x r hr => ?_⟩
  · rw [State.programOf, hslot] at hp; cases hp
  · rw [hslot] at hp; cases hp
  · rw [show State.reset.record x = .free 0 from Table.get_fill _ _] at hr; cases hr

theorem State.RouteLaw.resetTracking {s : State} (hf : s.FreeLaw) (h : s.RouteLaw) : s.resetTracking.RouteLaw := by
  have hslot : ∀ q, s.resetTracking.slotOf q = (s.slotOf q).afterReset := fun q => Table.get_mapRows ..
  have state : ∀ q, (s.resetTracking.slotOf q).state = (s.slotOf q).state ∨ (s.resetTracking.slotOf q).state = .empty :=
    fun q => by
      rw [hslot, RouteSlot.afterReset]
      split
      · exact .inr rfl
      · exact .inl rfl
  refine ⟨fun q p hp => ?_, fun q p hp => ?_, fun x r hr => ?_⟩
  · rcases state q with e | e
    · exact h.1 q p (by rwa [State.programOf, e] at hp)
    · rw [State.programOf, e] at hp; cases hp
  · rcases state q with e | e
    · exact h.2.1 q p (by rwa [e] at hp)
    · rw [e] at hp; cases hp
  · obtain ⟨n, hn⟩ := hf.resetTracking x
    rw [hn] at hr; cases hr

theorem Event.routesBut {s t : State} (h : ∀ c, s.RoutesBut c) (e : Event s t) : ∀ c, t.RoutesBut c := by
  have both : ∀ {u : State}, (∀ c, u.BoundBut c) → u.RouteLaw → ∀ c, u.RoutesBut c := fun hb hr c => ⟨hb c, hr⟩
  have bound := e.boundBut fun c => (h c).1
  refine State.RoutesBut.handLaw.event
    (both ((State.boundBut_iff _).mp ⟨State.recordLaws_reset.1, State.boundLaw_reset⟩) State.routeLaw_reset) (fun h => ?_)
    (fun e h => ?_) (fun {s t} hz h => ?_) h e
  · obtain ⟨hf, hb⟩ := (State.boundBut_iff _).mpr fun c => (h c).1
    refine both ((State.boundBut_iff _).mp ⟨fun x _ => ?_, hb.resetTracking hf⟩) ((h 0).2.resetTracking hf)
    obtain ⟨n, hn⟩ := hf.resetTracking x
    rw [hn]; rfl
  · obtain ⟨hf, hb⟩ := (State.boundBut_iff _).mpr fun c => (h c).1
    exact both ((State.boundBut_iff _).mp ⟨e.freeLaw hf, e.boundLaw hb⟩) (e.routeLaw hb (h 0).2)
  · obtain ⟨hf, hb⟩ := (State.boundBut_iff _).mpr fun c => (h c).1
    exact both ((State.boundBut_iff _).mp ⟨hz.freeLaw hf, hz.boundLaw hb⟩)
      ((h 0).2.congr (fun x => by rw [hz.record x]) (by rw [hz.frame]))

theorem State.SameCore.routesBut {s t : State} (hc : s.SameCore t) {c : Handle} (h : s.RoutesBut c) : t.RoutesBut c :=
  h.congr (by rw [hc.carriers]) hc.routes

end Sys2Proof.Machine

open Sys2Proof Sys2Proof.Machine

/-- Settles O59, event by event: with the record of the carrier an event handles set aside, the counts are right with the
slots bound on that carrier's behalf in the place of those its record names. -/
theorem stepsKeepRouteStoreLaws : Obligations.StepsKeepRouteStoreLaws := by
  refine ⟨fun s t hs h => ?_, fun s t hs h => ?_, fun s t hf hb hr h => ?_⟩
  · exact (State.boundBut_iff t).mpr (State.step_keeps (H := fun s => ∀ c, s.BoundBut c) (P := fun s => ∀ c, s.BoundBut c)
      (fun _ _ hc h c => hc.boundBut (h c)) (fun _ _ hc h c => hc.boundBut (h c)) (fun _ _ => Event.boundBut)
      ((State.boundBut_iff s).mp hs) h)
  · exact State.step_keeps (H := State.ReferenceLaw) (P := State.ReferenceLaw) (fun _ _ hc h => h.congr hc.routes)
      (fun _ _ hc h => h.congr hc.routes) (fun _ _ => Event.referenceLaw) hs h
  · exact (State.step_keeps (H := fun s => ∀ c, s.RoutesBut c) (P := fun s => ∀ c, s.RoutesBut c)
      (fun _ _ hc h c => hc.routesBut (h c)) (fun _ _ hc h c => hc.routesBut (h c)) (fun _ _ => Event.routesBut)
      (fun c => ⟨(State.boundBut_iff s).mp ⟨hf, hb⟩ c, hr⟩) h 0).2

end

section
/-! What the Line Map's commands write, as an equivalence for each: a record is written exactly where the parameters spell
it and it is in its ranges (R4, R6, R110). -/

-- One declaration at a time, which holds the text's memory down.
set_option Elab.async false

namespace Sys2Proof.Machine

/-! ### STATION_SET (R4) -/

/-- The parameters of a STATION_SET spell record `r` of a configured type, which is in its ranges (R3, R4, R199). -/
structure SpellsStation (p : StationSetParams) (type : StationType) (r : StationRecord) : Prop where
  type : r.type = type
  zone : index? Config.zones p.zone = some r.zone
  port0 : ∃ g, index? Config.segments p.port0 = some g ∧ r.port0 = some g ∧ r.port1 ≠ some g
  port1 : optIndex? Config.segments p.port1 = some r.port1
  exits : exitList? p.exit0 p.exit1 p.exit2 = some r.exits
  checkLevel : CheckLevel.ofCode p.checkLevel = some r.checkLevel
  skipLimit : (index? 8 p.skipLimit).map Fin.val = some r.skipLimit
  occupancyLimit : r.occupancyLimit = p.occupancyLimit
  defaultExit : index? Config.exits p.defaultExit = some r.defaultExit
  rejectExit : optIndex? Config.exits p.rejectExit = some r.rejectExit
  distinct : r.exits.Nodup
  defaultBelow : r.defaultExit.val < r.exits.length ∨ (r.exits = [] ∧ r.defaultExit = 0)
  rejectBelow : ∀ e, r.rejectExit = some e → e.val < r.exits.length
  outlet : r.type = .outlet → r.occupancyLimit = 0

theorem repeats_iff (l : List Segment) : repeats l = true ↔ ¬ l.Nodup := by simp [repeats]

theorem stationSetRecord?_eq_some {p : StationSetParams} {type : StationType} {r : StationRecord} :
    stationSetRecord? p type = some r ↔ SpellsStation p type r := by
  simp only [stationSetRecord?, Option.bind_eq_bind, Option.bind_eq_some_iff, Option.pure_def, Option.bind_none,
    Option.ite_none_left_eq_some, Option.some.injEq, repeats_iff]
  constructor
  · rintro ⟨zone, hz, g, h0, port1, h1, exits, hx, level, hl, skip, hs, dflt, hd, reject, hr, ports, below, rejected,
      limit, rfl⟩
    obtain ⟨hne, distinct⟩ := not_or.mp ports
    exact ⟨rfl, hz, ⟨g, h0, rfl, hne⟩, h1, hx, hl, by rw [hs]; rfl, rfl, hd, hr, not_not.mp distinct, not_not.mp below,
      fun e he => Nat.lt_of_not_le fun hle => rejected ⟨e, he, hle⟩, fun ht => by
        by_contra ho; exact limit ⟨ht, ho⟩⟩
  · rintro ⟨ht, hz, ⟨g, h0, e0, hne⟩, h1, hx, hl, hs, ho, hd, hr, distinct, below, rejected, limit⟩
    obtain ⟨skip, hs, hsv⟩ := Option.map_eq_some_iff.mp hs
    refine ⟨r.zone, hz, g, h0, r.port1, h1, r.exits, hx, r.checkLevel, hl, skip, hs, r.defaultExit, hd, r.rejectExit, hr,
      not_or.mpr ⟨hne, not_not.mpr distinct⟩, not_not.mpr below, ?_, ?_, ?_⟩
    · rintro ⟨e, he, hle⟩
      exact absurd (rejected e he) (Nat.not_lt.mpr hle)
    · rintro ⟨hto, hne0⟩
      exact hne0 (ho ▸ limit (ht.trans hto))
    · cases r; simp only at ht e0 hsv ho; subst ht e0 hsv ho; rfl

theorem stationWritten?_cases {p : StationSetParams} {r : StationRecord} (h : stationWritten? p = some r) :
    r = .powerOn ∨ ∃ type, type ≠ .unused ∧ SpellsStation p type r := by
  unfold stationWritten? at h
  split at h
  · cases h
  · cases h; exact .inl rfl
  · next type hne _ => exact .inr ⟨type, hne, stationSetRecord?_eq_some.mp h⟩

theorem exitList?_length {e0 e1 e2 : Byte} {l : List Segment} (h : exitList? e0 e1 e2 = some l) : l.length ≤ 3 := by
  unfold exitList? at h
  split at h <;> cases h <;> simp

/-! ### SEGMENT_SET (R6) -/

/-- The parameters of a SEGMENT_SET with use choice *used* spell record `r`, which is in its ranges (R5, R6, R199). -/
structure SpellsSegment (p : SegmentSetParams) (r : SegmentRecord) : Prop where
  kind : SegmentKind.ofCode p.kind = some r.kind
  upStation : optIndex? Config.stations p.upStation = some (r.upstream.map Prod.fst)
  upExit : optIndex? Config.exits p.upExit = some (r.upstream.map Prod.snd)
  downstream : ∃ d q, index? Config.stations p.downStation = some d ∧ index? Config.ports p.downPort = some q
    ∧ r.downstream = some (d, q)
  fed : r.upstream.isSome = true ↔ r.kind = .conveyor
  capacity : r.capacity = p.capacity.toNat
  capacityRange : 1 ≤ r.capacity ∧ r.capacity ≤ 64
  minTransit : r.minTransit = if r.kind = .staging then 0 else p.minTransit
  maxTransit : r.maxTransit = p.maxTransit
  maxNonzero : r.maxTransit ≠ 0

/-- The upstream pair of a SEGMENT_SET: both bytes name a place, or neither does. -/
theorem upstream_eq_some {u : Option Station} {e : Option Exit} {f : Option (Station × Exit) → Option SegmentRecord}
    {r : SegmentRecord} :
    (match u, e with
      | some st, some e => (some (some (st, e))).bind f
      | none, none => (some none).bind f
      | _, _ => none) = some r ↔ ∃ x, u = x.map Prod.fst ∧ e = x.map Prod.snd ∧ f x = some r := by
  cases u <;> cases e <;> simp

theorem segmentSetRecord?_eq_some {p : SegmentSetParams} {r : SegmentRecord} :
    segmentSetRecord? p = some r ↔ SpellsSegment p r := by
  simp only [segmentSetRecord?, Option.bind_eq_bind, Option.bind_eq_some_iff, Option.pure_def, Option.bind_none]
  constructor
  · rintro ⟨kind, hk, u, hu, e, he, d, hd, q, hq, h⟩
    obtain ⟨up, rfl, rfl, hup⟩ := upstream_eq_some.mp h
    simp only [Option.ite_none_left_eq_some, Option.some.injEq] at hup
    obtain ⟨fed, range, rfl⟩ := hup
    simp only [not_or] at range
    obtain ⟨h0, h64, hmax⟩ := range
    exact ⟨hk, hu, he, ⟨d, q, hd, hq, rfl⟩, iff_of_eq (not_not.mp fed), rfl,
      ⟨Nat.pos_of_ne_zero fun e => h0 (BitVec.eq_of_toNat_eq e), Nat.le_of_not_lt h64⟩, rfl, rfl, hmax⟩
  · rintro ⟨hk, hu, he, ⟨d, q, hd, hq, hdown⟩, fed, hcap, ⟨h1, h64⟩, hmin, hmax, hne⟩
    refine ⟨r.kind, hk, _, hu, _, he, d, hd, q, hq, upstream_eq_some.mpr ⟨r.upstream, rfl, rfl, ?_⟩⟩
    simp only [Option.ite_none_left_eq_some, Option.some.injEq]
    refine ⟨not_not.mpr (propext fed), ?_, ?_⟩
    · simp only [not_or]
      exact ⟨fun e => by rw [hcap, e] at h1; exact absurd h1 (by decide), Nat.not_lt.mpr (hcap ▸ h64), hmax ▸ hne⟩
    · rw [← hdown, ← hcap, ← hmin, ← hmax]

theorem segmentWritten?_cases {p : SegmentSetParams} {r : SegmentRecord} (h : segmentWritten? p = some r) :
    r = .powerOn ∨ SpellsSegment p r := by
  unfold segmentWritten? at h
  split at h
  · cases h; exact .inl rfl
  · exact .inr (segmentSetRecord?_eq_some.mp h)
  · cases h

/-! ### DECISION_WRITE (R110) -/

theorem entryOfPlace_eq_some {p : EntryPlace} {e : DecisionEntry} :
    entryOfPlace p = some e ↔ index? Config.stations p.station = some e.station
      ∧ match e.preference with
        | .fixed a => p.kind.toNat = 1 ∧ index? Config.exits p.exitA = some a
        | .balance a b => p.kind.toNat = 2 ∧ index? Config.exits p.exitA = some a ∧ index? Config.exits p.exitB = some b
            ∧ a ≠ b := by
  obtain ⟨station, preference⟩ := e
  simp only [entryOfPlace, Option.bind_eq_bind, Option.bind_eq_some_iff, Option.pure_def, Option.bind_none]
  constructor
  · rintro ⟨k, hk, a, ha, h⟩
    split at h
    · next hkind => cases h; exact ⟨hk, hkind, ha⟩
    · next hkind =>
      simp only [Option.bind_eq_some_iff, Option.ite_none_left_eq_some, Option.some.injEq] at h
      obtain ⟨b, hb, hne, h⟩ := h
      cases h; exact ⟨hk, hkind, ha, hb, hne⟩
    · cases h
  · rintro ⟨hk, h⟩
    cases preference with
    | fixed a =>
      obtain ⟨hkind, ha⟩ := h
      exact ⟨station, hk, a, ha, by simp only [hkind]⟩
    | balance a b =>
      obtain ⟨hkind, ha, hb, hne⟩ := h
      exact ⟨station, hk, a, ha, by simp only [hkind, hb, Option.bind_some, if_neg hne]⟩

theorem writtenEntries?_eq_some {n : Byte} {places : List EntryPlace} {entries : List DecisionEntry} :
    writtenEntries? n places = some entries ↔ n.toNat ≤ Config.entryPlaces
      ∧ (places.take n.toNat).mapM entryOfPlace = some entries ∧ (entries.map DecisionEntry.station).Nodup := by
  simp only [writtenEntries?, Option.bind_eq_bind, Option.pure_def, Option.bind_none, Option.ite_none_left_eq_some,
    Option.bind_eq_some_iff, Option.some.injEq, not_lt, not_not]
  exact and_congr_right fun _ => ⟨fun ⟨l, h, hn, e⟩ => e ▸ ⟨h, hn⟩, fun ⟨h, hn⟩ => ⟨entries, h, hn, rfl⟩⟩

end Sys2Proof.Machine
end

section
/-! The standing laws that read the map, the zones and custody: each event keeps stations halted with their zones (R156,
R160, R164) and the records of the map and the decision sets in their ranges (R3, R5, R109). -/

-- One declaration at a time, which holds the text's memory down.
set_option Elab.async false

namespace Sys2Proof.Machine

/-! ### Events of carriers, and the others -/

/-- What every event keeps that keeps what the carriers' events keep, and is kept by each of the others. -/
theorem Event.keeps_rec {P : State → Prop} {s t : State} (e : Event s t) (keeps : s.Keeps t → P t)
    (reset : P State.reset) (tick : ∀ samples, P (s.tick samples)) (map : ∀ {t}, MapEvent s t → P t)
    (route : ∀ {t}, RouteEvent s t → P t) (zones : ∀ z c, P (s.withCauses z c)) (latches : ∀ n mask, P (s.latchMask n mask))
    (resetTracking : s.usedZoneRunning = false → P s.resetTracking) : P t := by
  have serves : ∀ {k c}, (s.custodyOf k).occupant? = some c → (s.custodyOf k).isHalted = false → s.Serves k :=
    State.serves_of_occupant
  cases e with
  | idle => exact keeps (.refl s)
  | reset => exact reset
  | tick samples => exact tick samples
  | ofMap h => exact map h
  | ofRoute h => exact route h
  | causes z c => exact zones z c
  | latches n mask => exact latches n mask
  | resetTracking _ hz => exact resetTracking hz
  | arrival k port t seq hc _ hi => exact keeps (.resolveArrival hc hi port t seq)
  | clear k c e _ _ ho hh => exact keeps (.clearOccupant (serves ho hh) c e)
  | removeJam k c e _ hj => exact keeps (.removeJammed (serves (by rw [hj]; rfl) (by rw [hj]; rfl)) c e)
  | grant g n woken => exact keeps (.grantRounds g n woken s)
  | redecide h => exact keeps (.redecide (serves (by rw [h]; rfl) (by rw [h]; rfl)) _)
  | jam h => exact keeps (.withCustody (serves (by rw [h]; rfl) (by rw [h]; rfl)) rfl)
  | expire => exact keeps (.inside ((State.Inside.withTracker s _).trans (.makeLost _ _ _)))
  | purge g => exact keeps (.inside (.purge s g))
  | induct cls => exact keeps (.inside (.induct s _ _ _ cls _))
  | rerouteNow => exact keeps (.inside (.rerouteNow s _ _))
  | rerouteLater => exact keeps (.inside (.rerouteLater s _ _))
  | retire => exact keeps (.inside (.freeRecord s _))

/-! ### Stations halted with their zones -/

theorem State.haltLaw_iff (s : State) : s.HaltLaw ↔ ∀ k, s.HaltSound k := Iff.rfl

theorem State.haltSound_iff (s : State) (k : Station) :
    s.HaltSound k ↔ (s.configured k = true → (s.custodyOf k).isHalted = s.zoneHalted (s.station k).zone)
      ∧ (s.configured k = false → s.custodyOf k = .idle) ∧ (s.isOutlet k = true → (s.custodyOf k).occupant? = none) := by
  rw [State.HaltSound, ← and_assoc]
  refine and_congr_left' ?_
  cases s.configured k <;> simp

/-- A station's custody as its zone enters HALTED (R160). -/
theorem State.custodyOf_enterHalted (s : State) (z : Zone) (k : Station) :
    (s.enterHalted z).custodyOf k = if s.inZone z k then (s.custodyOf k).save s.lineTime else s.custodyOf k := by
  simp only [State.enterHalted, State.custodyOf, State.withCustodies_custody, Table.get_mapRows]

/-- A station's custody as its zone leaves HALTED (R164). -/
theorem State.custodyOf_leaveHalted (s : State) (z : Zone) (k : Station) :
    (s.leaveHalted z).custodyOf k = if s.inZone z k then s.resumedCustody k (s.custodyOf k) else s.custodyOf k := by
  simp only [State.leaveHalted, State.custodyOf, State.withRoomEvents_custody, State.withLink_custody,
    State.withCustodies_custody, Table.get_mapRows]

/-- A station's custody as its zone's causes are replaced (R156). -/
theorem State.custodyOf_withCauses (s : State) (z : Zone) (c : HaltCauses) (k : Station) :
    (s.withCauses z c).custodyOf k
      = if s.inZone z k then
          if !s.zoneHalted z && c.present then (s.custodyOf k).save s.lineTime
          else if s.zoneHalted z && !c.present then s.resumedCustody k (s.custodyOf k)
          else s.custodyOf k
        else s.custodyOf k := by
  have enter := State.custodyOf_enterHalted (s.withZones { s.zones with causes := s.zones.causes.set z c }) z k
  have leave := State.custodyOf_leaveHalted (s.withZones { s.zones with causes := s.zones.causes.set z c }) z k
  unfold State.withCauses
  by_cases h1 : (!s.zoneHalted z && c.present) = true
  · simp only [h1, if_true]; exact enter
  · by_cases h2 : (s.zoneHalted z && !c.present) = true
    · simp only [h1, h2, if_true]; exact leave
    · simp only [h1, h2, Bool.false_eq_true, if_false, ite_self]; rfl

theorem Custody.isHalted_save (now : Time) (c : Custody) : (c.save now).isHalted = true := by cases c <;> rfl

theorem State.isHalted_resumedCustody (s : State) (k : Station) (c : Custody) : (s.resumedCustody k c).isHalted = false := by
  cases c with
  | halted v => cases v <;> rfl
  | _ => rfl

theorem State.inZone_iff (s : State) (z : Zone) (k : Station) :
    s.inZone z k = true ↔ s.configured k = true ∧ (s.station k).zone = z := by simp [State.inZone]

theorem State.haltSound_withCauses {s : State} (h : ∀ k, s.HaltSound k) (z : Zone) (c : HaltCauses) (k : Station) :
    (s.withCauses z c).HaltSound k := by
  have hmap := (State.OnlyZones.withCauses s z c).map
  have hold := (State.OnlyZones.withCauses s z c).custody k
  obtain ⟨halted, unused, outlet⟩ := (s.haltSound_iff k).mp (h k)
  have hcustody := State.custodyOf_withCauses s z c k
  have hstation : (s.withCauses z c).station k = s.station k := by simp only [State.station, hmap]
  simp only [State.haltSound_iff, State.configured, State.isOutlet, hstation, State.zoneHalted_withCauses, hcustody]
  refine ⟨fun hk => ?_, fun hk => ?_, fun ho => hcustody ▸ hold.occupant.trans (outlet ho)⟩
  · have halted := halted hk
    by_cases hz : (s.station k).zone = z
    · rw [if_pos ((s.inZone_iff z k).mpr ⟨hk, hz⟩), if_pos hz.symm]
      rw [hz] at halted
      cases hwas : s.zoneHalted z <;> cases his : c.present <;>
        simp only [Bool.not_true, Bool.not_false, Bool.and_true, Bool.and_false, if_true, Bool.false_eq_true, if_false,
          Custody.isHalted_save, State.isHalted_resumedCustody, halted, hwas]
    · rw [if_neg fun e => hz ((s.inZone_iff z k).mp e).2, if_neg (Ne.symm hz)]
      exact halted
  · rw [if_neg fun e => by
      have : (s.station k).configured = true := ((s.inZone_iff z k).mp e).1
      rw [hk] at this; cases this]
    exact unused hk

theorem State.HaltSound.congr_core {s t : State} {k : Station} (h : s.HaltSound k) (hs : t.station k = s.station k)
    (hz : t.zones.causes = s.zones.causes) (hc : t.custodyOf k = s.custodyOf k) : t.HaltSound k := by
  simpa only [State.haltSound_iff, State.configured, State.isOutlet, State.zoneHalted, hs, hz, hc] using h

theorem MapEvent.haltSound {s t : State} (e : MapEvent s t) (h : ∀ k, s.HaltSound k) (k : Station) : t.HaltSound k := by
  cases e with
  | @setStation p r j =>
    have hcustody := State.custodyOf_withCustody (s.withStation j r) j k (s.freshCustody r)
    have hstation : (s.setStation j r).station k = if j = k then r else s.station k := Table.get_set _ _ _ _
    by_cases hj : j = k
    · subst hj
      rw [if_pos rfl] at hcustody hstation
      have hc : (s.setStation j r).custodyOf j = s.freshCustody r := hcustody
      have hidle : (s.freshCustody r).occupant? = none := by
        unfold State.freshCustody; split <;> rfl
      refine ⟨?_, fun _ => hc ▸ hidle⟩
      rw [State.configured, hstation, hc, State.freshCustody]
      show if r.configured = true then _ = s.zoneHalted r.zone else _
      by_cases hr : r.configured = true
      · rw [if_pos hr]
        cases hz : s.zoneHalted r.zone <;> simp [hr, Custody.isHalted]
      · rw [if_neg hr, if_neg fun e => hr e.1]
    · rw [if_neg hj] at hcustody hstation
      exact (h k).congr_core hstation rfl hcustody
  | @tuneStation p j r hr =>
    have hstation : (s.withStation j r).station k = if j = k then r else s.station k := Table.get_set _ _ _ _
    by_cases hj : j = k
    · subst hj
      rw [if_pos rfl] at hstation
      obtain ⟨htype, hzone, -⟩ := stationTuneRecord?_kept hr
      have hk := h j
      simp only [State.haltSound_iff, State.configured, State.isOutlet, StationRecord.configured] at hk ⊢
      rw [hstation, htype, hzone]
      exact hk
    · rw [if_neg hj] at hstation
      exact (h k).congr_core hstation rfl rfl
  | _ => exact (h k).congr_core rfl rfl rfl

theorem State.haltSound_reset (k : Station) : State.reset.HaltSound k := by
  have hstation : State.reset.station k = .powerOn := Table.get_fill _ _
  have hcustody : State.reset.custodyOf k = .idle := Table.get_fill _ _
  refine ⟨?_, fun _ => by rw [hcustody]; rfl⟩
  rw [State.configured, hstation]
  exact hcustody

theorem State.haltSound_resetTracking {s : State} (hz : s.usedZoneRunning = false) (k : Station) :
    s.resetTracking.HaltSound k := by
  have hcustody : s.resetTracking.custodyOf k = if s.configured k then .halted .idle else .idle := Table.get_mapRows ..
  have hmap : s.resetTracking.map = s.map := by simp only [State.resetTracking]
  have hzones : s.resetTracking.zones = s.zones := by simp only [State.resetTracking]
  have hconf : s.resetTracking.configured k = s.configured k := by simp only [State.configured, State.station, hmap]
  have hzone : s.resetTracking.zoneHalted (s.resetTracking.station k).zone = s.zoneHalted (s.station k).zone := by
    simp only [State.zoneHalted, State.station, hmap, hzones]
  refine ⟨?_, fun _ => by rw [hcustody]; split <;> rfl⟩
  rw [hcustody, hconf, hzone]
  by_cases hk : s.configured k = true
  · have running : ¬ (s.configured k && !s.zoneHalted (s.station k).zone) = true := fun e => by
      have : s.usedZoneRunning = true := List.any_eq_true.mpr ⟨k, List.mem_finRange k, e⟩
      rw [hz] at this; cases this
    rw [hk] at running
    simp only [hk, if_true]
    cases hh : s.zoneHalted (s.station k).zone with
    | true => rfl
    | false => rw [hh] at running; exact absurd rfl running
  · simp only [hk]; rfl

theorem Event.haltSound {s t : State} (h : ∀ k, s.HaltSound k) (e : Event s t) (k : Station) : t.HaltSound k :=
  e.keeps_rec (P := fun t => ∀ k, t.HaltSound k) (fun hk j => hk.halts j (h j)) State.haltSound_reset
    (fun _ j => (h j).congr_core rfl rfl rfl) (fun e => e.haltSound h)
    (fun e j => (h j).congr_core (by rw [e.frame]; rfl) (by rw [e.frame]) (by rw [e.frame]; rfl))
    (fun z c => State.haltSound_withCauses h z c)
    (fun n mask => State.latchMask_keeps (P := fun t => ∀ k, t.HaltSound k) (fun _ z c h => State.haltSound_withCauses h z c)
      n mask h)
    (fun hz => State.haltSound_resetTracking hz) k

/-! ### Records of the map and decision sets in their ranges -/

/-- What R3 asks of a station record. -/
def StationRecord.InRange (r : StationRecord) : Prop :=
  r.skipLimit ≤ 7 ∧ r.exits.length ≤ 3
    ∧ (r.defaultExit.val < r.exits.length ∨ (r.exits = [] ∧ r.defaultExit = 0))
    ∧ ∀ e, r.rejectExit = some e → e.val < r.exits.length

/-- What R5 asks of a segment record. -/
def SegmentRecord.InRange (r : SegmentRecord) : Prop := 1 ≤ r.capacity ∧ r.capacity ≤ 64 ∧ r.maxTransit ≠ 0

/-- What R109 asks of the entries of a decision set. -/
def EntriesInRange (l : List DecisionEntry) : Prop :=
  l.length ≤ 8 ∧ (l.map DecisionEntry.station).Nodup ∧ ∀ e a b, e ∈ l → e.preference = .balance a b → a ≠ b

/-- The ranges of the map and of the decision sets. -/
structure State.Ranges (s : State) : Prop where
  stations : ∀ k, (s.station k).InRange
  segments : ∀ g, (s.segment g).InRange
  sets : ∀ i, EntriesInRange (s.setOf i).entries

theorem State.rangeLaw_iff (s : State) : s.RangeLaw ↔ s.Ranges ∧ ∀ k, s.untracked.get k ≤ 255 :=
  ⟨fun ⟨stations, segments, sets⟩ =>
    ⟨⟨fun k => let ⟨a, b, _, c, d⟩ := stations k; ⟨a, b, c, d⟩, segments, sets⟩, fun k => (stations k).2.2.1⟩,
    fun ⟨⟨stations, segments, sets⟩, counts⟩ =>
    ⟨fun k => let ⟨a, b, c, d⟩ := stations k; ⟨a, b, counts k, c, d⟩, segments, sets⟩⟩

theorem StationRecord.inRange_powerOn : StationRecord.powerOn.InRange := ⟨by decide, by decide, .inr ⟨rfl, rfl⟩, nofun⟩

theorem SegmentRecord.inRange_powerOn : SegmentRecord.powerOn.InRange := by unfold SegmentRecord.InRange; decide

theorem stationWritten?_inRange {p : StationSetParams} {r : StationRecord} (h : stationWritten? p = some r) :
    r.InRange := by
  rcases stationWritten?_cases h with rfl | ⟨type, -, h⟩
  · exact StationRecord.inRange_powerOn
  · obtain ⟨k, -, hk⟩ := Option.map_eq_some_iff.mp h.skipLimit
    exact ⟨hk ▸ Nat.le_of_lt_succ k.isLt, exitList?_length h.exits, h.defaultBelow, h.rejectBelow⟩

theorem segmentWritten?_inRange {p : SegmentSetParams} {r : SegmentRecord} (h : segmentWritten? p = some r) :
    r.InRange := by
  rcases segmentWritten?_cases h with rfl | h
  · exact SegmentRecord.inRange_powerOn
  · exact ⟨h.capacityRange.1, h.capacityRange.2, h.maxNonzero⟩

/-- A field kept, or the new value of one given. -/
theorem tuned_eq_some {α : Type} {b : Bool} {new : Option α} {old x : α} :
    tuned b new old = some x ↔ (b = true ∧ new = some x) ∨ (b = false ∧ x = old) := by
  cases b <;> simp [tuned, eq_comm]

theorem stationTuneRecord?_inRange {p : StationTuneParams} {r r' : StationRecord} (h : stationTuneRecord? p r = some r')
    (hr : r.InRange) : r'.InRange := by
  obtain ⟨-, -, -, level, limit, occupancy, dflt, reject, -, hl, -, hd, hj, rfl⟩ := stationTuneRecord?_eq_some.mp h
  obtain ⟨skip, exits, below, rejected⟩ := hr
  refine ⟨?_, exits, ?_, ?_⟩
  · rcases tuned_eq_some.mp hl with ⟨-, hl⟩ | ⟨-, rfl⟩
    · obtain ⟨k, -, rfl⟩ := Option.map_eq_some_iff.mp hl
      exact Nat.le_of_lt_succ k.isLt
    · exact skip
  · rcases tuned_eq_some.mp hd with ⟨-, hd⟩ | ⟨-, rfl⟩
    · exact .inl (of_decide_eq_true (Option.filter_eq_some_iff.mp hd).2)
    · exact below
  · rcases tuned_eq_some.mp hj with ⟨-, hj⟩ | ⟨-, rfl⟩
    · intro e he
      have he : reject = some e := he
      have := (Option.filter_eq_some_iff.mp hj).2
      rw [he] at this
      exact of_decide_eq_true this
    · exact rejected

theorem segmentTuneRecord?_inRange {p : SegmentTuneParams} {r r' : SegmentRecord} {n : Nat}
    (h : segmentTuneRecord? p r n = some r') (hr : r.InRange) : r'.InRange := by
  obtain ⟨-, -, capacity, maximum, -, rfl⟩ := segmentTuneRecord?_eq_some.mp h
  obtain ⟨h1, h64, hmax⟩ := hr
  have range : given p.mask 0 = true → p.capacity ≠ 0 ∧ p.capacity.toNat ≤ 64 := fun hg =>
    ⟨fun e => capacity ⟨hg, .inl e⟩, Nat.le_of_not_lt fun e => capacity ⟨hg, .inr (.inl e)⟩⟩
  refine ⟨?_, ?_, ?_⟩ <;> simp only [SegmentRecord.tunedBy] <;> split
  · next hg => exact Nat.pos_of_ne_zero fun e => (range hg).1 (BitVec.eq_of_toNat_eq e)
  · exact h1
  · next hg => exact (range hg).2
  · exact h64
  · next hg => exact fun e => maximum ⟨hg, e⟩
  · exact hmax

/-- A list read place by place. -/
theorem mapM_eq_some {α β : Type} {f : α → Option β} {l : List α} {l' : List β} :
    l.mapM f = some l' ↔ List.Forall₂ (fun a b => f a = some b) l l' := by
  induction l generalizing l' with
  | nil => simp [eq_comm]
  | cons a l ih =>
    rw [List.mapM_cons]
    simp only [Option.bind_eq_bind, Option.bind_eq_some_iff, Option.pure_def, Option.some.injEq, ih,
      List.forall₂_cons_left_iff]
    exact ⟨fun ⟨b, hb, x, hx, e⟩ => ⟨b, x, hb, hx, e.symm⟩, fun ⟨b, x, hb, hx, e⟩ => ⟨b, hb, x, hx, e.symm⟩⟩

theorem writtenEntries?_inRange {n : Byte} {places : List EntryPlace} {entries : List DecisionEntry}
    (h : writtenEntries? n places = some entries) : EntriesInRange entries := by
  obtain ⟨hn, hm, nodup⟩ := writtenEntries?_eq_some.mp h
  have related := mapM_eq_some.mp hm
  refine ⟨?_, nodup, fun e a b he hp => ?_⟩
  · rw [← related.length_eq, List.length_take]
    exact le_trans (Nat.min_le_left _ _) hn
  · obtain ⟨i, hi, rfl⟩ := List.getElem_of_mem he
    have := entryOfPlace_eq_some.mp (related.get (by rw [related.length_eq]; exact hi) hi)
    rw [List.get_eq_getElem, List.get_eq_getElem, hp] at this
    exact this.2.2.2.2

/-! ### Each event keeps the ranges -/

theorem State.entries_countReferences (s : State) (p : Program) (i : SetNo) :
    ((s.countReferences p).setOf i).entries = (s.setOf i).entries := by
  have hi : (s.countReferences p).setOf i = { s.setOf i with references := (s.setOf i).references + p.uses i } :=
    Table.get_mapRows ..
  rw [hi]

/-- From `s` to `t` no decision set's entries change, and no slot counts another program than before. -/
structure State.Narrows (s t : State) : Prop where
  entries : ∀ i, (t.setOf i).entries = (s.setOf i).entries
  counted : ∀ q p, (t.slotOf q).state.counted? = some p → (s.slotOf q).state.counted? = some p

namespace State.Narrows

variable {s t u : State}

theorem refl (s : State) : s.Narrows s := ⟨fun _ => rfl, fun _ _ => id⟩

theorem trans (h : s.Narrows t) (h' : t.Narrows u) : s.Narrows u :=
  ⟨fun i => (h'.entries i).trans (h.entries i), fun q p hp => h.counted q p (h'.counted q p hp)⟩

theorem congr (h : s.Narrows t) (hr : u.routes = t.routes) : s.Narrows u := by
  refine ⟨fun i => ?_, fun q p hp => ?_⟩
  · rw [← h.entries i]; simp only [State.setOf, hr]
  · refine h.counted q p ?_
    simpa only [State.slotOf, hr] using hp

theorem withSlot (s : State) {q : Slot} {r : RouteSlot}
    (hr : ∀ p, r.state.counted? = some p → (s.slotOf q).state.counted? = some p) : s.Narrows (s.withSlot q r) := by
  refine ⟨fun _ => rfl, fun k p hp => ?_⟩
  rw [State.slotOf_withSlot] at hp
  split at hp
  · next e => exact e ▸ hr p hp
  · exact hp

theorem releaseReferences (s : State) (p : Program) : s.Narrows (s.releaseReferences p) := by
  refine ⟨fun i => ?_, fun _ _ => id⟩
  have hi : (s.releaseReferences p).setOf i = { s.setOf i with references := (s.setOf i).references - p.uses i } :=
    Table.get_mapRows ..
  rw [hi]

theorem bindSlot (s : State) (q : Slot) : s.Narrows (s.bindSlot q) := withSlot s fun _ => id

theorem unbindSlot? (s : State) (x : Option Slot) : s.Narrows (s.unbindSlot? x) := by
  cases x with
  | none => exact refl s
  | some q =>
    simp only [State.unbindSlot?, State.unbindSlot]
    split
    · split
      · exact (withSlot s (r := { state := .empty, bound := 0 }) fun _ h => nomatch h).trans (releaseReferences _ _)
      · exact withSlot s fun _ => id
    · exact withSlot s fun _ => id

theorem stageTransition (s : State) (k : Station) (e : Byte) (c : Handle) : s.Narrows (s.stageTransition k e c) := by
  have strand : ∀ u : State, u.Narrows (u.strand c) := fun u =>
    (unbindSlot? u ((u.record c).route.map RouteRef.slot)).congr (by rw [State.strand_eq])
  obtain ⟨u, hu, ht⟩ := s.stageTransition_transits k e c
  have marked : s.Narrows u := (refl s).congr (by rcases hu with rfl | rfl <;> rfl)
  generalize s.stageTransition k e c = t at ht
  cases ht with
  | stays => exact refl s
  | applies => exact (unbindSlot? s _).congr rfl
  | strands => exact marked.trans (strand u)
  | advances => exact (refl s).congr rfl
  | loops => exact marked.congr rfl

/-- Narrowing a given state is a law of records. -/
theorem handLaw (s₀ : State) : HandLaw fun _ s => s₀.Narrows s where
  congr h _ _ hr := h.congr hr
  modRecord h _ := h.congr rfl
  setException _ h := h.congr (by rw [State.setException_eq])
  clearException h := h.congr (by rw [State.clearException_eq])
  learn h _ _ _ := h.congr rfl
  stageTransition k e h := h.trans (stageTransition _ k e _)
  dropPending h := (h.trans (unbindSlot? _ _)).congr rfl
  settle h _ _ := h
  freed h _ := ((h.trans (unbindSlot? _ _)).trans (unbindSlot? _ _)).congr (by rw [State.freeRecord_eq])
  fill h _ _ _ _ _ _ := (h 0).congr rfl
  induct h _ _ _ _ := ((h 0).trans (bindSlot _ _)).congr (by simp only [State.induct]; split <;> rfl)
  rerouteNow h _ _ _ := by
    rw [State.rerouteNow_eq]; exact (((h 0).trans (bindSlot _ _)).trans (unbindSlot? _ _)).congr rfl
  rerouteLater h _ _ _ := by
    rw [State.rerouteLater_eq]; exact (((h 0).trans (bindSlot _ _)).trans (unbindSlot? _ _)).congr rfl

theorem resetTracking (s : State) : s.Narrows s.resetTracking := by
  have hslot : ∀ q, s.resetTracking.slotOf q = (s.slotOf q).afterReset := fun q => Table.get_mapRows ..
  have hset : ∀ i, s.resetTracking.setOf i = { s.setOf i with
      references := (s.setOf i).references - (s.drainingPrograms.map fun p => p.uses i).sum } := fun i => Table.get_mapRows ..
  refine ⟨fun i => by rw [hset], fun q p hp => ?_⟩
  rw [hslot, RouteSlot.afterReset] at hp
  split at hp
  · cases hp
  · exact hp

end State.Narrows

/-- The Route Store after an event: narrower, at power-on, or changed by its own commands. -/
theorem Event.narrows {s t : State} (e : Event s t) : s.Narrows t ∨ t = State.reset ∨ RouteEvent s t := by
  rcases (State.Narrows.handLaw s).event_cases (fun _ => .refl s) e with kept | rfl | rfl | hr | hz
  · exact .inl (kept 0)
  · exact .inr (.inl rfl)
  · exact .inl (.resetTracking s)
  · exact .inr (.inr hr)
  · exact .inl ((State.Narrows.refl s).congr (by rw [hz.frame]))

/-- The map after an event: as it was, at power-on, or changed by its own commands. -/
theorem Event.map {s t : State} (e : Event s t) : t.map = s.map ∨ t = State.reset ∨ MapEvent s t :=
  e.keeps_rec (P := fun t => t.map = s.map ∨ t = State.reset ∨ MapEvent s t) (fun hk => .inl hk.map) (.inr (.inl rfl))
    (fun _ => .inl rfl) (fun e => .inr (.inr e)) (fun e => .inl (by rw [e.frame]))
    (fun z c => .inl (State.OnlyZones.withCauses s z c).map)
    (fun n mask => .inl (State.OnlyZones.latchMask s n mask).map)
    (fun _ => .inl (by simp only [State.resetTracking]))

theorem State.ranges_reset : State.reset.Ranges where
  stations k := by
    rw [show State.reset.station k = .powerOn from Table.get_fill _ _]; exact StationRecord.inRange_powerOn
  segments g := by
    rw [show State.reset.segment g = .powerOn from Table.get_fill _ _]; exact SegmentRecord.inRange_powerOn
  sets i := by
    rw [show State.reset.setOf i = { entries := [], references := 0 } from Table.get_fill _ _]
    exact ⟨Nat.zero_le _, List.nodup_nil, fun _ _ _ h => absurd h List.not_mem_nil⟩

theorem State.inRange_set {α : Type} {n : Nat} {R : α → Prop} {t : Table n α} (h : ∀ k, R (t.get k)) {k : Fin n} {r : α}
    (hr : R r) (j : Fin n) : R ((t.set k r).get j) := by
  rw [Table.get_set]
  split
  · exact hr
  · exact h j

theorem MapEvent.ranges {s t : State} (e : MapEvent s t) (h : s.Ranges) : t.Ranges := by
  obtain ⟨stations, segments, sets⟩ := h
  cases e with
  | setStation k _ hr => exact ⟨State.inRange_set stations (stationWritten?_inRange hr), segments, sets⟩
  | setSegment g _ hr => exact ⟨stations, State.inRange_set segments (segmentWritten?_inRange hr), sets⟩
  | @tuneStation p k r hr => exact ⟨State.inRange_set stations (stationTuneRecord?_inRange hr (stations k)), segments, sets⟩
  | @tuneSegment p g r hr => exact ⟨stations, State.inRange_set segments (segmentTuneRecord?_inRange hr (segments g)), sets⟩
  | _ => exact ⟨stations, segments, sets⟩

theorem Event.ranges {s t : State} (h : s.Ranges) (e : Event s t) : t.Ranges := by
  rcases e.map with hmap | rfl | hm
  · refine ⟨fun k => ?_, fun g => ?_, fun i => ?_⟩
    · simpa only [State.station, hmap] using h.stations k
    · simpa only [State.segment, hmap] using h.segments g
    · rcases e.narrows with hn | rfl | hr
      · rw [hn.entries]; exact h.sets i
      · exact State.ranges_reset.sets i
      · cases hr with
        | @writeSet n places entries j hw =>
          have hset : ((s.withSets (s.routes.sets.modify j fun d => { d with entries })).setOf i)
              = if j = i then { s.setOf i with entries } else s.setOf i := Table.get_modify ..
          rw [hset]
          split
          · exact writtenEntries?_inRange hw
          · exact h.sets i
        | activate =>
          rw [State.entries_countReferences]; exact h.sets i
        | withdraw =>
          rw [(State.Narrows.releaseReferences _ _).entries]; exact h.sets i
        | _ => exact h.sets i
  · exact State.ranges_reset
  · exact hm.ranges h

end Sys2Proof.Machine
end

section
/-! A RUNNING line stays valid: each event keeps the checks of START's validation (R10, R15, R118). -/

-- One declaration at a time, which holds the text's memory down.
set_option Elab.async false

namespace Sys2Proof.Machine

/-! ### What the checks of a line read of the map -/

/-- From `s` to `t` no record of the map changes in what the checks of a line read, but that transit limits stay in order. -/
structure State.SameShape (s t : State) : Prop where
  type : ∀ k, (t.station k).type = (s.station k).type
  port0 : ∀ k, (t.station k).port0 = (s.station k).port0
  port1 : ∀ k, (t.station k).port1 = (s.station k).port1
  exits : ∀ k, (t.station k).exits = (s.station k).exits
  kind : ∀ g, (t.segment g).kind = (s.segment g).kind
  upstream : ∀ g, (t.segment g).upstream = (s.segment g).upstream
  downstream : ∀ g, (t.segment g).downstream = (s.segment g).downstream
  transit : ∀ g, (s.segment g).kind = .conveyor → (s.segment g).minTransit.toNat ≤ (s.segment g).maxTransit.toNat →
    (t.segment g).minTransit.toNat ≤ (t.segment g).maxTransit.toNat

namespace State.SameShape

variable {s t : State}

theorem of_tables (hk : t.map.stations = s.map.stations) (hg : t.map.segments = s.map.segments) : s.SameShape t := by
  have station : t.station = s.station := by funext k; simp only [State.station, hk]
  have segment : t.segment = s.segment := by funext g; simp only [State.segment, hg]
  refine ⟨?_, ?_, ?_, ?_, ?_, ?_, ?_, ?_⟩ <;> simp only [station, segment, implies_true]
  exact fun _ _ => id

theorem configured (h : s.SameShape t) (k : Station) : t.configured k = s.configured k := by
  simp only [State.configured, StationRecord.configured, h.type]

theorem stationValid (h : s.SameShape t) {k : Station} (hv : s.StationValid k) : t.StationValid k := by
  simpa only [State.StationValid, State.feeds, h.type, h.port0, h.port1, h.exits, h.kind, h.upstream, h.downstream] using hv

theorem segmentValid (h : s.SameShape t) {g : Segment} (hv : s.SegmentValid g) : t.SegmentValid g := by
  simp only [State.SegmentValid, h.configured, h.port0, h.port1, h.exits, h.kind, h.upstream, h.downstream] at hv ⊢
  exact ⟨hv.1, fun hk => ⟨(hv.2 hk).1, h.transit g hk (hv.2 hk).2⟩⟩

theorem entryValid (h : s.SameShape t) {e : DecisionEntry} (hv : s.EntryValid e) : t.EntryValid e := by
  simpa only [State.EntryValid, h.configured, h.type, h.exits] using hv

/-- A stage stays valid where the entries of its set stay. -/
theorem stageValid (h : s.SameShape t) {p : Program} {k : StageNo}
    (hset : ∀ stage, p.stages.get k = some stage → (t.setOf stage.set).entries = (s.setOf stage.set).entries)
    (hv : s.StageValid p k) : t.StageValid p k := by
  obtain ⟨stage, hk, boundary, entries, advance, finish, loop⟩ := hv
  refine ⟨stage, hk, by rwa [h.configured], fun e he => ?_, advance, by rwa [h.type], loop⟩
  rw [hset stage hk] at he
  exact h.entryValid (entries e he)

/-- A line stays valid where every stage a slot counts stays valid. -/
theorem lineValid (h : s.SameShape t) (hv : s.LineValid)
    (hstages : ∀ q p, (t.slotOf q).state.counted? = some p → ∀ k : StageNo, k.val < p.stageCount → t.StageValid p k) :
    t.LineValid := by
  obtain ⟨⟨k, hk⟩, stations, segments, -⟩ := hv
  refine ⟨⟨k, by rwa [h.configured]⟩, fun j hj => h.stationValid (stations j (by rwa [h.configured] at hj)),
    fun g hg => h.segmentValid (segments g (by rwa [h.downstream] at hg)), hstages⟩

theorem lineValid_of_narrows (h : s.SameShape t) (hn : s.Narrows t) (hv : s.LineValid) : t.LineValid :=
  h.lineValid hv fun q p hp k hk => h.stageValid (fun stage _ => hn.entries stage.set) (hv.2.2.2 q p (hn.counted q p hp) k hk)

theorem validLaw (h : s.SameShape t) (hn : s.Narrows t) (hd : t.map.device = s.map.device) (hv : s.ValidLaw) :
    t.ValidLaw := fun ht => h.lineValid_of_narrows hn (hv (hd ▸ ht))

theorem withStation (s : State) (k : Station) {r : StationRecord} (htype : r.type = (s.station k).type)
    (h0 : r.port0 = (s.station k).port0) (h1 : r.port1 = (s.station k).port1) (he : r.exits = (s.station k).exits) :
    s.SameShape (s.withStation k r) := by
  have station : ∀ j, (s.withStation k r).station j = if k = j then r else s.station j := fun j => Table.get_set ..
  refine ⟨fun j => ?_, fun j => ?_, fun j => ?_, fun j => ?_, fun _ => rfl, fun _ => rfl, fun _ => rfl, fun _ _ => id⟩ <;>
    rw [station] <;> split <;> simp_all

theorem withSegment (s : State) (g : Segment) {r : SegmentRecord} (hkind : r.kind = (s.segment g).kind)
    (hu : r.upstream = (s.segment g).upstream) (hd : r.downstream = (s.segment g).downstream)
    (hr : r.kind = .conveyor → r.minTransit.toNat ≤ r.maxTransit.toNat) : s.SameShape (s.withSegment g r) := by
  have segment : ∀ j, (s.withSegment g r).segment j = if g = j then r else s.segment j := fun j => Table.get_set ..
  refine ⟨fun _ => rfl, fun _ => rfl, fun _ => rfl, fun _ => rfl, fun j => ?_, fun j => ?_, fun j => ?_, fun j hj hle => ?_⟩ <;>
    rw [segment] <;> split
  all_goals simp_all

end State.SameShape

/-! ### Each event keeps a RUNNING line valid -/

theorem Program.uses_pos {p : Program} {k : StageNo} {stage : Stage} (h : p.stages.get k = some stage)
    (hk : k.val < p.stageCount) : 0 < p.uses stage.set := by
  refine List.countP_pos_iff.mpr ⟨stage, List.mem_filterMap.mpr ⟨some stage, ?_, rfl⟩, by simp⟩
  rw [List.mem_take_iff_getElem]
  exact ⟨k.val, by rw [p.stages.full]; exact lt_min hk k.isLt, by rw [← h]; rfl⟩

theorem RouteEvent.lineValid {s t : State} (e : RouteEvent s t) (hr : s.ReferenceLaw) (hv : s.LineValid) : t.LineValid := by
  have shape : s.SameShape t := .of_tables (by rw [e.frame]) (by rw [e.frame])
  have kept : ∀ {q : Slot} {r : RouteSlot}, r.state.counted? = none → s.Narrows (s.withSlot q r) :=
    fun h => .withSlot s fun p hp => by rw [h] at hp; cases hp
  cases e with
  | @writeSet n places entries i hw hrefs =>
    refine shape.lineValid hv fun q p hp k hk => shape.stageValid (fun stage hstage => ?_) (hv.2.2.2 q p hp k hk)
    have hset : ((s.withSets (s.routes.sets.modify i fun d => { d with entries })).setOf stage.set)
        = if i = stage.set then { s.setOf stage.set with entries } else s.setOf stage.set := Table.get_modify ..
    rw [hset]
    split
    · next hi =>
      have hp : (s.slotOf q).state.counted? = some p := hp
      have named := hr.uses_le q stage.set
      rw [RouteSlot.uses_of_counted hp, ← hi, hrefs] at named
      exact absurd (hi ▸ Program.uses_pos hstage hk) (Nat.not_lt.mpr named)
    · rfl
  | @activate q p hdraft hfault =>
    have entries : ∀ i, (((s.withSlot q { state := .active p, bound := 0 }).countReferences p).setOf i).entries
        = (s.setOf i).entries := fun i => State.entries_countReferences _ p i
    refine shape.lineValid hv fun q' p' hp k hk => shape.stageValid (fun stage _ => entries _) ?_
    have hslot : ((s.withSlot q { state := .active p, bound := 0 }).countReferences p).slotOf q'
        = if q = q' then { state := .active p, bound := 0 } else s.slotOf q' := State.slotOf_withSlot ..
    rw [hslot] at hp
    split at hp
    · cases hp; exact (s.activationFault_eq_none p).mp hfault k hk
    · exact hv.2.2.2 q' p' hp k hk
  | openSlot | discard | writeDraft => exact shape.lineValid_of_narrows (kept rfl) hv
  | withdraw => exact shape.lineValid_of_narrows ((kept rfl).trans (.releaseReferences _ _)) hv
  | @drain q p hactive =>
    exact shape.lineValid_of_narrows (.withSlot s fun p' hp => by rw [hactive]; exact hp) hv
  | bindClass => exact shape.lineValid_of_narrows ⟨fun _ => rfl, fun _ _ => id⟩ hv

theorem State.validLaw_of_device {s : State} (h : s.map.device ≠ .running) : s.ValidLaw := fun hd => absurd hd h

theorem MapEvent.validLaw {s t : State} (e : MapEvent s t) (h : s.ValidLaw) : t.ValidLaw := by
  cases e with
  | setStation k hd => exact State.validLaw_of_device fun e => by rw [show s.map.device = .running from e] at hd; cases hd
  | setSegment g hd => exact State.validLaw_of_device fun e => by rw [show s.map.device = .running from e] at hd; cases hd
  | setPolicy z policy hd =>
    exact State.validLaw_of_device fun e => by rw [show s.map.device = .running from e] at hd; cases hd
  | @tuneStation p k r hr =>
    obtain ⟨htype, -, h0, h1, he⟩ := stationTuneRecord?_kept hr
    exact (State.SameShape.withStation s k htype h0 h1 he).validLaw ((State.Narrows.refl s).congr rfl) rfl h
  | @tuneSegment p g r hr =>
    obtain ⟨hkind, hu, hd, -⟩ := segmentTuneRecord?_kept hr
    obtain ⟨-, -, -, -, ordered, rfl⟩ := segmentTuneRecord?_eq_some.mp hr
    refine (State.SameShape.withSegment s g hkind hu hd fun hk => ?_).validLaw ((State.Narrows.refl s).congr rfl) rfl h
    exact Nat.le_of_not_lt fun hlt => ordered ⟨hk, hlt⟩
  | beginValidation | failValidation | stop => exact State.validLaw_of_device nofun
  | passValidation _ hv =>
    exact fun _ => (State.SameShape.of_tables (s := s) rfl rfl).lineValid_of_narrows ((State.Narrows.refl s).congr rfl)
      (s.validate_eq_none.mp hv)

theorem Event.validLaw {s t : State} (hr : s.ReferenceLaw) (h : s.ValidLaw) (e : Event s t) : t.ValidLaw := by
  rcases e.map with hmap | rfl | hm
  · have shape : s.SameShape t := .of_tables (by rw [hmap]) (by rw [hmap])
    rcases e.narrows with hn | rfl | hroute
    · exact shape.validLaw hn (by rw [hmap]) h
    · exact State.validLaw_of_device nofun
    · exact fun hd => hroute.lineValid hr (h (hmap ▸ hd))
  · exact State.validLaw_of_device nofun
  · exact hm.validLaw h

theorem State.SameCore.validLaw {s t : State} (hc : s.SameCore t) (h : s.ValidLaw) : t.ValidLaw :=
  (State.SameShape.of_tables hc.stations hc.segments).validLaw ((State.Narrows.refl s).congr hc.routes) hc.device h

end Sys2Proof.Machine
end

section
/-! The rest of the standing laws: accounts, link records and untracked counts stay in their ranges, and the port's slot
follows START's validation and what a transaction saw of it at its fall (R147, R168, R84, R186, R189, R190). -/

-- One declaration at a time, which holds the text's memory down.
set_option Elab.async false

namespace Sys2Proof.Machine

/-! ### Accounts, link records and untracked counts -/

/-- The accounts and link records are sound and the untracked counts in their range. -/
structure State.Accounted (s : State) : Prop where
  accounts : ∀ k, (s.outlet k).Sound
  links : ∀ k, (s.linkOf k).Sound
  untracked : ∀ k, s.untracked.get k ≤ 255

theorem State.accounted_iff (s : State) : s.Accounted ↔ s.AccountLaw ∧ s.LinkLaw ∧ ∀ k, s.untracked.get k ≤ 255 :=
  ⟨fun h => ⟨h.accounts, h.links, h.untracked⟩, fun ⟨a, l, u⟩ => ⟨a, l, u⟩⟩

theorem State.accounted_reset : State.reset.Accounted where
  accounts k := by
    rw [show State.reset.outlet k = _ from Table.get_fill _ _]; unfold OutletAccount.Sound; decide
  links k := by
    rw [show State.reset.linkOf k = .powerOn from Table.get_fill _ _]; exact ⟨Nat.zero_le _, nofun, trivial⟩
  untracked k := by rw [show State.reset.untracked.get k = 0 from Table.get_fill _ _]; exact Nat.zero_le _

theorem State.Accounted.congr {s t : State} (h : s.Accounted) (ho : t.outlets = s.outlets)
    (hl : t.link.records = s.link.records) (hu : t.untracked = s.untracked) : t.Accounted :=
  ⟨fun k => by simpa only [State.outlet, ho] using h.accounts k, fun k => by simpa only [State.linkOf, hl] using h.links k,
    fun k => by rw [hu]; exact h.untracked k⟩

theorem State.Does.accounted {s t : State} (h : s.Does t) (hs : s.Accounted) : t.Accounted :=
  ⟨fun k => h.mild.accounts k (hs.accounts k), fun k => h.mild.links k (hs.links k),
    fun k => h.mild.untracked k (hs.untracked k)⟩

/-! ### The slot and the transaction -/

theorem State.Does.device {s t : State} (h : s.Does t) : t.map.device = .validating ↔ s.map.device = .validating :=
  h.mild.device

theorem State.Does.port {s t : State} (h : s.Does t) : t.port = { s.port with mask := t.port.mask } :=
  (congrArg (fun p : HostPort => { p with mask := t.port.mask }) h.mild.port)

theorem State.Does.pending {s t : State} (h : s.Does t) : t.pending = s.pending := h.mild.pending

namespace State.PortLaw

variable {s t : State}

/-- With no transaction open the port's law is START's validation alone. -/
theorem of_idle (hv : t.map.device = .validating ↔ t.port.slot = .inFlight .validation)
    (ht : ∀ o, t.port.transaction ≠ .underWay o) : t.PortLaw := ⟨hv, fun o ho => absurd ho (ht o)⟩

/-- The slot and the transaction stay. -/
theorem congr (h : s.PortLaw) (hd : t.map.device = .validating ↔ s.map.device = .validating)
    (hs : t.port.slot = s.port.slot) (ht : t.port.transaction = s.port.transaction) : t.PortLaw := by
  simpa only [State.PortLaw, hd, hs, ht] using h

/-- The slot stays and no transaction is open any more. -/
theorem ended (h : s.PortLaw) (hd : t.map.device = .validating ↔ s.map.device = .validating)
    (hs : t.port.slot = s.port.slot) (ht : t.port.transaction = .none) : t.PortLaw :=
  of_idle (by rw [hd, hs]; exact h.1) fun o ho => by rw [ht] at ho; cases ho

/-- A slot that was FREE is written, with no transaction open. -/
theorem filled {x : CommandSlot} (h : s.PortLaw) (hf : s.port.slot = .free)
    (hd : t.map.device = .validating ↔ s.map.device = .validating) (hs : t.port.slot = x) (hx : x ≠ .inFlight .validation)
    (ht : t.port.transaction = .none) : t.PortLaw := by
  refine of_idle ?_ fun o ho => by rw [ht] at ho; cases ho
  have hv := h.1
  rw [hf] at hv
  rw [hd, hs]
  exact ⟨fun e => (nomatch hv.mp e), fun e => absurd e hx⟩

/-- A long operation in flight goes on or is answered: a transaction that saw the slot otherwise at its fall does not exist. -/
theorem proceeds {op : LongOperation} (h : s.PortLaw) (hf : s.port.slot = .inFlight op)
    (hv : t.map.device = .validating ↔ t.port.slot = .inFlight .validation) (hs : t.port.slot ≠ .free)
    (ht : t.port.transaction = s.port.transaction) : t.PortLaw := by
  refine ⟨hv, fun o ho => ?_⟩
  obtain ⟨busy, seen⟩ := h.2 o (ht ▸ ho)
  refine ⟨busy, ?_⟩
  rw [hf] at seen
  cases hw : o.waiting with
  | free | answered r => rw [hw] at seen; cases seen
  | inFlight => exact hs

theorem does (h : s.PortLaw) (hd : s.Does t) : t.PortLaw :=
  h.congr hd.device (by rw [hd.port]) (by rw [hd.port])

end State.PortLaw

/-- The status byte of a part that is ready, bit by bit (R185). -/
theorem State.statusByte_of_ready {s : State} (h : s.port.ready = true) :
    s.statusByte.getLsbD 7 = true ∧ s.statusByte.getLsbD 6 = s.busy ∧ s.statusByte.getLsbD 5 = s.respFlag
      ∧ s.statusByte.getLsbD 4 = s.attention ∧ s.statusByte.getLsbD 3 = false ∧ s.statusByte.getLsbD 2 = false
      ∧ s.statusByte.extractLsb' 0 2 = s.map.device.code.setWidth 2 := by
  have bits : ∀ (b r a : Bool) (d : BitVec 2),
      let x := BitVec.ofBool true ++ BitVec.ofBool b ++ BitVec.ofBool r ++ BitVec.ofBool a ++ (0 : BitVec 2) ++ d
      x.getLsbD 7 = true ∧ x.getLsbD 6 = b ∧ x.getLsbD 5 = r ∧ x.getLsbD 4 = a ∧ x.getLsbD 3 = false
        ∧ x.getLsbD 2 = false ∧ x.extractLsb' 0 2 = d := by decide
  rw [State.statusByte, if_pos h]
  exact bits ..

/-! ### Every step -/

/-- The laws of the accounts, the links, the counts and the port. -/
def State.SideLaws (s : State) : Prop := s.Accounted ∧ s.PortLaw

namespace State.SideLaws

variable {s t : State}

theorem does (h : s.SideLaws) (hd : s.Does t) : t.SideLaws := ⟨hd.accounted h.1, h.2.does hd⟩

/-- A change of the port alone. -/
theorem withPort (h : s.SideLaws) {p : HostPort} (hp : (s.withPort p).PortLaw) : (s.withPort p).SideLaws :=
  ⟨h.1.congr rfl rfl rfl, hp⟩

theorem shiftOut (h : s.SideLaws) (bytes : List Byte) : (s.shiftOut bytes).SideLaws :=
  h.withPort (h.2.ended Iff.rfl rfl rfl)

theorem hostCommand {code : Byte} {len : Nat} {block : State → State × Reply} (h : s.SideLaws)
    (hb : ∀ u : State, u.Does (block u).1) (ht : hostCommand code len block s = .next t) : t.SideLaws := by
  cases hk : s.takesCommand
  · rw [hostCommand_dropped hk] at ht; cases ht; exact h.shiftOut _
  · rw [hostCommand_taken hk] at ht; cases ht
    have hu := h.shiftOut (s.atFall.status :: List.replicate (len + 3) 0)
    have hd := hb (s.shiftFill (len + 3))
    refine (hu.does hd).withPort (h.2.filled (slot_of_takesCommand hk) hd.device rfl nofun ?_)
    show (block (s.shiftFill (len + 3))).1.port.transaction = .none
    rw [hd.port]; rfl

theorem start (h : s.SideLaws) (ht : longCommand 0x01 0 State.startCommand s = .next t) : t.SideLaws := by
  cases hk : s.takesCommand
  · rw [longCommand_dropped hk] at ht; cases ht; exact h.shiftOut _
  · have hu := h.shiftOut (s.atFall.status :: List.replicate (0 + 3) 0)
    by_cases hd : (s.shiftFill (0 + 3)).map.device = .setup
    · rw [longCommand_begun hk _ _ (if_pos hd)] at ht; cases ht
      exact ⟨hu.1.congr rfl rfl rfl, .of_idle ⟨fun _ => rfl, fun _ => rfl⟩ nofun⟩
    · rw [longCommand_refused hk _ _ (if_neg hd)] at ht; cases ht
      exact hu.withPort (h.2.filled (slot_of_takesCommand hk) Iff.rfl rfl nofun rfl)

theorem findException (h : s.SideLaws) (k : BitVec 16) (ht : longCommand 0x35 2 (·.findExceptionCommand k) s = .next t) :
    t.SideLaws := by
  cases hk : s.takesCommand
  · rw [longCommand_dropped hk] at ht; cases ht; exact h.shiftOut _
  · have hu := h.shiftOut (s.atFall.status :: List.replicate (2 + 3) 0)
    have hf := slot_of_takesCommand hk
    cases hi : index? Config.handles k with
    | none =>
      have hb : (s.shiftFill (2 + 3)).findExceptionCommand k = (s.shiftFill (2 + 3), some { code := .badParam }) := by
        simp only [State.findExceptionCommand, hi]
      rw [longCommand_refused hk _ _ hb] at ht; cases ht
      exact hu.withPort (h.2.filled hf Iff.rfl rfl nofun rfl)
    | some i =>
      have hb : (s.shiftFill (2 + 3)).findExceptionCommand k = ((s.shiftFill (2 + 3)).beginLong (.scan i), none) := by
        simp only [State.findExceptionCommand, hi]
      rw [longCommand_begun hk _ _ hb] at ht; cases ht
      exact hu.withPort (h.2.filled hf Iff.rfl rfl nofun rfl)

theorem runHostCommand (h : s.SideLaws) (i : Instr) (ht : runHostCommand i s = .next t) : t.SideLaws := by
  cases hostCommand_of i with
  | command hb hi => exact h.hostCommand hb (hi s ▸ ht)
  | start hi => exact h.start (hi s ▸ ht)
  | findException k hi => exact h.findException k (hi s ▸ ht)
  | event hi _ => rw [hi] at ht; cases ht; exact h

theorem commandFrame (h : s.SideLaws) (bytes : List Byte) (ht : s.commandFrame bytes = .next t) : t.SideLaws := by
  simp only [State.commandFrame] at ht
  split at ht
  · next hk =>
    have answered : ∀ echo code, ((s.shiftFill bytes.length).respond echo { code }).SideLaws := fun echo code =>
      (h.shiftOut _).withPort (h.2.filled (slot_of_takesCommand hk) Iff.rfl rfl nofun rfl)
    split at ht
    · next i _ =>
      cases hr : Machine.runHostCommand i s with
      | next v => rw [hr] at ht; cases ht; exact (h.runHostCommand i hr).shiftOut _
      | fault r => exact nomatch r
      | refused r => rw [hr] at ht; cases ht
    · cases ht; exact answered _ _
    · cases ht; exact answered _ _
  · cases ht; exact h.shiftOut _

/-- A response that waited when the transaction opened waits still. -/
theorem slot_of_waiting (h : s.PortLaw) {r : Response} (hw : s.atFall.waiting = .answered r) :
    s.port.slot = .answered r := by
  cases ht : s.port.transaction with
  | none => rw [State.atFall_of_none ht] at hw; exact hw
  | underWay o =>
    rw [State.atFall_of_underWay ht] at hw
    have := (h.2 o ht).2
    rw [hw] at this; exact this
  | abandoned => simp only [State.atFall, ht] at hw; cases hw

theorem readResponse (h : s.SideLaws) (bits : Nat) : (s.readResponse bits).SideLaws := by
  simp only [State.readResponse]
  split
  · split
    · next hw =>
      cases hr : s.atFall.waiting with
      | free | inFlight => rw [hr] at hw; cases hw
      | answered r =>
        have hv := h.2.1
        rw [slot_of_waiting h.2 hr] at hv
        exact (h.shiftOut _).withPort (.of_idle ⟨fun e => (nomatch hv.mp e), nofun⟩ nofun)
    · exact h.shiftOut _
  · exact h.shiftOut _

theorem busy_statusByte (s : State) (hr : s.statusByte.getLsbD 7 = true) :
    s.statusByte.getLsbD 6 = true ↔ s.port.slot ≠ .free := by
  by_cases hp : s.port.ready = true
  · rw [(s.statusByte_of_ready hp).2.1]
    simp [State.busy]
  · rw [State.statusByte, if_neg hp] at hr; cases hr

theorem fallScs (h : s.SideLaws) : s.fallScs.SideLaws := by
  unfold State.fallScs
  split
  · refine h.withPort ⟨h.2.1, fun o ho => ?_⟩
    cases ho
    refine ⟨busy_statusByte s, ?_⟩
    show match s.port.slot with
      | .free => s.port.slot = .free
      | .answered r => s.port.slot = .answered r
      | .inFlight _ => s.port.slot ≠ .free
    cases s.port.slot with
    | free | answered => rfl
    | inFlight => nofun
  · exact h
  · exact h

theorem completeValidation (h : s.SideLaws) : s.completeValidation.SideLaws := by
  unfold State.completeValidation
  split
  · next hd =>
    have hf := h.2.1.mp hd
    split
    · exact ⟨h.1.congr rfl rfl rfl, h.2.proceeds hf ⟨nofun, nofun⟩ nofun rfl⟩
    · exact ⟨h.1.congr rfl rfl rfl, h.2.proceeds hf ⟨nofun, nofun⟩ nofun rfl⟩
  · exact h

theorem examine (h : s.SideLaws) : s.examine.SideLaws := by
  unfold State.examine
  split
  · next hf =>
    have hv : s.map.device ≠ .validating := fun e => by
      have := h.2.1.mp e
      rw [hf] at this; cases this
    have goes : ∀ x : CommandSlot, x ≠ .free → x ≠ .inFlight .validation →
        (s.withPort { s.port with slot := x }).SideLaws := fun x hx hx' =>
      h.withPort (h.2.proceeds hf ⟨fun e => absurd e hv, fun e => absurd e hx'⟩ hx rfl)
    split
    · exact goes _ nofun nofun
    · split
      · exact goes _ nofun nofun
      · exact goes _ nofun nofun
  · exact h

theorem commandTransaction (h : s.SideLaws) (edge : ScsEdge) (bytes : List Byte)
    (ht : execCommandTransaction edge bytes s = .next t) : t.SideLaws := by
  cases edge with
  | falls => cases ht; exact h.fallScs
  | risesEarly => cases ht; exact h.shiftOut []
  | rises selector =>
    simp only [execCommandTransaction, State.endScs] at ht
    split at ht
    · exact h.commandFrame bytes ht
    · split at ht
      · cases ht; exact h.readResponse _
      · cases ht; exact h.shiftOut _

theorem exec (h : s.SideLaws) (i : Instr) (ht : exec i s = .next t) : t.SideLaws := by
  cases hb : commandBytes i with
  | some x => exact h.runHostCommand i (exec_eq_runHostCommand hb s ▸ ht)
  | none =>
  cases i with
  | powerOn =>
    cases ht
    refine ⟨State.accounted_reset.congr rfl rfl rfl, .of_idle ⟨nofun, nofun⟩ fun o ho => ?_⟩
    have ho : s.port.transaction.afterPowerOn = .underWay o := ho
    cases hp : s.port.transaction <;> rw [hp] at ho <;> cases ho
  | readySet => cases ht; exact h.withPort (h.2.congr Iff.rfl rfl rfl)
  | haltInputAsserted n => cases ht; exact h.does (.takeAssertion n s)
  | haltInputDeasserted n => cases ht; exact h.does (.takeDeassertion n s)
  | pollSent => cases ht; exact h.does (.sendPoll s)
  | replyWindowClosed => cases ht; exact h.does (.closeWindow s)
  | answerDiscarded b => cases ht; exact h.does (.receiveFrame b s)
  | answer head => cases ht; exact h.does (.takeAnswer head _ s)
  | arrival head seq port tag => cases ht; exact h.does (.takeAnswer head _ s)
  | clear head seq e => cases ht; exact h.does (.takeAnswer head _ s)
  | roomEventGrant g => cases ht; exact h.does (.grant g s)
  | transitExpiry g => cases ht; exact h.does (.expireHead g s)
  | dwellExpiry k => cases ht; exact h.does (.expireDwell k s)
  | occupancyExpiry k => cases ht; exact h.does (.expireOccupancy k s)
  | validationComplete => cases ht; exact h.completeValidation
  | scanExamine => cases ht; exact h.examine
  | commandTransaction e b => exact h.commandTransaction e b ht
  | readTransaction n => cases ht; exact h.readResponse n
  | lineTimeTick x => cases ht; exact ⟨h.1.congr rfl rfl rfl, h.2.congr Iff.rfl rfl rfl⟩
  | _ => cases hb

theorem step (h : s.SideLaws) (ht : step s = .next t) : t.SideLaws := by
  cases hp : s.pending with
  | nil => simp only [Machine.step, hp] at ht; cases ht; exact h
  | cons c rest =>
    simp only [Machine.step, hp] at ht
    exact SideLaws.exec (s := { s with pending := rest }) ⟨h.1.congr rfl rfl rfl, h.2.congr Iff.rfl rfl rfl⟩ c ht

end State.SideLaws

theorem State.standingLaws_iff (s : State) : s.StandingLaws ↔ ((∀ k, s.HaltSound k) ∧ s.Ranges) ∧ s.SideLaws := by
  rw [State.StandingLaws, State.rangeLaw_iff, State.haltLaw_iff, State.SideLaws, State.accounted_iff]
  exact ⟨fun ⟨halt, accounts, links, ⟨ranges, counts⟩, port⟩ => ⟨⟨halt, ranges⟩, ⟨accounts, links, counts⟩, port⟩,
    fun ⟨⟨halt, ranges⟩, ⟨accounts, links, counts⟩, port⟩ => ⟨halt, accounts, links, ⟨ranges, counts⟩, port⟩⟩

theorem State.SameCore.ranges {s t : State} (h : s.SameCore t) (hs : s.Ranges) : t.Ranges :=
  ⟨fun k => by rw [h.station]; exact hs.stations k, fun g => by rw [h.segment]; exact hs.segments g,
    fun i => by rw [h.setOf]; exact hs.sets i⟩

theorem State.SameCore.haltSound {s t : State} (h : s.SameCore t) {k : Station} (hs : s.HaltSound k) : t.HaltSound k :=
  hs.congr_core (congrFun h.station k) h.causes (congrFun h.custodyOf k)

end Sys2Proof.Machine

open Sys2Proof Sys2Proof.Machine

/-- Settles O60: each event keeps stations halted with their zones and the records in their ranges, each command and event
the accounts, links, counts and the port, and each event a RUNNING line valid. -/
theorem stepsKeepStandingLaws : Obligations.StepsKeepStandingLaws := by
  refine ⟨fun s t hs ht => ?_, fun s t hr hv ht => ?_⟩
  · rw [State.standingLaws_iff] at hs ⊢
    have inZones : ∀ {u v : State}, u.SameCore v → ((∀ k, u.HaltSound k) ∧ u.Ranges) → (∀ k, v.HaltSound k) ∧ v.Ranges :=
      fun hc h => ⟨fun k => hc.haltSound (h.1 k), hc.ranges h.2⟩
    exact ⟨State.step_keeps (fun _ _ => inZones) (fun _ _ => inZones)
      (fun _ _ h e => ⟨e.haltSound h.1, e.ranges h.2⟩) hs.1 ht, hs.2.step ht⟩
  · have kept : ∀ {u v : State}, u.SameCore v → u.ReferenceLaw ∧ u.ValidLaw → v.ReferenceLaw ∧ v.ValidLaw :=
      fun hc h => ⟨h.1.congr hc.routes, hc.validLaw h.2⟩
    exact State.step_keeps (fun _ _ => kept) (fun _ _ hc => hc.validLaw) (fun _ _ h e => e.validLaw h.1 h.2) ⟨hr, hv⟩ ht
end

section
/-! The machine: a step, power-on, the ticks; and that every command and event completes. -/

-- One declaration at a time, which holds the text's memory down.
set_option Elab.async false

namespace Sys2Proof.Machine

/-! ### Every command and event completes -/

/-- The outcome is a next state, the queue of commands as in `s`. -/
def State.Completes (s : State) (o : StepOutcome) : Prop := ∃ t, o = .next t ∧ t.pending = s.pending

namespace State.Completes

variable {s t : State}

theorem next (h : t.pending = s.pending) : s.Completes (.next t) := ⟨t, rfl, h⟩

theorem does (h : s.Does t) : s.Completes (.next t) := next h.pending

theorem startCommand (s : State) : s.startCommand.1.pending = s.pending := by
  unfold State.startCommand; split <;> rfl

theorem findExceptionCommand (h : BitVec 16) (s : State) : (s.findExceptionCommand h).1.pending = s.pending := by
  unfold State.findExceptionCommand; split <;> rfl

theorem runHostCommand (i : Instr) (s : State) : s.Completes (runHostCommand i s) := by
  cases hostCommand_of i with
  | command hb hi => rw [hi]; exact hostCommand_next _ _ _ (fun u => (hb u).pending) s
  | start hi => rw [hi]; exact longCommand_next _ _ _ startCommand s
  | findException k hi => rw [hi]; exact longCommand_next _ _ _ (findExceptionCommand k) s
  | event hi _ => rw [hi]; exact next rfl

theorem commandFrame (bytes : List Byte) (s : State) : s.Completes (s.commandFrame bytes) := by
  simp only [State.commandFrame]
  split
  · split
    · next i _ =>
      obtain ⟨t, ht, hp⟩ := runHostCommand i s
      rw [ht]; exact next hp
    · exact next rfl
    · exact next rfl
  · exact next rfl

theorem readResponse (bits : Nat) (s : State) : (s.readResponse bits).pending = s.pending := by
  simp only [State.readResponse]
  split
  · split <;> rfl
  · rfl

theorem commandTransaction (edge : ScsEdge) (bytes : List Byte) (s : State) :
    s.Completes (execCommandTransaction edge bytes s) := by
  cases edge with
  | falls => exact next (State.fallScs_pending s)
  | risesEarly => exact next rfl
  | rises selector =>
    simp only [execCommandTransaction, State.endScs]
    split
    · exact commandFrame bytes s
    · split
      · exact next (readResponse _ s)
      · exact next rfl

theorem completeValidation (s : State) : s.completeValidation.pending = s.pending := by
  unfold State.completeValidation
  split
  · split <;> rfl
  · rfl

theorem examine (s : State) : s.examine.pending = s.pending := by
  unfold State.examine
  split
  · split
    · rfl
    · split <;> rfl
  · rfl

theorem exec (i : Instr) (s : State) : s.Completes (exec i s) := by
  cases hb : commandBytes i with
  | some x => rw [exec_eq_runHostCommand hb]; exact runHostCommand i s
  | none =>
  cases i with
  | powerOn | readySet | lineTimeTick => exact next rfl
  | haltInputAsserted n => exact does (.takeAssertion n s)
  | haltInputDeasserted n => exact does (.takeDeassertion n s)
  | pollSent => exact does (.sendPoll s)
  | replyWindowClosed => exact does (.closeWindow s)
  | answerDiscarded b => exact does (.receiveFrame b s)
  | answer head => exact does (.takeAnswer head _ s)
  | arrival head seq port tag => exact does (.takeAnswer head _ s)
  | clear head seq e => exact does (.takeAnswer head _ s)
  | roomEventGrant g => exact does (.grant g s)
  | transitExpiry g => exact does (.expireHead g s)
  | dwellExpiry k => exact does (.expireDwell k s)
  | occupancyExpiry k => exact does (.expireOccupancy k s)
  | validationComplete => exact next (completeValidation s)
  | scanExamine => exact next (examine s)
  | commandTransaction e b => exact commandTransaction e b s
  | readTransaction n => exact next (readResponse n s)
  | _ => cases hb

end State.Completes

/-! ### Power-on -/

/-- Every table of the state after a reset holds its power-on value. -/
theorem State.atPowerOn_reset : State.reset.AtPowerOn :=
  ⟨rfl, ⟨rfl, fun _ => Table.get_fill _ _, fun _ => Table.get_fill _ _, fun _ => Table.get_fill _ _,
      fun _ => Table.get_fill _ _⟩,
    fun h => by rw [show State.reset.record h = .free 0 from Table.get_fill _ _]; exact ⟨rfl, rfl⟩, rfl, rfl,
    fun _ => ⟨Table.get_fill _ _, Table.get_fill _ _, Table.get_fill _ _⟩, rfl,
    fun _ => ⟨Table.get_fill _ _, Table.get_fill _ _, Table.get_fill _ _, Table.get_fill _ _, Table.get_fill _ _⟩,
    fun _ => Table.get_fill _ _, fun _ => Table.get_fill _ _, fun _ => Table.get_fill _ _, fun _ => Table.get_fill _ _,
    rfl, rfl, rfl, rfl, rfl⟩

/-! ### Reads -/

/-- A command taken that changes nothing but the buffer. -/
theorem hostCommand_read {s : State} {code : Byte} {len : Nat} {block : State → State × Reply} {d : List Byte}
    (h : s.takesCommand = true) (hb : ∀ p, block (s.withPort p) = accept (s.withPort p) d) :
    hostCommand code len block s = .next (s.readWith code len d) :=
  hostCommand_answered h hb

/-- A command taken and accepted, its block doing the same whatever the port holds. -/
theorem hostCommand_accepted {s t : State} {code : Byte} {len : Nat} {block : State → State × Reply} {d : List Byte}
    (h : s.takesCommand = true) (hb : ∀ p, block (s.withPort p) = accept (t.withPort p) d) :
    hostCommand code len block s = .next { t with port := s.portAfter code len .ok d } :=
  hostCommand_answered h hb

/-- A four-byte field, its least significant byte first. -/
theorem leBytes_four (x : BitVec 32) :
    leBytes 4 x = [x.extractLsb' 0 8, x.extractLsb' 8 8, x.extractLsb' 16 8, x.extractLsb' 24 8] := rfl

theorem exec_setAttnMask (m : Byte) (s : State) :
    exec (.setAttnMask m) s = hostCommand 0x05 1 (·.setAttnMaskCommand m) s := rfl

theorem exec_readUntracked (b choice : Byte) (s : State) :
    exec (.readUntracked b choice) s = hostCommand 0x58 2 (·.readUntrackedCommand b choice) s := rfl

theorem State.setAttnMaskCommand_badParam (s : State) {m : Byte} (h : m.msb = true) :
    s.setAttnMaskCommand m = refuse s .badParam := if_pos h

theorem boolOfCode_eq_none {b : Byte} (h : 2 ≤ b.toNat) : boolOfCode b = none := by
  unfold boolOfCode
  split
  · next e => rw [e] at h; exact absurd h (by decide)
  · next e => rw [e] at h; exact absurd h (by decide)
  · rfl

theorem State.readUntrackedCommand_keep (s : State) (k : Station) :
    s.readUntrackedCommand (byteNat k.val) 0 = accept s [byteNat (s.untracked.get k)] := by
  simp only [State.readUntrackedCommand, index?_station]; rfl

theorem State.readUntrackedCommand_clear (s : State) (k : Station) :
    s.readUntrackedCommand (byteNat k.val) 1 = accept (s.withUntracked k 0) [byteNat (s.untracked.get k)] := by
  simp only [State.readUntrackedCommand, index?_station]; rfl

theorem State.readUntrackedCommand_badParam (s : State) {b choice : Byte} (h : 32 ≤ b.toNat ∨ 2 ≤ choice.toNat) :
    s.readUntrackedCommand b choice = refuse s .badParam := by
  unfold State.readUntrackedCommand
  cases hk : index? Config.stations b with
  | none => rfl
  | some k =>
    have hc : 2 ≤ choice.toNat := h.resolve_left fun hb => by rw [index?_eq_none.mpr hb] at hk; cases hk
    simp only [boolOfCode_eq_none hc]

end Sys2Proof.Machine

open Sys2Proof Sys2Proof.Machine

/-- Settles O2, by what each command and event does to the queue of commands. -/
theorem everyCommandCompletes : Obligations.EveryCommandCompletes := fun i s => State.Completes.exec i s

/-- Settles O1. -/
theorem stepRunsTheFrontCommand : Obligations.StepRunsTheFrontCommand :=
  ⟨fun _ _ _ => rfl, fun s h => by unfold step; rw [h]⟩

/-- Settles O3. -/
theorem powerOnValues : Obligations.PowerOnValues := by
  refine ⟨State.atPowerOn_reset, rfl, fun s => ⟨s.powerOn, rfl, State.atPowerOn_reset, rfl, fun h => ?_, fun h => ?_⟩⟩
  · show s.port.transaction.afterPowerOn = .none
    rw [h]; rfl
  · show s.port.transaction.afterPowerOn = .abandoned
    cases hp : s.port.transaction with
    | none => exact absurd hp h
    | underWay | abandoned => rfl

/-- Settles O4. -/
theorem readyTickAndDeassertion : Obligations.ReadyTickAndDeassertion := by
  refine ⟨fun _ => rfl, fun _ _ => rfl, fun n s level last prior => ?_⟩
  have taken : (s.lineAsserted n && s.samplesAgree n false) = true := by
    simp only [State.lineAsserted, State.samplesAgree, level, last, prior]; rfl
  show Host.Outcome.next (s.takeDeassertion n) = _
  rw [State.takeDeassertion, if_pos taken]; rfl

/-- Settles O12, block by block. -/
theorem timeMaskAndUntrackedCounts : Obligations.TimeMaskAndUntrackedCounts := by
  refine ⟨fun s ht => hostCommand_read (block := State.readTimeCommand) ht fun _ => rfl, fun s ht => ⟨fun m hm => ?_, fun m hm => ?_, fun k => ?_,
    fun k => ?_, fun b choice h => ?_⟩⟩
  · rw [exec_setAttnMask]
    exact hostCommand_refused ht fun p => State.setAttnMaskCommand_badParam _ hm
  · have ha : s.port.transaction ≠ .abandoned := fun e => by
      rw [State.takesCommand_of_abandoned e] at ht; cases ht
    rw [exec_setAttnMask, hostCommand_taken ht]
    simp only [State.setAttnMaskCommand, hm, Bool.false_eq_true, if_false, State.shiftFill_eq]
    simp only [accept, State.respond, State.withPort, State.portIdle, State.portEnded, State.portAfter, if_neg ha]
  · rw [exec_readUntracked]
    exact hostCommand_read ht fun p => State.readUntrackedCommand_keep _ k
  · rw [exec_readUntracked]
    exact hostCommand_accepted (t := s.withUntracked k 0) ht fun p => State.readUntrackedCommand_clear _ k
  · rw [exec_readUntracked]
    exact hostCommand_refused ht fun p => State.readUntrackedCommand_badParam _ h

/-- Settles O55: each law right after a reset. -/
theorem lawsHoldAtReset : Obligations.LawsHoldAtReset := by
  obtain ⟨free, tags, exceptions⟩ := State.recordLaws_reset
  obtain ⟨reservation, capacity⟩ := State.reset.roomBut_none.mp State.roomBut_reset
  have port : State.reset.PortLaw := .of_idle ⟨nofun, nofun⟩ nofun
  exact ⟨State.placeLaws_reset, free, tags, exceptions, reservation, capacity, State.boundLaw_reset,
    State.referenceLaw_reset,
    State.reset.standingLaws_iff.mpr ⟨⟨State.haltSound_reset, State.ranges_reset⟩, State.accounted_reset, port⟩,
    State.routeLaw_reset, State.validLaw_of_device nofun, State.reset.waitBut_none.mp State.waitBut_reset,
    .of_empty fun _ => Table.get_fill _ _⟩
end

section
/-! The Host Port: frames and the commands they spell, what a frame that fails is answered, and which transactions are
taken (R185 to R188, R198). -/

-- One declaration at a time, which holds the text's memory down.
set_option Elab.async false

namespace Sys2Proof.Machine

/-! ### Frames and the commands they spell -/

/-- Every command's frame has the length its code requires and spells it; an event of the line has none. -/
theorem hostFrame (i : Instr) : Laws.HostFrame.Statement i := by
  cases i with
  | start => exact Laws.HostFrame.start
  | stop => exact Laws.HostFrame.stop
  | resetTracking => exact Laws.HostFrame.resetTracking
  | status => exact Laws.HostFrame.status
  | setAttnMask m => exact Laws.HostFrame.setAttnMask m
  | readTime => exact Laws.HostFrame.readTime
  | stationSet p => exact Laws.HostFrame.stationSet p
  | segmentSet p => exact Laws.HostFrame.segmentSet p
  | zoneSet a b => exact Laws.HostFrame.zoneSet a b
  | haltMap a b => exact Laws.HostFrame.haltMap a b
  | stationTune p => exact Laws.HostFrame.stationTune p
  | segmentTune p => exact Laws.HostFrame.segmentTune p
  | outletSet p => exact Laws.HostFrame.outletSet p
  | stationRead a => exact Laws.HostFrame.stationRead a
  | segmentRead a => exact Laws.HostFrame.segmentRead a
  | segmentList a b => exact Laws.HostFrame.segmentList a b
  | decisionWrite a b c => exact Laws.HostFrame.decisionWrite a b c
  | decisionRead a => exact Laws.HostFrame.decisionRead a
  | routeOpen a => exact Laws.HostFrame.routeOpen a
  | routeStage p => exact Laws.HostFrame.routeStage p
  | routeParams p => exact Laws.HostFrame.routeParams p
  | routeActivate a => exact Laws.HostFrame.routeActivate a
  | routeWithdraw a => exact Laws.HostFrame.routeWithdraw a
  | routeDiscard a => exact Laws.HostFrame.routeDiscard a
  | routeRead a => exact Laws.HostFrame.routeRead a
  | classBind a b => exact Laws.HostFrame.classBind a b
  | induct p => exact Laws.HostFrame.induct p
  | query r => exact Laws.HostFrame.query r
  | lookupTag t => exact Laws.HostFrame.lookupTag t
  | reroute r q => exact Laws.HostFrame.reroute r q
  | retire r => exact Laws.HostFrame.retire r
  | findException k => exact Laws.HostFrame.findException k
  | halt z => exact Laws.HostFrame.halt z
  | resume z => exact Laws.HostFrame.resume z
  | purgeSegment g => exact Laws.HostFrame.purgeSegment g
  | release a => exact Laws.HostFrame.release a
  | clearJam a b => exact Laws.HostFrame.clearJam a b
  | outletClose a => exact Laws.HostFrame.outletClose a
  | outletOpen a => exact Laws.HostFrame.outletOpen a
  | outletEmptied a => exact Laws.HostFrame.outletEmptied a
  | readUntracked a b => exact Laws.HostFrame.readUntracked a b
  | _ => exact fun _ _ _ e => nomatch e

theorem requiredLength_le {code : Byte} {n : Nat} (h : requiredLength code = some n) : n ≤ 36 := by
  unfold requiredLength at h
  split at h <;> cases h <;> decide

theorem toNat_length {n : Nat} (h : n ≤ 36) : (BitVec.ofNat 8 n).toNat = n := byteNat_toNat (by omega)

section

variable {code crc : Byte} {ps extra : List Byte} (hlen : ps.length ≤ 36)

include hlen

/-- The check of a frame whose length byte is its parameters' length, up to the CRC. -/
theorem checkFrame_badCheck (hc : crc ≠ crc8 (code :: BitVec.ofNat 8 ps.length :: ps)) :
    checkFrame (code :: BitVec.ofNat 8 ps.length :: ps ++ crc :: extra) = .frameError code := by
  simp [checkFrame, toNat_length hlen, Ne.symm hc]

variable (hc : crc = crc8 (code :: BitVec.ofNat 8 ps.length :: ps))

include hc

theorem checkFrame_undefined (hr : requiredLength code = none) :
    checkFrame (code :: BitVec.ofNat 8 ps.length :: ps ++ crc :: extra) = .badParam code := by
  simp [checkFrame, toNat_length hlen, ← hc, hr, Nat.not_lt.mpr hlen]

theorem checkFrame_wrongLength {n : Nat} (hr : requiredLength code = some n) (hn : n ≠ ps.length) :
    checkFrame (code :: BitVec.ofNat 8 ps.length :: ps ++ crc :: extra) = .frameError code := by
  simp [checkFrame, toNat_length hlen, ← hc, hr, Nat.not_lt.mpr hlen, Ne.symm hn]

theorem checkFrame_passed {i : Instr} (hr : requiredLength code = some ps.length) (hi : parseCommand code ps = some i) :
    checkFrame (code :: BitVec.ofNat 8 ps.length :: ps ++ crc :: extra) = .passed i := by
  simp [checkFrame, toNat_length hlen, ← hc, hr, Nat.not_lt.mpr hlen, hi]

end

/-- The frame of a well-formed command passes the check as it, whatever follows it (R186, R187). -/
theorem checkFrame_frameOf {i : Instr} {code : Byte} {ps : List Byte} (hw : i.wellFormed = true)
    (hi : commandBytes i = some (code, ps)) (extra : List Byte) : checkFrame (frameOf code ps ++ extra) = .passed i := by
  obtain ⟨hr, hp⟩ := hostFrame i code ps hw hi
  have hf : frameOf code ps ++ extra = code :: BitVec.ofNat 8 ps.length :: ps
      ++ crc8 (code :: BitVec.ofNat 8 ps.length :: ps) :: extra := by
    simp only [frameOf, List.append_assoc, List.cons_append, List.nil_append]
  rw [hf]
  exact checkFrame_passed (requiredLength_le hr) rfl hr hp

theorem leBytes_six (x : BitVec 48) :
    leBytes 6 x = [byteOf x 0, byteOf x 1, byteOf x 2, byteOf x 3, byteOf x 4, byteOf x 5] := rfl

/-- The first bytes of an answer head are read back from the frame (R201). -/
theorem parseAnswer_frame {k : Station} {d : Option Byte} {seq b : Byte} {tag : Tag} {i : Instr}
    (h : i = .answer (headFrom k d) ∨ i = .arrival (headFrom k d) seq b tag ∨ i = .clear (headFrom k d) seq b) :
    ∃ frame, answerFrame i = some frame ∧ frame.length = 12 ∧ parseAnswer k frame = some i := by
  have hk : (byteNat k.val).toNat = k.val := byteNat_toNat (Nat.lt_of_lt_of_le k.isLt (by decide))
  have fields := Laws.word48_leBytes tag
  rcases h with rfl | rfl | rfl
  · cases d with
    | none | some n => exact ⟨_, rfl, rfl, by simp [answerFlags, parseAnswer, headFrom, hk]⟩
  · cases d with
    | none | some n => exact ⟨_, rfl, rfl, by simp [answerFlags, parseAnswer, headFrom, hk, leBytes_six, fields]⟩
  · cases d with
    | none | some n => exact ⟨_, rfl, rfl, by simp [answerFlags, parseAnswer, headFrom, hk]⟩

/-! ### Commands taken and dropped -/

theorem State.not_abandoned {s : State} (h : s.takesCommand = true) : s.port.transaction ≠ .abandoned := fun e => by
  rw [State.takesCommand_of_abandoned e] at h; cases h

/-- A command is taken where the status byte of its fall shows READY and the slot is FREE (R185, R186). -/
theorem State.takesCommand_iff (s : State) :
    s.takesCommand = true ↔ s.openingByte.getLsbD 7 = true ∧ s.port.slot = .free := by
  rw [State.takesCommand, OpenTransaction.ready, State.atFall_status, Bool.and_eq_true, beq_iff_eq]; rfl

/-- A command while the part takes none: only the transaction and the bytes shifted out change. -/
theorem exec_dropped {s : State} (h : s.takesCommand = false) {i : Instr} {code : Byte} {ps : List Byte}
    (hi : commandBytes i = some (code, ps)) : exec i s = .next { s with port := s.portIdle (ps.length + 3) } := by
  cases i with
  | start | findException => cases hi; rw [exec]; exact longCommand_dropped h _ _ _
  | decisionWrite set count places =>
    cases hi
    have hlen : ([set, count] ++ placeBytes places).length = 2 + 4 * places.length := by
      rw [List.length_append, Laws.placeBytes_length]; rfl
    rw [hlen, exec]; exact hostCommand_dropped h _ _ _
  | powerOn | readySet | haltInputAsserted | haltInputDeasserted | pollSent | replyWindowClosed | answerDiscarded | answer
  | arrival | clear | roomEventGrant | transitExpiry | dwellExpiry | occupancyExpiry | validationComplete | scanExamine
  | commandTransaction | readTransaction | lineTimeTick => cases hi
  | _ => cases hi; rw [exec]; exact hostCommand_dropped h _ _ _

/-- After a command was taken no transaction is open. -/
theorem exec_taken {s t : State} (h : s.takesCommand = true) {i : Instr} {x : Byte × List Byte}
    (hi : commandBytes i = some x) (ht : runHostCommand i s = .next t) : t.port.transaction = .none := by
  cases hostCommand_of i with
  | @command code len block hb he =>
    rw [he, hostCommand_taken h] at ht
    cases ht
    show (block (s.shiftFill (len + 3))).1.port.transaction = .none
    rw [(hb _).port]; rfl
  | start he =>
    rw [he] at ht
    by_cases hd : (s.shiftFill (0 + 3)).map.device = .setup
    · rw [longCommand_begun h _ _ (if_pos hd)] at ht; cases ht; rfl
    · rw [longCommand_refused h _ _ (if_neg hd)] at ht; cases ht; rfl
  | findException k he =>
    rw [he] at ht
    cases hk : index? Config.handles k with
    | none =>
      rw [longCommand_refused h _ _ (r := { code := .badParam }) (t := s.shiftFill (2 + 3))
        (by simp only [State.findExceptionCommand, hk])] at ht
      cases ht; rfl
    | some j =>
      rw [longCommand_begun h _ _ (t := (s.shiftFill (2 + 3)).beginLong (.scan j))
        (by simp only [State.findExceptionCommand, hk])] at ht
      cases ht; rfl
  | event _ hn => rw [hn] at hi; cases hi

/-! ### Transactions -/

theorem exec_command (bytes : List Byte) (s : State) :
    exec (.commandTransaction (.rises 0x5A) bytes) s = s.commandFrame bytes := rfl

theorem exec_statusTransaction {selector : Byte} (h : selector ≠ 0x5A) (h' : selector ≠ 0xA5) (bytes : List Byte)
    (s : State) :
    exec (.commandTransaction (.rises selector) bytes) s = .next { s with port := s.portIdle bytes.length } := by
  rw [← State.shiftFill_eq]
  show s.endScs selector bytes = _
  rw [State.endScs, if_neg (show selector ≠ commandSelector from h), if_neg (show selector ≠ readSelector from h')]

theorem State.commandFrame_dropped {s : State} (h : s.takesCommand = false) (bytes : List Byte) :
    s.commandFrame bytes = .next { s with port := s.portIdle bytes.length } := by
  rw [← State.shiftFill_eq]
  simp only [State.commandFrame, h, Bool.false_eq_true, if_false]

theorem State.commandFrame_frameError {s : State} (h : s.takesCommand = true) {bytes : List Byte} {echo : Byte}
    (hc : checkFrame bytes = .frameError echo) :
    s.commandFrame bytes
      = .next { s with port := { s.portIdle bytes.length with slot := .answered ⟨echo, .frameError, []⟩ } } := by
  simp only [State.commandFrame, h, if_true, hc, State.shiftFill_eq]; rfl

theorem State.commandFrame_badParam {s : State} (h : s.takesCommand = true) {bytes : List Byte} {echo : Byte}
    (hc : checkFrame bytes = .badParam echo) :
    s.commandFrame bytes
      = .next { s with port := { s.portIdle bytes.length with slot := .answered ⟨echo, .badParam, []⟩ } } := by
  simp only [State.commandFrame, h, if_true, hc, State.shiftFill_eq]; rfl

theorem State.commandFrame_passed {s t : State} (h : s.takesCommand = true) {bytes : List Byte} {i : Instr}
    {x : Byte × List Byte} (hx : commandBytes i = some x) (hc : checkFrame bytes = .passed i)
    (ht : runHostCommand i s = .next t) :
    s.commandFrame bytes
      = .next { t with port := { t.port with sdo := s.openingByte :: List.replicate bytes.length 0 } } := by
  have idle := exec_taken h hx ht
  have sdo : (s.shiftFill bytes.length).port.sdo = s.openingByte :: List.replicate bytes.length 0 := by
    rw [State.shiftFill_eq]
    simp only [State.portIdle, State.portEnded, if_neg (State.not_abandoned h)]
  simp only [State.commandFrame, h, if_true, hc, ht, sdo, withShifted, State.shiftOut, State.withPort, idle, reduceCtorEq,
    if_false]

/-- At the end of an abandoned transaction only the transaction changes (R184). -/
theorem State.portEnded_abandoned {s : State} (h : s.port.transaction = .abandoned) (bytes : List Byte) :
    s.portEnded bytes = { s.port with transaction := .none } := by
  simp only [State.portEnded, h, if_true]

theorem State.openingByte_abandoned {s : State} (h : s.port.transaction = .abandoned) : s.openingByte = 0 := by
  simp only [State.openingByte, h]

theorem State.readResponse_unready {s : State} (h : s.openingByte.getLsbD 7 = false) (bits : Nat) :
    s.readResponse bits = { s with port := s.portIdle (bits / 8) } := by
  have hr : s.atFall.ready = false := by rw [OpenTransaction.ready, State.atFall_status]; exact h
  simp only [State.readResponse, hr, Bool.false_eq_true, if_false, State.shiftFill_eq]

/-- A read that opened while the part was ready: the frame that waited then and fill, and the slot after it (R190). -/
theorem State.readResponse_ready {s : State} (h : s.openingByte.getLsbD 7 = true) (bits : Nat) :
    s.readResponse bits = { s with port := { s.port with
      slot := if s.openingSlot.readWhole bits then .free else s.port.slot
      transaction := .none
      sdo := s.openingByte :: (s.openingSlot.readFrame ++ List.replicate (bits / 8) 0).take (bits / 8) } } := by
  have hr : s.atFall.ready = true := by rw [OpenTransaction.ready, State.atFall_status]; exact h
  have ha : s.port.transaction ≠ .abandoned := fun e => by
    rw [State.openingByte_abandoned e] at h; exact absurd h (by decide)
  simp only [State.readResponse, hr, if_true, State.atFall_status, State.atFall_waiting, State.shiftOut, State.withPort,
    if_neg ha]
  split <;> rfl

theorem CommandSlot.readWhole_answered (r : Response) (bits : Nat) :
    (CommandSlot.answered r).readWhole bits = true ↔ 8 * (r.data.length + 4) ≤ bits := by
  simp [CommandSlot.readWhole, Response.frame]

/-! ### The status byte and the fall of /SCS -/

theorem State.respFlag_iff (s : State) : s.respFlag = true ↔ ∃ r, s.port.slot = .answered r := by
  unfold State.respFlag
  cases s.port.slot <;> simp

/-- The attention line: a summary flag and its mask bit together (R192). -/
theorem State.attention_iff (s : State) :
    s.attention = true ↔ ∃ n < 7, s.summary.getLsbD n = true ∧ s.port.mask.getLsbD n = true := by
  unfold State.attention
  rw [bne_iff_ne]
  constructor
  · intro hne
    by_contra hn
    refine hne (BitVec.eq_of_getLsbD_eq fun n hlt => ?_)
    rw [BitVec.getLsbD_and, BitVec.ofNat_eq_ofNat, BitVec.getLsbD_zero, Bool.and_eq_false_iff]
    by_contra hb
    obtain ⟨h1, h2⟩ := not_or.mp hb
    exact hn ⟨n, hlt, by simpa using h1, by simpa using h2⟩
  · rintro ⟨n, hlt, h1, h2⟩ hz
    have := congrArg (fun x : BitVec 7 => x.getLsbD n) hz
    simp [h1, h2] at this

theorem exec_falls (bytes : List Byte) (s : State) : exec (.commandTransaction .falls bytes) s = .next s.fallScs := rfl

end Sys2Proof.Machine

open Sys2Proof Sys2Proof.Machine

/-- Settles O5, by the round trip of each command's frame and of the three answers. -/
theorem framesSpellTheirCommands : Obligations.FramesSpellTheirCommands :=
  ⟨fun _ _ _ extra hw hi => checkFrame_frameOf hw hi extra, fun _ _ _ _ _ _ h => parseAnswer_frame h⟩

/-- Settles O6: the frame passes as its command, which leaves no transaction open. -/
theorem commandTransactionRunsItsCommand : Obligations.CommandTransactionRunsItsCommand := by
  intro i code ps extra s hw hi hs
  obtain ⟨t, ht, -⟩ := State.Completes.exec i s
  refine ⟨t, ht, ?_⟩
  rw [exec_eq_runHostCommand hi] at ht
  rw [exec_command, State.commandFrame_passed hs hi (checkFrame_frameOf hw hi extra) ht]
  have hlen : (frameOf code ps ++ extra).length = ps.length + 3 + extra.length := by
    simp [frameOf]; omega
  rw [hlen]

/-- Settles O7, by the first check that fails. -/
theorem failingFramesAreAnswered : Obligations.FailingFramesAreAnswered := by
  intro s hs
  refine ⟨?_, fun code => ?_, fun code len rest h => ?_, fun code len rest h => ?_, fun code ps crc extra hlen =>
    ⟨fun hc => ?_, fun hc => ⟨fun hr => ?_, fun n hr hn => ?_⟩⟩⟩
  · exact State.commandFrame_frameError hs rfl
  · exact State.commandFrame_frameError hs rfl
  · exact State.commandFrame_frameError hs (by simp [checkFrame, List.drop_eq_nil_of_le h])
  · refine State.commandFrame_frameError hs ?_
    cases hd : rest.drop len.toNat <;> simp [checkFrame, hd, h]
  · exact State.commandFrame_frameError hs (checkFrame_badCheck hlen hc)
  · exact State.commandFrame_badParam hs (checkFrame_undefined hlen hc hr)
  · exact State.commandFrame_frameError hs (checkFrame_wrongLength hlen hc hr hn)

/-- Settles O8. -/
theorem commandsAreDroppedWhileBusy : Obligations.CommandsAreDroppedWhileBusy := by
  intro s
  refine ⟨s.takesCommand_iff, fun h => ⟨fun i code ps hi => exec_dropped h hi, fun bytes => ?_⟩,
    fun selector bytes h h' => exec_statusTransaction h h' bytes s, fun ha bytes => ?_, fun ha => ?_⟩
  · exact State.commandFrame_dropped h bytes
  · show Host.Outcome.next (s.shiftOut []) = _
    simp only [State.shiftOut_eq, State.portEnded, if_neg ha]
  · have idle : s.takesCommand = false := State.takesCommand_of_abandoned ha
    have unready : s.openingByte.getLsbD 7 = false := by
      rw [State.openingByte_abandoned ha]; decide
    have reads : ∀ bits, s.readResponse bits = { s with port := { s.port with transaction := .none } } := fun bits => by
      rw [State.readResponse_unready unready, State.portIdle, State.portEnded_abandoned ha]
    refine ⟨fun i code ps hi => ?_, fun bits => congrArg _ (reads bits), fun edge bytes he => ?_⟩
    · rw [exec_dropped idle hi, State.portIdle, State.portEnded_abandoned ha]
    · cases edge with
      | falls => exact absurd rfl he
      | risesEarly =>
        show Host.Outcome.next (s.shiftOut []) = _
        rw [State.shiftOut_eq, State.portEnded_abandoned ha]
      | rises selector =>
        by_cases h : selector = 0x5A
        · subst h
          rw [exec_command, State.commandFrame_dropped idle, State.portIdle, State.portEnded_abandoned ha]
        · by_cases h' : selector = 0xA5
          · subst h'; exact congrArg _ (reads _)
          · rw [exec_statusTransaction h h', State.portIdle, State.portEnded_abandoned ha]

/-- Settles O9, by what waited at the fall. -/
theorem readShiftsOutTheResponse : Obligations.ReadShiftsOutTheResponse := by
  intro bits s
  refine ⟨fun bytes h => by subst h; rfl, fun h => congrArg _ (State.readResponse_unready h bits), fun h => ?_⟩
  have ready := State.readResponse_ready h bits
  refine ⟨fun r hr => ⟨fun hlt => ?_, fun hle => ?_⟩, fun hf => ?_, fun hv => ?_, fun c hc => ?_⟩
  · refine congrArg _ (ready.trans ?_)
    rw [hr, if_neg ((CommandSlot.readWhole_answered r bits).not.mpr (Nat.not_le.mpr hlt))]; rfl
  · refine congrArg _ (ready.trans ?_)
    rw [hr, if_pos ((CommandSlot.readWhole_answered r bits).mpr hle)]; rfl
  · refine congrArg _ (ready.trans ?_)
    rw [hf]; rfl
  · refine congrArg _ (ready.trans ?_)
    rw [hv]; rfl
  · refine congrArg _ (ready.trans ?_)
    rw [hc]; rfl

/-- Settles O10. -/
theorem statusByteShowsThePart : Obligations.StatusByteShowsThePart := by
  intro s
  refine ⟨fun h => ?_, fun h => ?_, fun bytes => ⟨fun h => ?_, fun h => ?_⟩⟩
  · simp only [State.statusByte, h, Bool.false_eq_true, if_false]
  · obtain ⟨b7, b6, b5, b4, b3, b2, b10⟩ := State.statusByte_of_ready h
    rw [b6, b5, b4, b10]
    refine ⟨b7, ?_, s.respFlag_iff, s.attention_iff, b3, b2, ?_⟩
    · rw [State.busy, bne_iff_ne]
    · cases s.map.device <;> rfl
  · rw [exec_falls, State.fallScs, h]; rfl
  · rw [exec_falls, State.fallScs]
    cases ht : s.port.transaction with
    | none => exact absurd ht h
    | underWay | abandoned => rfl
end

section
/-! STATUS: the summary flags by their conditions, and the zones (R191, R194). -/

-- One declaration at a time, which holds the text's memory down.
set_option Elab.async false

namespace Sys2Proof.Machine

/-! ### The summary flags -/

/-- The summary flags in the order of their bits (R191, R199). -/
theorem State.summary_bits (s : State) :
    s.summary.getLsbD 0 = s.excFlag ∧ s.summary.getLsbD 1 = s.jamFlag ∧ s.summary.getLsbD 2 = s.fullFlag
      ∧ s.summary.getLsbD 3 = s.haltFlag ∧ s.summary.getLsbD 4 = s.downFlag ∧ s.summary.getLsbD 5 = s.untrFlag
      ∧ s.summary.getLsbD 6 = s.respFlag := by
  have bits : ∀ r u d h f j e : Bool,
      let x := BitVec.ofBool r ++ BitVec.ofBool u ++ BitVec.ofBool d ++ BitVec.ofBool h ++ BitVec.ofBool f
        ++ BitVec.ofBool j ++ BitVec.ofBool e
      x.getLsbD 0 = e ∧ x.getLsbD 1 = j ∧ x.getLsbD 2 = f ∧ x.getLsbD 3 = h ∧ x.getLsbD 4 = d ∧ x.getLsbD 5 = u
        ∧ x.getLsbD 6 = r := by decide
  exact bits ..

theorem State.excFlag_iff (s : State) : s.excFlag = true ↔ 0 < s.carriers.exceptionCount := decide_eq_true_iff

theorem State.jamFlag_iff (s : State) :
    s.jamFlag = true ↔ ∃ st c e, s.custodyOf st = .jammed c e ∨ s.custodyOf st = .halted (.jammed c e) := by
  rw [State.jamFlag, Table.any_rows]
  refine exists_congr fun st => ?_
  show (s.custodyOf st).jammedOrSaved = true ↔ _
  cases s.custodyOf st with
  | halted v => cases v <;> simp [Custody.jammedOrSaved]
  | _ => simp [Custody.jammedOrSaved]

theorem State.fullFlag_iff (s : State) :
    s.fullFlag = true ↔ ∃ st, (s.station st).type = .outlet ∧ (s.outlet st).full = true := by
  simp [State.fullFlag, State.isOutlet]

theorem State.haltFlag_iff (s : State) : s.haltFlag = true ↔ ∃ z, s.zoneHalted z = true := by
  rw [State.haltFlag, Table.any_rows]; rfl

theorem State.downFlag_iff (s : State) :
    s.downFlag = true ↔ ∃ st, s.configured st = true ∧ (s.linkOf st).state = .down := by
  simp [State.downFlag]

theorem State.untrFlag_iff (s : State) : s.untrFlag = true ↔ ∃ st, 0 < s.untracked.get st := by
  rw [State.untrFlag, Table.any_rows]
  exact exists_congr fun st => decide_eq_true_iff

/-! ### The zones' bytes -/

/-- Two bytes from each member of a list, read at their places. -/
theorem getElem?_flatMap_pair {α β : Type} (a b : α → β) (l : List α) (i : Nat) :
    (l.flatMap fun x => [a x, b x])[2 * i]? = l[i]?.map a
      ∧ (l.flatMap fun x => [a x, b x])[2 * i + 1]? = l[i]?.map b := by
  induction l generalizing i with
  | nil => exact ⟨rfl, rfl⟩
  | cons x l ih =>
    cases i with
    | zero => exact ⟨rfl, rfl⟩
    | succ i => exact ih i

theorem State.zoneBytes_eq (s : State) (z : Zone) :
    s.zoneBytes z = [if s.zoneHalted z then 1 else 0,
      BitVec.ofNat 8 ((if (s.zones.causes.get z).host then 1 else 0) + 2 * (s.zones.causes.get z).lines.toNat)] := by
  have bits : ∀ (h : Bool) (l : BitVec 4),
      (l ++ BitVec.ofBool h).setWidth 8 = BitVec.ofNat 8 ((if h then 1 else 0) + 2 * l.toNat) := by decide
  rw [State.zoneBytes, bits]; rfl

end Sys2Proof.Machine

open Sys2Proof Sys2Proof.Machine

/-- Settles O11: the flags are those of the part as the frame was shifted in, with no response waiting. -/
theorem statusReadsTheSummary : Obligations.StatusReadsTheSummary := by
  intro s hs
  have idle : s.shiftFill 3 = { s with port := s.portIdle 3 } := State.shiftFill_eq s 3
  obtain ⟨exc, jam, full, halt, down, untr, resp⟩ := State.summary_bits { s with port := s.portIdle 3 }
  have taken : exec .status s = .next ((s.shiftFill 3).respond 0x04 ⟨.ok, (s.shiftFill 3).statusImage⟩) := by
    rw [exec]; exact hostCommand_taken hs 0x04 0 State.statusCommand
  refine ⟨State.summary { s with port := s.portIdle 3 }, (List.finRange Config.zones).flatMap s.zoneBytes, ?_, ?_, ?_, ?_,
    ?_, ?_, ?_, ?_, ?_, fun z => ?_⟩
  · rw [taken, idle]
    simp only [State.respond, State.withPort, State.readWith, State.portAfter, State.portIdle, State.portEnded,
      if_neg (State.not_abandoned hs)]
    rfl
  · rw [exc, State.excFlag_iff]
  · rw [jam, State.jamFlag_iff]; rfl
  · rw [full, State.fullFlag_iff]; rfl
  · rw [halt, State.haltFlag_iff]; rfl
  · rw [down, State.downFlag_iff]; rfl
  · rw [untr, State.untrFlag_iff]
  · rw [resp]
    have free : (s.portIdle 3).slot = .free := State.slot_of_takesCommand hs
    simp only [State.respFlag, free]
  · rw [funext s.zoneBytes_eq, List.length_flatMap]; rfl
  · obtain ⟨state, causes⟩ := getElem?_flatMap_pair (fun z => if s.zoneHalted z then 1 else 0)
      (fun z => BitVec.ofNat 8 ((if (s.zones.causes.get z).host then 1 else 0) + 2 * (s.zones.causes.get z).lines.toNat))
      (List.finRange Config.zones) z.val
    have place : (List.finRange Config.zones)[z.val]? = some z := by
      rw [List.getElem?_eq_getElem (by simp), List.getElem_finRange]; rfl
    rw [funext s.zoneBytes_eq]
    rw [place] at state causes
    exact ⟨state, causes⟩
end

section
/-! STATION_SET, SEGMENT_SET and ZONE_SET: what they write, and their refusals (R4, R6, R7). -/

-- One declaration at a time, which holds the text's memory down.
set_option Elab.async false

namespace Sys2Proof.Machine

/-! ### Codes and optional numbers -/

theorem StationType.ofCode_eq_some {b : Byte} {x : StationType} : StationType.ofCode b = some x ↔ b = x.code := by
  constructor
  · intro h
    unfold StationType.ofCode at h
    split at h <;> cases h <;> exact BitVec.eq_of_toNat_eq ‹_›
  · rintro rfl; cases x <;> rfl

theorem CheckLevel.ofCode_eq_some {b : Byte} {x : CheckLevel} : CheckLevel.ofCode b = some x ↔ b = x.code := by
  constructor
  · intro h
    unfold CheckLevel.ofCode at h
    split at h <;> cases h <;> exact BitVec.eq_of_toNat_eq ‹_›
  · rintro rfl; cases x <;> rfl

theorem SegmentKind.ofCode_eq_some {b : Byte} {x : SegmentKind} : SegmentKind.ofCode b = some x ↔ b = x.code := by
  constructor
  · intro h
    unfold SegmentKind.ofCode at h
    split at h <;> cases h <;> exact BitVec.eq_of_toNat_eq ‹_›
  · rintro rfl; cases x <;> rfl

theorem TimerPolicy.ofCode_eq_none {b : Byte} (h : 2 ≤ b.toNat) : TimerPolicy.ofCode b = none := by
  unfold TimerPolicy.ofCode
  split
  case h_3 => rfl
  all_goals omega

theorem StationType.code_lt (x : StationType) : x.code.toNat < 4 := by cases x <;> decide

theorem CheckLevel.code_lt (x : CheckLevel) : x.code.toNat < 3 := by cases x <;> decide

theorem SegmentKind.code_lt (x : SegmentKind) : x.code.toNat < 2 := by cases x <;> decide

/-- A byte read as an optional number: FFh for *none*, else the number. -/
theorem optIndex?_eq_some {n : Nat} {b : Byte} {x : Option (Fin n)} :
    optIndex? n b = some x ↔ (b = 0xFF ∧ x = none) ∨ (b ≠ 0xFF ∧ ∃ i : Fin n, b.toNat = i.val ∧ x = some i) := by
  by_cases hb : b = 0xFF
  · subst hb
    rw [show optIndex? n 0xFF = some none from optIndex?_noneByte n]
    simp [eq_comm]
  · rw [optIndex?_of_ne hb, Option.map_eq_some_iff]
    constructor
    · rintro ⟨i, hi, rfl⟩
      exact .inr ⟨hb, i, index?_eq_some hi, rfl⟩
    · rintro (⟨h, -⟩ | ⟨-, i, hi, rfl⟩)
      · exact absurd h hb
      · exact ⟨i, by rw [index?, dif_pos (hi ▸ i.isLt)]; simp [hi], rfl⟩

theorem optIndex?_isSome {n : Nat} {b : Byte} {x : Option (Fin n)} (h : optIndex? n b = some x) :
    b = 0xFF ↔ x = none := by
  rcases optIndex?_eq_some.mp h with ⟨hb, rfl⟩ | ⟨hb, i, -, rfl⟩
  · exact iff_of_true hb rfl
  · exact iff_of_false hb nofun

theorem optIndex?_lt {n : Nat} {b : Byte} {x : Option (Fin n)} (h : optIndex? n b = some x) (hb : b ≠ 0xFF) :
    b.toNat < n := by
  rcases optIndex?_eq_some.mp h with ⟨hb', -⟩ | ⟨-, i, hi, -⟩
  · exact absurd hb' hb
  · exact hi ▸ i.isLt

theorem index?_lt {w n : Nat} {b : BitVec w} {i : Fin n} (h : index? n b = some i) : b.toNat < n :=
  index?_eq_some h ▸ i.isLt

/-- The exits of a STATION_SET, place by place (R199). -/
theorem exitList?_eq_some {e0 e1 e2 : Byte} {l : List Segment} :
    exitList? e0 e1 e2 = some l ↔ l.length ≤ 3 ∧ optIndex? Config.segments e0 = some l[0]?
      ∧ optIndex? Config.segments e1 = some l[1]? ∧ optIndex? Config.segments e2 = some l[2]? := by
  constructor
  · intro h
    unfold exitList? at h
    split at h <;> cases h <;> simp_all
  · rintro ⟨hl, h0, h1, h2⟩
    unfold exitList?
    rw [h0, h1, h2]
    match l, hl with
    | [], _ | [_], _ | [_, _], _ | [_, _, _], _ => rfl
    | _ :: _ :: _ :: _ :: _, hl => exact absurd hl (by simp)

/-! ### STATION_SET -/

theorem exec_stationSet (p : StationSetParams) (s : State) :
    exec (.stationSet p) s = hostCommand 0x10 14 (·.stationSetCommand p) s := rfl

theorem State.stationSetCommand_notSetup (s : State) (p : StationSetParams) (h : s.map.device ≠ .setup) :
    s.stationSetCommand p = refuse s .notSetup := if_pos h

theorem State.stationSetCommand_written {s : State} {p : StationSetParams} {k : Station} {r : StationRecord}
    (hd : s.map.device = .setup) (hk : index? Config.stations p.station = some k) (hr : stationWritten? p = some r) :
    s.stationSetCommand p = accept (s.setStation k r) := by
  rw [State.stationSetCommand, if_neg (not_not.mpr hd), hk, hr]

theorem State.stationSetCommand_badParam {s : State} {p : StationSetParams} (hd : s.map.device = .setup)
    (h : 32 ≤ p.station.toNat ∨ stationWritten? p = none) : s.stationSetCommand p = refuse s .badParam := by
  rw [State.stationSetCommand, if_neg (not_not.mpr hd)]
  rcases h with h | h
  · rw [index?_eq_none.mpr h]
  · rw [h]
    cases index? Config.stations p.station <;> rfl

theorem stationWritten?_undefined {p : StationSetParams} (h : 4 ≤ p.type.toNat) : stationWritten? p = none := by
  cases ht : StationType.ofCode p.type with
  | none => simp only [stationWritten?, ht]
  | some type =>
    rw [StationType.ofCode_eq_some.mp ht] at h
    exact absurd type.code_lt (Nat.not_lt.mpr h)

theorem stationWritten?_unused {p : StationSetParams} (h : p.type = 0) : stationWritten? p = some .powerOn := by
  have ht : StationType.ofCode p.type = some .unused := StationType.ofCode_eq_some.mpr h
  simp only [stationWritten?, ht]

theorem stationWritten?_configured {p : StationSetParams} {type : StationType} (h : p.type = type.code)
    (hne : type ≠ .unused) : stationWritten? p = stationSetRecord? p type := by
  have ht := StationType.ofCode_eq_some.mpr h
  unfold stationWritten?
  rw [ht]
  cases type with
  | unused => exact absurd rfl hne
  | _ => rfl

/-- How many exits the bytes of a STATION_SET name. -/
theorem SpellsStation.count {p : StationSetParams} {type : StationType} {r : StationRecord} (h : SpellsStation p type r) :
    (if p.exit0 = 0xFF then 0 else 1) + (if p.exit1 = 0xFF then 0 else 1) + (if p.exit2 = 0xFF then 0 else 1)
      = r.exits.length := by
  obtain ⟨hl, h0, h1, h2⟩ := exitList?_eq_some.mp h.exits
  rw [if_congr (optIndex?_isSome h0) rfl rfl, if_congr (optIndex?_isSome h1) rfl rfl,
    if_congr (optIndex?_isSome h2) rfl rfl]
  match r.exits, hl with
  | [], _ | [_], _ | [_, _], _ | [_, _, _], _ => rfl
  | _ :: _ :: _ :: _ :: _, hl => exact absurd hl (by simp)

/-- Two exit bytes that name a segment name different ones. -/
theorem exits_differ {l : List Segment} (hn : l.Nodup) {i j : Nat} (hij : i ≠ j) {a b : Byte}
    (ha : optIndex? Config.segments a = some l[i]?) (hb : optIndex? Config.segments b = some l[j]?) (hne : a ≠ 0xFF) :
    a ≠ b := by
  rintro rfl
  rcases optIndex?_eq_some.mp ha with ⟨h, -⟩ | ⟨-, x, -, hx⟩
  · exact hne h
  · have hy : l[j]? = some x := by rw [ha] at hb; rw [← Option.some.inj hb]; exact hx
    obtain ⟨hi, -⟩ := List.getElem?_eq_some_iff.mp hx
    exact hij ((List.getElem?_inj hi hn).mp (hx.trans hy.symm))

/-- A STATION_SET whose parameters spell a record meets none of R4's refusals. -/
theorem SpellsStation.not_refused {p : StationSetParams} {type : StationType} {r : StationRecord}
    (h : SpellsStation p type r) (hp : p.type = type.code) :
    ¬ (8 ≤ p.zone.toNat ∨ 48 ≤ p.port0.toNat ∨ (p.port1 ≠ 0xFF ∧ 48 ≤ p.port1.toNat) ∨ p.port1 = p.port0
          ∨ (p.exit0 ≠ 0xFF ∧ 48 ≤ p.exit0.toNat) ∨ (p.exit1 ≠ 0xFF ∧ 48 ≤ p.exit1.toNat)
          ∨ (p.exit2 ≠ 0xFF ∧ 48 ≤ p.exit2.toNat)
          ∨ (p.exit0 = 0xFF ∧ (p.exit1 ≠ 0xFF ∨ p.exit2 ≠ 0xFF)) ∨ (p.exit1 = 0xFF ∧ p.exit2 ≠ 0xFF)
          ∨ (p.exit0 ≠ 0xFF ∧ (p.exit0 = p.exit1 ∨ p.exit0 = p.exit2)) ∨ (p.exit1 ≠ 0xFF ∧ p.exit1 = p.exit2)
          ∨ 3 ≤ p.checkLevel.toNat ∨ 8 ≤ p.skipLimit.toNat
          ∨ (r.exits.length = 0 ∧ p.defaultExit ≠ 0) ∨ (0 < r.exits.length ∧ r.exits.length ≤ p.defaultExit.toNat)
          ∨ (p.rejectExit ≠ 0xFF ∧ r.exits.length ≤ p.rejectExit.toNat) ∨ (p.type = 3 ∧ p.occupancyLimit ≠ 0)) := by
  obtain ⟨-, h0, h1, h2⟩ := exitList?_eq_some.mp h.exits
  obtain ⟨g, hg, -, hne⟩ := h.port0
  have dflt := index?_eq_some h.defaultExit
  have later : ∀ {i j : Nat}, i ≤ j → r.exits[i]? = none → r.exits[j]? = none := fun hij hi =>
    List.getElem?_eq_none (le_trans (List.getElem?_eq_none_iff.mp hi) hij)
  have follows : ∀ {a b : Byte} {i j : Nat}, optIndex? Config.segments a = some r.exits[i]? →
      optIndex? Config.segments b = some r.exits[j]? → i ≤ j → a = 0xFF → b = 0xFF := fun ha hb hij e =>
    (optIndex?_isSome hb).mpr (later hij ((optIndex?_isSome ha).mp e))
  simp only [not_or, not_and, Nat.not_le, not_not, ne_eq]
  refine ⟨index?_lt h.zone, index?_lt hg, optIndex?_lt h.port1, fun e => ?_, optIndex?_lt h0, optIndex?_lt h1,
    optIndex?_lt h2, fun e => ⟨follows h0 h1 (by decide) e, follows h0 h2 (by decide) e⟩, follows h1 h2 (by decide),
    fun e => ⟨exits_differ h.distinct (by decide) h0 h1 e, exits_differ h.distinct (by decide) h0 h2 e⟩,
    exits_differ h.distinct (by decide) h1 h2, ?_, ?_, fun hc => ?_, fun hc => ?_, fun e => ?_, fun ht => ?_⟩
  · have spelt := h.port1
    rw [e] at spelt
    rcases optIndex?_eq_some.mp spelt with ⟨hff, -⟩ | ⟨-, i, hi, hr⟩
    · rw [hff] at hg; exact absurd (index?_lt hg) (by decide)
    · exact hne (hr.trans (congrArg some (Fin.ext (hi.symm.trans (index?_eq_some hg)))))
  · rw [CheckLevel.ofCode_eq_some.mp h.checkLevel]; exact r.checkLevel.code_lt
  · obtain ⟨i, hi, -⟩ := Option.map_eq_some_iff.mp h.skipLimit
    exact index?_lt hi
  · rcases h.defaultBelow with hb | ⟨-, hz⟩
    · omega
    · rw [hz] at dflt; exact BitVec.eq_of_toNat_eq dflt
  · rcases h.defaultBelow with hb | ⟨he, -⟩
    · omega
    · rw [he] at hc; exact absurd hc (by decide)
  · rcases optIndex?_eq_some.mp h.rejectExit with ⟨hff, -⟩ | ⟨-, i, hi, hr⟩
    · exact absurd hff e
    · rw [hi]; exact h.rejectBelow i hr
  · have outlet : r.type = .outlet := by
      rw [h.type]
      rw [hp] at ht
      revert ht
      cases type <;> decide
    exact h.occupancyLimit.symm.trans (h.outlet outlet)

/-- The parameters that spell a record in its ranges spell it (R4, R199). -/
theorem spellsStation (k : Byte) {r : StationRecord} {g : Segment} (h0 : r.port0 = some g) (h1 : r.port1 ≠ some g)
    (distinct : r.exits.Nodup) (short : r.exits.length ≤ 3) (skip : r.skipLimit ≤ 7)
    (dflt : r.defaultExit.val < r.exits.length ∨ (r.exits = [] ∧ r.defaultExit = 0))
    (reject : ∀ e, r.rejectExit = some e → e.val < r.exits.length) (outlet : r.type = .outlet → r.occupancyLimit = 0) :
    SpellsStation
      { station := k, type := r.type.code, zone := byteNat r.zone.val, port0 := byteNat g.val
        port1 := indexByte r.port1, exit0 := indexByte r.exits[0]?, exit1 := indexByte r.exits[1]?
        exit2 := indexByte r.exits[2]?, checkLevel := r.checkLevel.code, skipLimit := byteNat r.skipLimit
        occupancyLimit := r.occupancyLimit, defaultExit := byteNat r.defaultExit.val
        rejectExit := indexByte r.rejectExit } r.type r where
  type := rfl
  zone := index?_byteNat (by decide) _
  port0 := ⟨g, index?_byteNat (by decide) _, h0, h1⟩
  port1 := optIndex?_indexByte (by decide) _
  exits := exitList?_eq_some.mpr ⟨short, optIndex?_indexByte (by decide) _, optIndex?_indexByte (by decide) _,
    optIndex?_indexByte (by decide) _⟩
  checkLevel := CheckLevel.ofCode_eq_some.mpr rfl
  skipLimit := by
    have : index? 8 (byteNat r.skipLimit) = some ⟨r.skipLimit, Nat.lt_succ_of_le skip⟩ :=
      index?_byteNat (by decide) (⟨r.skipLimit, Nat.lt_succ_of_le skip⟩ : Fin 8)
    rw [this]; rfl
  occupancyLimit := rfl
  defaultExit := index?_byteNat (by decide) _
  rejectExit := optIndex?_indexByte (by decide) _
  distinct := distinct
  defaultBelow := dflt
  rejectBelow := reject
  outlet := outlet

theorem State.freshCustody_powerOn (s : State) : s.freshCustody .powerOn = .idle := if_neg fun h => nomatch h.1

theorem State.freshCustody_configured (s : State) {r : StationRecord} (h : r.configured = true) :
    s.freshCustody r = if s.zoneHalted r.zone then .halted .idle else .idle := by
  simp only [State.freshCustody, h, true_and]

theorem StationRecord.configured_of_type {r : StationRecord} (h : r.type ≠ .unused) : r.configured = true :=
  bne_iff_ne.mpr h

/-! ### SEGMENT_SET and ZONE_SET -/

theorem exec_segmentSet (p : SegmentSetParams) (s : State) :
    exec (.segmentSet p) s = hostCommand 0x11 12 (·.segmentSetCommand p) s := rfl

theorem exec_zoneSet (z b : Byte) (s : State) : exec (.zoneSet z b) s = hostCommand 0x12 2 (·.zoneSetCommand z b) s := rfl

theorem State.segmentSetCommand_notSetup (s : State) (p : SegmentSetParams) (h : s.map.device ≠ .setup) :
    s.segmentSetCommand p = refuse s .notSetup := if_pos h

theorem State.segmentSetCommand_written {s : State} {p : SegmentSetParams} {g : Segment} {r : SegmentRecord}
    (hd : s.map.device = .setup) (hg : index? Config.segments p.segment = some g) (hr : segmentWritten? p = some r) :
    s.segmentSetCommand p = accept (s.withSegment g r) := by
  rw [State.segmentSetCommand, if_neg (not_not.mpr hd), hg, hr]

theorem State.segmentSetCommand_badParam {s : State} {p : SegmentSetParams} (hd : s.map.device = .setup)
    (h : 48 ≤ p.segment.toNat ∨ segmentWritten? p = none) : s.segmentSetCommand p = refuse s .badParam := by
  rw [State.segmentSetCommand, if_neg (not_not.mpr hd)]
  rcases h with h | h
  · rw [index?_eq_none.mpr h]
  · rw [h]
    cases index? Config.segments p.segment <;> rfl

theorem segmentWritten?_undefined {p : SegmentSetParams} (h : 2 ≤ p.use.toNat) : segmentWritten? p = none := by
  unfold segmentWritten?
  split
  case h_3 => rfl
  all_goals omega

theorem segmentWritten?_unused {p : SegmentSetParams} (h : p.use = 0) : segmentWritten? p = some .powerOn := by
  simp only [segmentWritten?, h]; rfl

theorem segmentWritten?_used {p : SegmentSetParams} (h : p.use = 1) : segmentWritten? p = segmentSetRecord? p := by
  simp only [segmentWritten?, h]; rfl

/-- A SEGMENT_SET whose parameters spell a record meets none of R6's refusals. -/
theorem SpellsSegment.not_refused {p : SegmentSetParams} {r : SegmentRecord} (h : SpellsSegment p r) :
    ¬ (2 ≤ p.kind.toNat ∨ (p.upStation ≠ 0xFF ∧ 32 ≤ p.upStation.toNat) ∨ (p.upExit ≠ 0xFF ∧ 3 ≤ p.upExit.toNat)
          ∨ 32 ≤ p.downStation.toNat ∨ 2 ≤ p.downPort.toNat
          ∨ (p.upStation = 0xFF ∧ p.upExit ≠ 0xFF) ∨ (p.upStation ≠ 0xFF ∧ p.upExit = 0xFF)
          ∨ (p.kind = 0 ∧ p.upStation = 0xFF) ∨ (p.kind = 1 ∧ p.upStation ≠ 0xFF)
          ∨ p.capacity = 0 ∨ 64 < p.capacity.toNat ∨ p.maxTransit = 0) := by
  have kind := SegmentKind.ofCode_eq_some.mp h.kind
  have station : p.upStation = 0xFF ↔ r.upstream = none := (optIndex?_isSome h.upStation).trans Option.map_eq_none_iff
  have exit : p.upExit = 0xFF ↔ r.upstream = none := (optIndex?_isSome h.upExit).trans Option.map_eq_none_iff
  have fed : r.upstream = none ↔ r.kind ≠ .conveyor := by
    rw [ne_eq, ← h.fed, Option.not_isSome_iff_eq_none]
  obtain ⟨d, q, hd, hq, -⟩ := h.downstream
  have range := h.capacityRange
  rw [h.capacity] at range
  simp only [not_or, not_and, Nat.not_le, Nat.not_lt, not_not, ne_eq]
  refine ⟨by rw [kind]; exact r.kind.code_lt, optIndex?_lt h.upStation, optIndex?_lt h.upExit, index?_lt hd, index?_lt hq,
    fun e => exit.mpr (station.mp e), fun e e' => e (station.mpr (exit.mp e')), fun e e' => ?_, fun e => ?_, fun e => ?_,
    range.2, h.maxTransit ▸ h.maxNonzero⟩
  · refine fed.mp (station.mp e') ?_
    rw [kind] at e; revert e; cases r.kind <;> decide
  · refine station.mpr (fed.mpr ?_)
    rw [kind] at e; revert e; cases r.kind <;> decide
  · rw [e] at range; exact absurd range.1 (by decide)

/-- The parameters that spell a segment record spell it (R6, R199). -/
theorem spellsSegment (k : Byte) {u : Station} {e : Exit} {d : Station} {q : Port} {r : SegmentRecord}
    (hu : r.upstream = if r.kind = .conveyor then some (u, e) else none) (hd : r.downstream = some (d, q))
    (h1 : 1 ≤ r.capacity) (h64 : r.capacity ≤ 64) (hm : r.maxTransit ≠ 0) :
    SpellsSegment
      { segment := k, use := 1, kind := r.kind.code
        upStation := if r.kind = .conveyor then byteNat u.val else 0xFF
        upExit := if r.kind = .conveyor then byteNat e.val else 0xFF
        downStation := byteNat d.val, downPort := byteNat q.val, capacity := byteNat r.capacity
        minTransit := r.minTransit, maxTransit := r.maxTransit }
      { r with minTransit := if r.kind = .staging then 0 else r.minTransit } where
  kind := SegmentKind.ofCode_eq_some.mpr rfl
  upStation := by
    show optIndex? _ (if r.kind = .conveyor then byteNat u.val else 0xFF) = some (r.upstream.map Prod.fst)
    rw [hu]
    split
    · exact optIndex?_indexByte (by decide) (some u)
    · exact optIndex?_noneByte _
  upExit := by
    show optIndex? _ (if r.kind = .conveyor then byteNat e.val else 0xFF) = some (r.upstream.map Prod.snd)
    rw [hu]
    split
    · exact optIndex?_indexByte (by decide) (some e)
    · exact optIndex?_noneByte _
  downstream := ⟨d, q, index?_byteNat (by decide) _, index?_byteNat (by decide) _, hd⟩
  fed := by
    show r.upstream.isSome = true ↔ _
    rw [hu]
    split
    · next h => exact iff_of_true rfl h
    · next h => exact iff_of_false nofun h
  capacity := (byteNat_toNat (Nat.lt_of_le_of_lt h64 (by decide))).symm
  capacityRange := ⟨h1, h64⟩
  minTransit := rfl
  maxTransit := rfl
  maxNonzero := hm

theorem State.zoneSetCommand_notSetup (s : State) (z b : Byte) (h : s.map.device ≠ .setup) :
    s.zoneSetCommand z b = refuse s .notSetup := if_pos h

theorem State.zoneSetCommand_written {s : State} (hd : s.map.device = .setup) (z : Zone) {b : Byte} {x : TimerPolicy}
    (hx : TimerPolicy.ofCode b = some x) :
    s.zoneSetCommand (byteNat z.val) b = accept (s.withMap { s.map with policies := s.map.policies.set z x }) := by
  rw [State.zoneSetCommand, if_neg (not_not.mpr hd), index?_byteNat (by decide), hx]

theorem State.zoneSetCommand_badParam {s : State} (hd : s.map.device = .setup) {z b : Byte}
    (h : 8 ≤ z.toNat ∨ 2 ≤ b.toNat) : s.zoneSetCommand z b = refuse s .badParam := by
  rw [State.zoneSetCommand, if_neg (not_not.mpr hd)]
  rcases h with h | h
  · rw [index?_eq_none.mpr h]
  · rw [TimerPolicy.ofCode_eq_none h]
    cases index? Config.zones z <;> rfl

end Sys2Proof.Machine

open Sys2Proof Sys2Proof.Machine

/-- Settles O13: a STATION_SET writes the record its parameters spell, and those that meet a refusal spell none. -/
theorem stationSetWritesTheRecord : Obligations.StationSetWritesTheRecord := by
  intro k s ht
  refine ⟨fun hd p => ?_, fun hd => ⟨fun p hp => ?_, fun p h1 h3 => ?_, fun p hk h0 => ?_,
    fun r g htype h0 h1 distinct short skip dflt reject outlet => ?_⟩⟩
  · rw [exec_stationSet]
    exact hostCommand_refused ht fun _ => State.stationSetCommand_notSetup _ p hd
  · rw [exec_stationSet]
    exact hostCommand_refused ht fun w => State.stationSetCommand_badParam (s := s.withPort w) hd (hp.imp_right stationWritten?_undefined)
  · intro count hp
    rw [exec_stationSet]
    refine hostCommand_refused ht fun w => State.stationSetCommand_badParam (s := s.withPort w) hd (.inr ?_)
    cases hw : stationWritten? p with
    | none => rfl
    | some r =>
      exfalso
      cases hc : StationType.ofCode p.type with
      | none => simp only [stationWritten?, hc] at hw; cases hw
      | some type =>
        have hcode := StationType.ofCode_eq_some.mp hc
        have hne : type ≠ .unused := by
          rintro rfl
          rw [hcode] at h1; exact absurd h1 (by decide)
        rw [stationWritten?_configured hcode hne] at hw
        have spelt := stationSetRecord?_eq_some.mp hw
        have hcount : count = r.exits.length := spelt.count
        rw [hcount] at hp
        exact spelt.not_refused hcode hp
  · have hk' : index? Config.stations p.station = some k := by rw [hk]; exact index?_station k
    rw [exec_stationSet, hostCommand_accepted (t := s.setStation k .powerOn) ht fun w =>
      State.stationSetCommand_written (s := s.withPort w) hd hk' (stationWritten?_unused h0)]
    have link : (s.linkOf k).reconfigure (s.configured k) StationRecord.powerOn.configured
        = if s.configured k = true then { s.linkOf k with state := .down, missCount := 0, accepted := none, slot := .empty }
          else s.linkOf k := by
      cases s.configured k <;> rfl
    simp only [State.setStation, link, State.freshCustody_powerOn]
    rfl
  · have hw : stationWritten? _ = some r :=
      (stationWritten?_configured rfl htype).trans
        (stationSetRecord?_eq_some.mpr (spellsStation (byteNat k.val) h0 h1 distinct short skip dflt reject outlet))
    rw [exec_stationSet, hostCommand_accepted (t := s.setStation k r) ht fun w =>
      State.stationSetCommand_written (s := s.withPort w) hd (index?_station k) hw]
    have configured := StationRecord.configured_of_type htype
    have link : (s.linkOf k).reconfigure (s.configured k) r.configured
        = if s.configured k = true then s.linkOf k
          else { s.linkOf k with state := .down, missCount := 0, accepted := none, slot := .empty } := by
      rw [configured]
      cases s.configured k <;> rfl
    simp only [State.setStation, link, State.freshCustody_configured s configured]
    rfl

/-- Settles O14, as O13 for the records of segments and zones. -/
theorem segmentAndZoneRecordsAreWritten : Obligations.SegmentAndZoneRecordsAreWritten := by
  intro s ht
  refine ⟨fun hd => ⟨fun p => ?_, fun z b => ?_⟩, fun hd => ⟨fun p hp => ?_, fun p hu hp => ?_, fun g p hg hu => ?_,
    fun g u e d q r hup hdown h1 h64 hm => ?_, fun z => ⟨?_, ?_⟩, fun z b h => ?_⟩⟩
  · rw [exec_segmentSet]
    exact hostCommand_refused ht fun _ => State.segmentSetCommand_notSetup _ p hd
  · rw [exec_zoneSet]
    exact hostCommand_refused ht fun _ => State.zoneSetCommand_notSetup _ z b hd
  · rw [exec_segmentSet]
    exact hostCommand_refused ht fun w => State.segmentSetCommand_badParam (s := s.withPort w) hd (hp.imp_right segmentWritten?_undefined)
  · rw [exec_segmentSet]
    refine hostCommand_refused ht fun w => State.segmentSetCommand_badParam (s := s.withPort w) hd (.inr ?_)
    rw [segmentWritten?_used hu]
    by_contra hw
    obtain ⟨r, hr⟩ := Option.ne_none_iff_exists'.mp hw
    exact (segmentSetRecord?_eq_some.mp hr).not_refused hp
  · have hg' : index? Config.segments p.segment = some g := by rw [hg]; exact index?_byteNat (by decide) g
    rw [exec_segmentSet, hostCommand_accepted (t := s.withSegment g .powerOn) ht fun w =>
      State.segmentSetCommand_written (s := s.withPort w) hd hg' (segmentWritten?_unused hu)]
    rfl
  · have hw := (segmentWritten?_used rfl).trans
      (segmentSetRecord?_eq_some.mpr (spellsSegment (byteNat g.val) hup hdown h1 h64 hm))
    rw [exec_segmentSet, hostCommand_accepted (t := s.withSegment g _) ht fun w =>
      State.segmentSetCommand_written (s := s.withPort w) hd (index?_byteNat (by decide) g) hw]
    rfl
  · rw [exec_zoneSet, hostCommand_accepted (t := s.withMap { s.map with policies := s.map.policies.set z .suspend }) ht
      fun w => State.zoneSetCommand_written (s := s.withPort w) hd z rfl]
    rfl
  · rw [exec_zoneSet, hostCommand_accepted (t := s.withMap { s.map with policies := s.map.policies.set z .restart }) ht
      fun w => State.zoneSetCommand_written (s := s.withPort w) hd z rfl]
    rfl
  · rw [exec_zoneSet]
    exact hostCommand_refused ht fun w => State.zoneSetCommand_badParam (s := s.withPort w) hd h
end

section
/-! STATION_TUNE and SEGMENT_TUNE: the fields given change, and their refusals (R17, R18). -/

-- One declaration at a time, which holds the text's memory down.
set_option Elab.async false

namespace Sys2Proof.Machine

/-- A change mask names no bit at or above the field count (R199). -/
theorem maskFits_iff (m : Byte) (n : Nat) : maskFits m n = true ↔ m.toNat < 2 ^ n := by
  rw [maskFits, beq_iff_eq, ← BitVec.toNat_inj, BitVec.toNat_ushiftRight, Nat.shiftRight_eq_div_pow]
  exact Nat.div_eq_zero_iff.trans (or_iff_right (Nat.two_pow_pos n).ne')

/-- A field given its new value, or kept. -/
theorem tuned_given {α : Type} {b : Bool} {new : Option α} {old x : α} (h : b = true → new = some x) :
    tuned b new old = some (if b then x else old) := by
  cases b with
  | false => rfl
  | true => exact h rfl

/-! ### STATION_TUNE -/

theorem exec_stationTune (p : StationTuneParams) (s : State) :
    exec (.stationTune p) s = hostCommand 0x14 8 (·.stationTuneCommand p) s := rfl

theorem State.stationTuneCommand_tuned {s : State} {p : StationTuneParams} {k : Station} {r : StationRecord}
    (hk : index? Config.stations p.station = some k) (hr : stationTuneRecord? p (s.station k) = some r) :
    s.stationTuneCommand p = accept (s.withStation k r) := by
  simp only [State.stationTuneCommand, hk, hr]

theorem State.stationTuneCommand_badParam {s : State} {p : StationTuneParams}
    (h : ∀ k, index? Config.stations p.station = some k → stationTuneRecord? p (s.station k) = none) :
    s.stationTuneCommand p = refuse s .badParam := by
  unfold State.stationTuneCommand
  cases hk : index? Config.stations p.station with
  | none => rfl
  | some k => simp only [h k hk]

/-- An exit given in range is read as it. -/
theorem givenExit {r : StationRecord} {b : Byte} {e : Exit} (hb : b = byteNat e.val) (he : e.val < r.exits.length) :
    (index? Config.exits b).filter (belowCount r) = some e := by
  rw [hb, index?_byteNat (by decide)]
  exact Option.filter_eq_some_iff.mpr ⟨rfl, decide_eq_true he⟩

theorem givenReject {r : StationRecord} {b : Byte} {x : Option Exit} (hb : b = indexByte x)
    (hx : ∀ e, x = some e → e.val < r.exits.length) :
    ((optIndex? Config.exits b).filter fun e => e.all (belowCount r)) = some x := by
  rw [hb, optIndex?_indexByte (by decide)]
  refine Option.filter_eq_some_iff.mpr ⟨rfl, ?_⟩
  cases x with
  | none => rfl
  | some e => exact decide_eq_true (hx e rfl)

/-- A STATION_TUNE that is taken meets none of R17's refusals. -/
theorem stationTuneRecord?_not_refused {p : StationTuneParams} {r r' : StationRecord}
    (h : stationTuneRecord? p r = some r') :
    ¬ (r.configured = false ∨ 32 ≤ p.mask.toNat
         ∨ (p.mask.getLsbD 0 = true ∧ 3 ≤ p.checkLevel.toNat) ∨ (p.mask.getLsbD 1 = true ∧ 8 ≤ p.skipLimit.toNat)
         ∨ (p.mask.getLsbD 3 = true ∧ r.exits.length ≤ p.defaultExit.toNat)
         ∨ (p.mask.getLsbD 4 = true ∧ p.rejectExit ≠ 0xFF ∧ r.exits.length ≤ p.rejectExit.toNat)
         ∨ (r.type = .outlet ∧ (p.mask.getLsbD 3 = true ∨ p.mask.getLsbD 4 = true
            ∨ (p.mask.getLsbD 2 = true ∧ p.occupancyLimit ≠ 0)))) := by
  obtain ⟨fits, configured, outlet, level, limit, occupancy, dflt, reject, hl, hs, -, hd, hj, -⟩ :=
    stationTuneRecord?_eq_some.mp h
  have taken : ∀ {α : Type} {b : Bool} {new : Option α} {old x : α}, tuned b new old = some x → b = true → new = some x :=
    fun ht hb => by rw [hb] at ht; exact ht
  simp only [not_or, not_and, Nat.not_le, ne_eq]
  refine ⟨by rw [configured]; nofun, (maskFits_iff p.mask 5).mp fits, fun hg => ?_, fun hg => ?_, fun hg => ?_,
    fun hg hne => ?_, fun ho => ⟨fun h3 => outlet ⟨ho, .inl h3⟩, fun h4 => outlet ⟨ho, .inr (.inl h4)⟩,
      fun h2 => not_not.mpr (by by_contra hz; exact outlet ⟨ho, .inr (.inr ⟨h2, hz⟩)⟩)⟩⟩
  · rw [CheckLevel.ofCode_eq_some.mp (taken hl hg)]; exact level.code_lt
  · obtain ⟨i, hi, -⟩ := Option.map_eq_some_iff.mp (taken hs hg)
    exact index?_lt hi
  · obtain ⟨hi, hb⟩ := Option.filter_eq_some_iff.mp (taken hd hg)
    rw [index?_eq_some hi]; exact of_decide_eq_true hb
  · obtain ⟨hi, hb⟩ := Option.filter_eq_some_iff.mp (taken hj hg)
    rcases optIndex?_eq_some.mp hi with ⟨hff, -⟩ | ⟨-, i, hval, rfl⟩
    · exact absurd hff hne
    · rw [hval]; exact of_decide_eq_true hb

/-! ### SEGMENT_TUNE -/

theorem exec_segmentTune (p : SegmentTuneParams) (s : State) :
    exec (.segmentTune p) s = hostCommand 0x15 7 (·.segmentTuneCommand p) s := rfl

theorem State.segmentTuneCommand_tuned {s : State} {p : SegmentTuneParams} {g : Segment} {r : SegmentRecord}
    (hg : index? Config.segments p.segment = some g) (hr : segmentTuneRecord? p (s.segment g) (s.depth g) = some r) :
    s.segmentTuneCommand p = accept (s.tuneSegment g r) := by
  simp only [State.segmentTuneCommand, hg, hr]

theorem State.segmentTuneCommand_badParam {s : State} {p : SegmentTuneParams}
    (h : ∀ g, index? Config.segments p.segment = some g → segmentTuneRecord? p (s.segment g) (s.depth g) = none) :
    s.segmentTuneCommand p = refuse s .badParam := by
  unfold State.segmentTuneCommand
  cases hg : index? Config.segments p.segment with
  | none => rfl
  | some g => simp only [h g hg]

/-- A segment tuned, with its room event where the capacity rises (R18, R61). -/
theorem State.tuneSegment_eq (s : State) (g : Segment) (r : SegmentRecord) :
    s.tuneSegment g r = { s with
      map := { s.map with segments := s.map.segments.set g r }
      tracker := { s.tracker with
        roomEvents := if (s.segment g).capacity < r.capacity then s.tracker.roomEvents ++ [g] else s.tracker.roomEvents } } := by
  unfold State.tuneSegment
  split
  · rfl
  · rfl

theorem State.tuneSegment_withPort (s : State) (g : Segment) (r : SegmentRecord) (p : HostPort) :
    (s.withPort p).tuneSegment g r = (s.tuneSegment g r).withPort p := by
  rw [State.tuneSegment_eq, State.tuneSegment_eq]; rfl

theorem SegmentRecord.used_iff (r : SegmentRecord) : r.used = true ↔ r.downstream ≠ none := Option.isSome_iff_ne_none

theorem byteNat_eq_zero {n : Nat} (h : n ≤ 255) : byteNat n = 0 ↔ n = 0 := by
  rw [← BitVec.toNat_inj, byteNat_toNat (Nat.lt_succ_of_le h)]; rfl

end Sys2Proof.Machine

open Sys2Proof Sys2Proof.Machine

/-- Settles O15, by what each tuning command accepts. -/
theorem tunesChangeGivenFields : Obligations.TunesChangeGivenFields := by
  refine ⟨fun k p s ht hk => ?_, fun s ht => ⟨fun p hp => ?_, fun p hp => ?_⟩, fun g m capacity low high s ht hc => ?_⟩
  · intro r m
    have hk' : index? Config.stations p.station = some k := by rw [hk]; exact index?_station k
    refine ⟨fun level skip dflt reject configured fits hlevel hskip hdflt hreject outlet => ?_, fun h => ?_⟩
    · have hr : stationTuneRecord? p (s.station k) = some { r with
          checkLevel := if m.getLsbD 0 then level else r.checkLevel
          skipLimit := if m.getLsbD 1 then skip else r.skipLimit
          occupancyLimit := if m.getLsbD 2 then p.occupancyLimit else r.occupancyLimit
          defaultExit := if m.getLsbD 3 then dflt else r.defaultExit
          rejectExit := if m.getLsbD 4 then reject else r.rejectExit } := by
        refine stationTuneRecord?_eq_some.mpr ⟨(maskFits_iff m 5).mpr fits, configured, ?_, _, _, _, _, _,
          tuned_given fun hg => CheckLevel.ofCode_eq_some.mpr (hlevel hg), tuned_given fun hg => ?_, tuned_given fun _ => rfl,
          tuned_given fun hg => givenExit (hdflt hg).1 (hdflt hg).2,
          tuned_given fun hg => givenReject (hreject hg).1 (hreject hg).2, rfl⟩
        · rintro ⟨ho, h3 | h4 | ⟨h2, hne⟩⟩
          · exact absurd (h3.symm.trans (outlet ho).1) nofun
          · exact absurd (h4.symm.trans (outlet ho).2.1) nofun
          · exact hne ((outlet ho).2.2 h2)
        · obtain ⟨hb, hle⟩ := hskip hg
          rw [hb, index?_byteNat (by decide) (⟨skip, Nat.lt_succ_of_le hle⟩ : Fin 8)]; rfl
      rw [exec_stationTune, hostCommand_accepted (t := s.withStation k _) ht fun w =>
        State.stationTuneCommand_tuned (s := s.withPort w) hk' hr]
      rfl
    · rw [exec_stationTune]
      refine hostCommand_refused ht fun w => State.stationTuneCommand_badParam (s := s.withPort w) fun j hj => ?_
      obtain rfl : k = j := Option.some.inj (hk'.symm.trans hj)
      by_contra hw
      obtain ⟨r', hr⟩ := Option.ne_none_iff_exists'.mp hw
      exact stationTuneRecord?_not_refused hr h
  · rw [exec_stationTune]
    refine hostCommand_refused ht fun w => State.stationTuneCommand_badParam (s := s.withPort w) fun j hj => ?_
    exact absurd (index?_lt hj) (Nat.not_lt.mpr hp)
  · rw [exec_segmentTune]
    refine hostCommand_refused ht fun w => State.segmentTuneCommand_badParam (s := s.withPort w) fun j hj => ?_
    exact absurd (index?_lt hj) (Nat.not_lt.mpr hp)
  · intro r p new
    have hg : index? Config.segments p.segment = some g := index?_byteNat (by decide) g
    have hcap : p.capacity.toNat = capacity := byteNat_toNat (Nat.lt_succ_of_le hc)
    have htuned : r.tunedBy p = new := by
      show SegmentRecord.tunedBy r p = _
      simp only [SegmentRecord.tunedBy, hcap]; rfl
    refine ⟨fun used fits room nonzero ordered => ?_, fun h => ?_⟩
    · have hr : segmentTuneRecord? p (s.segment g) (s.depth g) = some new := by
        refine segmentTuneRecord?_eq_some.mpr ⟨(maskFits_iff m 3).mpr fits, (SegmentRecord.used_iff _).mpr used, ?_, ?_, ?_,
          htuned.symm⟩
        · rintro ⟨h0, hz | hlt | hlt⟩
          · exact absurd (room h0).1 (by rw [(byteNat_eq_zero hc).mp hz]; decide)
          · exact absurd (room h0).2.1 (Nat.not_le.mpr (hcap ▸ hlt))
          · exact absurd (room h0).2.2 (Nat.not_le.mpr (hcap ▸ hlt))
        · exact fun ⟨h2, hz⟩ => nonzero h2 hz
        · rw [htuned]; exact fun ⟨hk, hlt⟩ => absurd (ordered hk) (Nat.not_le.mpr hlt)
      rw [exec_segmentTune, hostCommand_accepted (t := s.tuneSegment g new) ht fun w =>
        (State.segmentTuneCommand_tuned (s := s.withPort w) hg hr).trans (by rw [State.tuneSegment_withPort]),
        State.tuneSegment_eq]
    · rw [exec_segmentTune]
      refine hostCommand_refused ht fun w => State.segmentTuneCommand_badParam (s := s.withPort w) fun j hj => ?_
      obtain rfl : g = j := Option.some.inj (hg.symm.trans hj)
      by_contra hw
      obtain ⟨r', hr⟩ := Option.ne_none_iff_exists'.mp hw
      obtain ⟨fits, used, range, nonzero, ordered, -⟩ := segmentTuneRecord?_eq_some.mp hr
      rcases h with h | h | ⟨h0, h⟩ | ⟨h2, h⟩ | ⟨hk, h⟩
      · exact (SegmentRecord.used_iff _).mp used h
      · exact absurd ((maskFits_iff m 3).mp fits) (Nat.not_lt.mpr h)
      · refine range ⟨h0, ?_⟩
        rw [hcap]
        exact h.imp_left (byteNat_eq_zero hc).mpr
      · exact nonzero ⟨h2, h⟩
      · exact ordered ⟨hk, by rw [show (State.segment (s.withPort w) g).tunedBy p = new from htuned]; exact h⟩
end

section
/-! The reads: STATION_READ, SEGMENT_READ, SEGMENT_LIST and ROUTE_READ, block by block of their layouts (R19, R20, R125). -/

-- One declaration at a time, which holds the text's memory down.
set_option Elab.async false

namespace Sys2Proof.Machine

/-! ### Reading a layout block by block -/

section

variable {α : Type} {l block rest : List α} {n m : Nat}

/-- A block of a layout is read at its place, and the next one begins behind it. -/
theorem drop_block (h : l.drop n = block ++ rest) (hm : block.length = m) :
    (l.drop n).take m = block ∧ l.drop (n + m) = rest := by
  subst hm
  rw [← List.drop_drop, h]
  exact ⟨List.take_left, List.drop_left⟩

theorem drop_byte {x : α} (h : l.drop n = x :: rest) : l[n]? = some x ∧ l.drop (n + 1) = rest := by
  rw [← List.drop_drop, h, ← List.head?_drop, h]
  exact ⟨rfl, rfl⟩

/-- A layout ends behind its last block. -/
theorem length_of_drop (h : l.drop n = block) (hm : block.length = m) (h0 : 0 < m) : l.length = n + m := by
  have := congrArg List.length h
  rw [List.length_drop, hm] at this
  omega

end

/-! ### STATION_READ -/

theorem exec_stationRead (b : Byte) (s : State) : exec (.stationRead b) s = hostCommand 0x18 1 (·.stationReadCommand b) s := rfl

theorem State.stationReadCommand_station (s : State) (k : Station) :
    s.stationReadCommand (byteNat k.val) = accept s (s.stationImage k) := by
  simp only [State.stationReadCommand, index?_station]

theorem State.stationReadCommand_badParam (s : State) {b : Byte} (h : 32 ≤ b.toNat) :
    s.stationReadCommand b = refuse s .badParam := by
  rw [State.stationReadCommand, index?_eq_none.mpr h]

theorem State.optCarrierBytes_some (s : State) (c : Handle) : s.optCarrierBytes (some c) = s.nameOf c :=
  s.carrierBytes_eq_nameOf c

theorem State.custodyBytes_length (s : State) (k : Station) : (s.custodyBytes k).length = 11 := by
  unfold State.custodyBytes
  cases s.custodyOf k with
  | halted v => cases v <;> rfl
  | _ => rfl

theorem State.accountBytes_length (s : State) (k : Station) : (s.accountBytes k).length = 6 := rfl

/-- An outlet account as answers carry it (R200). -/
theorem State.accountBytes_eq (s : State) (k : Station) :
    s.accountBytes k = (s.outlet k).answer (if (s.station k).type = .outlet then s.inbound k else 0) := by
  have bits : ∀ a f c : Bool, (BitVec.ofBool a ++ BitVec.ofBool f ++ BitVec.ofBool c).setWidth 8
      = BitVec.ofNat 8 ((if c then 1 else 0) + (if f then 2 else 0) + if a then 4 else 0) := by decide
  have outlet : (if s.isOutlet k then s.inbound k else 0) = if (s.station k).type = .outlet then s.inbound k else 0 :=
    if_congr beq_iff_eq rfl rfl
  rw [State.accountBytes, OutletAccount.answer, bits, outlet]; rfl

theorem seqCodeBytes_length (a : Option SeqCode) : (seqCodeBytes a).length = 2 := by cases a <;> rfl

theorem DirectiveSlot.bytes_length (x : DirectiveSlot) : x.bytes.length = 4 := by cases x <;> rfl

/-! ### SEGMENT_READ and SEGMENT_LIST -/

theorem exec_segmentRead (b : Byte) (s : State) : exec (.segmentRead b) s = hostCommand 0x19 1 (·.segmentReadCommand b) s := rfl

theorem exec_segmentList (b k : Byte) (s : State) :
    exec (.segmentList b k) s = hostCommand 0x1A 2 (·.segmentListCommand b k) s := rfl

theorem index?_segment (g : Segment) : index? Config.segments (byteNat g.val) = some g := index?_byteNat (by decide) g

theorem State.segmentReadCommand_segment (s : State) (g : Segment) :
    s.segmentReadCommand (byteNat g.val) = accept s (s.segmentImage g) := by
  simp only [State.segmentReadCommand, index?_segment]

theorem State.segmentReadCommand_badParam (s : State) {b : Byte} (h : 48 ≤ b.toNat) :
    s.segmentReadCommand b = refuse s .badParam := by
  rw [State.segmentReadCommand, index?_eq_none.mpr h]

theorem State.segmentListCommand_segment (s : State) (g : Segment) {start : Byte} (h : start.toNat ≤ 63) :
    s.segmentListCommand (byteNat g.val) start
      = accept s ((((s.queue g).drop start.toNat).take 8).flatMap s.nameOf ++ [byteNat (s.queue g).length]) := by
  simp only [State.segmentListCommand, index?_segment, if_neg (Nat.not_lt.mpr h)]
  rw [show s.carrierBytes = s.nameOf from funext s.carrierBytes_eq_nameOf]

theorem State.segmentListCommand_badParam (s : State) {b start : Byte} (h : 48 ≤ b.toNat ∨ 64 ≤ start.toNat) :
    s.segmentListCommand b start = refuse s .badParam := by
  unfold State.segmentListCommand
  cases hg : index? Config.segments b with
  | none => rfl
  | some g => exact if_pos (h.resolve_left fun hb => absurd (index?_lt hg) (Nat.not_lt.mpr hb))

/-! ### ROUTE_READ -/

theorem exec_routeRead (b : Byte) (s : State) : exec (.routeRead b) s = hostCommand 0x28 1 (·.routeReadCommand b) s := rfl

theorem State.routeReadCommand_slot (s : State) (q : Slot) :
    s.routeReadCommand (byteNat q.val) = accept s (s.routeImage q) := by
  simp only [State.routeReadCommand, index?_slot]

theorem State.routeReadCommand_badParam (s : State) {b : Byte} (h : 32 ≤ b.toNat) :
    s.routeReadCommand b = refuse s .badParam := by
  rw [State.routeReadCommand, index?_eq_none.mpr h]

theorem stageBytes_length (x : Option Stage) : (stageBytes x).length = 5 := by cases x <;> rfl

/-- Blocks of one length, read at their places. -/
theorem flatMap_block {α β : Type} {f : α → List β} {m : Nat} (hf : ∀ x, (f x).length = m) (l : List α) {i : Nat}
    (hi : i < l.length) : ((l.flatMap f).drop (m * i)).take m = f l[i] := by
  induction l generalizing i with
  | nil => exact absurd hi (Nat.not_lt_zero _)
  | cons x l ih =>
    cases i with
    | zero => rw [Nat.mul_zero, List.drop_zero, List.flatMap_cons, ← hf x, List.take_left]; rfl
    | succ i =>
      have := ih (Nat.lt_of_succ_lt_succ hi)
      rw [List.flatMap_cons, Nat.mul_succ, Nat.add_comm, ← List.drop_drop]
      conv_lhs => rw [show m = (f x).length from (hf x).symm, List.drop_left, hf x]
      exact this

theorem length_flatMap_block {α β : Type} {f : α → List β} {m : Nat} (hf : ∀ x, (f x).length = m) (l : List α) :
    (l.flatMap f).length = m * l.length := by
  rw [List.length_flatMap, funext hf, List.map_const', List.sum_replicate, smul_eq_mul, Nat.mul_comm]

/-- The 49 bytes of a slot's program (R200). -/
def programBytes (x : Option Program) : List Byte :=
  match x with
  | none => List.replicate 49 0
  | some p => [byteNat p.stageCount, indexByte p.loopBase, byteNat p.lapLimit, indexByte p.exhaustStage]
      ++ p.stages.rows.flatMap stageBytes

theorem programBytes_length (x : Option Program) : (programBytes x).length = 49 := by
  cases x with
  | none => rfl
  | some p => rw [programBytes, List.length_append, length_flatMap_block stageBytes_length, p.stages.full]; rfl

theorem State.routeImage_eq (s : State) (q : Slot) :
    s.routeImage q = ([(s.slotOf q).state.code] ++ wordNat (s.slotOf q).bound)
      ++ (programBytes (s.slotOf q).state.program? ++ leBytes 8 (s.classBits q)) := by
  cases hp : (s.slotOf q).state.program? <;>
    simp only [State.routeImage, programBytes, hp, List.append_assoc] <;> rfl

/-- The class bits set by a list of classes. -/
theorem getLsbD_classBits (s : State) (q : Slot) (l : List Sys2Proof.Class) (acc : BitVec 64) (c : Sys2Proof.Class) :
    (l.foldl (fun (acc : BitVec 64) c => if s.routes.classes.get c = some q then acc ||| (1 <<< c.val : Nat) else acc) acc).getLsbD c.val = true
      ↔ acc.getLsbD c.val = true ∨ (c ∈ l ∧ s.routes.classes.get c = some q) := by
  induction l generalizing acc with
  | nil => simp
  | cons d l ih =>
    rw [List.foldl_cons, ih]
    have bit : (((1 <<< d.val : Nat)) : BitVec 64).getLsbD c.val = decide (d = c) := by
      rw [BitVec.natCast_eq_ofNat, BitVec.getLsbD_ofNat, Nat.one_shiftLeft, Nat.testBit_two_pow]
      simp only [show c.val < 64 from c.isLt, decide_true, Bool.true_and, Fin.ext_iff]
    split
    · next hq =>
      rw [BitVec.getLsbD_or, Bool.or_eq_true, bit, decide_eq_true_iff, List.mem_cons]
      constructor
      · rintro ((h | rfl) | h)
        · exact .inl h
        · exact .inr ⟨.inl rfl, hq⟩
        · exact .inr ⟨.inr h.1, h.2⟩
      · rintro (h | ⟨rfl | h, hc⟩)
        · exact .inl (.inl h)
        · exact .inl (.inr rfl)
        · exact .inr ⟨h, hc⟩
    · next hq =>
      refine or_congr_right ⟨fun h => ⟨List.mem_cons_of_mem _ h.1, h.2⟩, fun ⟨h, hc⟩ => ⟨?_, hc⟩⟩
      exact (List.mem_cons.mp h).resolve_left fun e => hq (e ▸ hc)

theorem State.classBits_iff (s : State) (q : Slot) (c : Sys2Proof.Class) :
    (s.classBits q).getLsbD c.val = true ↔ s.routes.classes.get c = some q := by
  rw [State.classBits, getLsbD_classBits]
  simp

end Sys2Proof.Machine

open Sys2Proof Sys2Proof.Machine

/-- Settles O16: the image is its blocks in their order. -/
theorem stationReadLayout : Obligations.StationReadLayout := by
  intro k s ht
  refine ⟨s.stationImage k, ?_, ?_⟩
  · rw [exec_stationRead]
    exact hostCommand_read ht fun w => State.stationReadCommand_station (s.withPort w) k
  have blocks : (s.stationImage k).drop 13 = s.custodyBytes k
      ++ (([(s.linkOf k).state.code, byteNat (s.untracked.get k)] ++ s.accountBytes k) ++ (s.linkOf k).bytes) := by
    show s.custodyBytes k ++ [_, _] ++ s.accountBytes k ++ _ = _
    simp only [List.append_assoc]
  obtain ⟨custody, d24⟩ := drop_block blocks (s.custodyBytes_length k)
  obtain ⟨account, d32⟩ := drop_block d24 (m := 8) rfl
  have link : (s.linkOf k).bytes = byteNat (s.linkOf k).missCount
      :: (BitVec.ofBool (s.linkOf k).slot.answering?.isSome ++ BitVec.ofBool (s.linkOf k).acknowledgement.isSome
        ++ BitVec.ofBool (s.linkOf k).accepted.isSome).setWidth 8
      :: ((seqCodeBytes (s.linkOf k).accepted ++ seqCodeBytes (s.linkOf k).acknowledgement)
        ++ ((s.linkOf k).slot.bytes ++ [(s.linkOf k).slot.answering?.getD 0, (s.linkOf k).lastNumber])) := by
    simp only [LinkRecord.bytes, List.append_assoc, List.cons_append, List.nil_append]
  rw [link] at d32
  obtain ⟨misses, d33⟩ := drop_byte d32
  obtain ⟨presence, d34⟩ := drop_byte d33
  obtain ⟨sequences, d38⟩ := drop_block d34 (m := 4) (by
    rw [List.length_append, seqCodeBytes_length, seqCodeBytes_length])
  obtain ⟨directive, d42⟩ := drop_block d38 ((s.linkOf k).slot.bytes_length)
  obtain ⟨answering, d43⟩ := drop_byte d42
  obtain ⟨last, -⟩ := drop_byte d43
  refine ⟨length_of_drop d43 (m := 1) rfl (by decide), rfl, custody.trans ?_, account.trans ?_, misses,
    sequences.trans ?_, directive.trans ?_, last, answering.trans ?_, presence.trans ?_⟩
  · unfold State.custodyBytes
    cases s.custodyOf k with
    | idle => rfl
    | occupied c | heldDwell c | heldBlocked c | jammed c =>
      simp only [Custody.occupant?, State.optCarrierBytes_some]; rfl
    | halted v =>
      cases v with
      | idle => rfl
      | occupied c | heldDwell c | heldBlocked c | jammed c =>
        simp only [Custody.occupant?, SavedCustody.occupant?, State.optCarrierBytes_some]; rfl
  · rw [State.accountBytes_eq]
  · cases (s.linkOf k).accepted <;> cases (s.linkOf k).acknowledgement <;> rfl
  · cases (s.linkOf k).slot <;> rfl
  · cases (s.linkOf k).slot <;> rfl
  · have bits : ∀ a b c : Bool, (BitVec.ofBool a ++ BitVec.ofBool b ++ BitVec.ofBool c).setWidth 8
        = BitVec.ofNat 8 ((if c then 1 else 0) + (if b then 2 else 0) + if a then 4 else 0) := by decide
    rw [bits]
    cases (s.linkOf k).slot <;> rfl

/-- Settles O17: the images are their blocks in their order. -/
theorem segmentAndRouteReads : Obligations.SegmentAndRouteReads := by
  refine ⟨fun g s ht => ?_, fun q s ht => ?_⟩
  · intro r named
    have hnamed : ∀ x, s.optCarrierBytes x = named x := fun x => by
      cases x with
      | none => rfl
      | some c => exact s.optCarrierBytes_some c
    refine ⟨?_, fun start hs => ?_, fun b start h => ?_, fun b h => ?_, fun b h => ?_⟩
    · rw [exec_segmentRead, hostCommand_read (d := s.segmentImage g) ht fun w =>
        State.segmentReadCommand_segment (s.withPort w) g]
      refine congrArg (fun d => Host.Outcome.next (s.readWith 0x19 1 d)) ?_
      rw [State.segmentImage, hnamed, hnamed, State.segmentZone]
      cases (s.segment g).upstream <;> cases (s.segment g).downstream <;> rfl
    · rw [exec_segmentList]
      exact hostCommand_read ht fun w => State.segmentListCommand_segment (s.withPort w) g hs
    · rw [exec_segmentList]
      exact hostCommand_refused ht fun w => State.segmentListCommand_badParam (s.withPort w) h
    · rw [exec_segmentRead]
      exact hostCommand_refused ht fun w => State.segmentReadCommand_badParam (s.withPort w) h
    · rw [exec_stationRead]
      exact hostCommand_refused ht fun w => State.stationReadCommand_badParam (s.withPort w) h
  · refine ⟨s.routeImage q, ?_, ?_⟩
    · rw [exec_routeRead]
      exact hostCommand_read ht fun w => State.routeReadCommand_slot (s.withPort w) q
    have image : (s.routeImage q).drop 0 = _ := s.routeImage_eq q
    obtain ⟨head, d3⟩ := drop_block (m := 3) image rfl
    obtain ⟨program, d52⟩ := drop_block d3 (programBytes_length _)
    refine ⟨length_of_drop d52 (m := 8) rfl (by decide), head.trans ?_, fun p hp => ?_, fun he => ?_,
      ⟨s.classBits q, d52, s.classBits_iff q⟩, fun b h => ?_⟩
    · cases (s.slotOf q).state <;> rfl
    · rw [hp] at d3
      obtain ⟨items, d7⟩ := drop_block (block := [byteNat p.stageCount, indexByte p.loopBase, byteNat p.lapLimit,
        indexByte p.exhaustStage]) (by rw [d3, programBytes, List.append_assoc]) (m := 4) rfl
      refine ⟨items, fun i => ?_⟩
      have hi : i.val < p.stages.rows.length := by rw [p.stages.full]; exact i.isLt
      have stages := length_flatMap_block stageBytes_length p.stages.rows
      rw [p.stages.full] at stages
      rw [← List.drop_drop, d7, List.drop_append_of_le_length (by rw [stages]; have := i.isLt; omega),
        List.take_append_of_le_length (by rw [List.length_drop, stages]; have := i.isLt; omega),
        flatMap_block stageBytes_length _ hi]
      show stageBytes (p.stages.get i) = _
      cases p.stages.get i <;> rfl
    · rw [he] at program; exact program
    · rw [exec_routeRead]
      exact hostCommand_refused ht fun w => State.routeReadCommand_badParam (s.withPort w) h
end

section
/-! QUERY and LOOKUP_TAG, DECISION_WRITE and DECISION_READ (R34, R37, R110, R111). -/

-- One declaration at a time, which holds the text's memory down.
set_option Elab.async false

namespace Sys2Proof.Machine

/-! ### The record image -/

theorem byteOf_setWidth {w v : Nat} (x : BitVec w) (k : Nat) (h : 8 * k + 8 ≤ v) :
    byteOf (x.setWidth v) k = byteOf x k := by
  refine BitVec.eq_of_getLsbD_eq fun i hi => ?_
  simp only [byteOf, BitVec.getLsbD_extractLsb', BitVec.getLsbD_setWidth, show 8 * k + i < v by omega, decide_true,
    Bool.true_and]

theorem byteOf_beyond {w : Nat} (x : BitVec w) (k : Nat) (h : w ≤ 8 * k) : byteOf x k = 0 := by
  refine BitVec.eq_of_getLsbD_eq fun i hi => ?_
  simp only [byteOf, BitVec.getLsbD_extractLsb', BitVec.getLsbD_of_ge x (8 * k + i) (by omega), Bool.and_false]
  simp

/-- A 2-byte field sent in the low bytes of a 4-byte one. -/
theorem leBytes_setWidth (x : BitVec 16) : leBytes 4 (x.setWidth 32) = leBytes 2 x ++ [0, 0] := by
  show [byteOf (x.setWidth 32) 0, byteOf (x.setWidth 32) 1, byteOf (x.setWidth 32) 2, byteOf (x.setWidth 32) 3]
    = [byteOf x 0, byteOf x 1, 0, 0]
  simp only [byteOf_setWidth (v := 32) x 0 (by decide), byteOf_setWidth (v := 32) x 1 (by decide),
    byteOf_setWidth (v := 32) x 2 (by decide), byteOf_setWidth (v := 32) x 3 (by decide), byteOf_beyond x 2 (by decide), byteOf_beyond x 3 (by decide)]

/-- The presence byte of a record, flag by flag (R199). -/
theorem CarrierRecord.presence_eq (r : CarrierRecord) :
    r.presence = BitVec.ofNat 8 ((if r.tag.isSome then 1 else 0) + (if r.cls.isSome then 2 else 0)
      + (if r.route.isSome then 4 else 0) + (if r.pendingRoute.isSome then 8 else 0)
      + (if r.lastSegment.isSome then 16 else 0) + (if r.sighting.isSome then 32 else 0)
      + (if r.exception.isSome then 64 else 0) + if r.window.isSome then 128 else 0) := by
  have bits : ∀ a b c d e f g h : Bool,
      BitVec.ofBool a ++ BitVec.ofBool b ++ BitVec.ofBool c ++ BitVec.ofBool d ++ BitVec.ofBool e ++ BitVec.ofBool f
        ++ BitVec.ofBool g ++ BitVec.ofBool h
      = BitVec.ofNat 8 ((if h then 1 else 0) + (if g then 2 else 0) + (if f then 4 else 0) + (if e then 8 else 0)
        + (if d then 16 else 0) + (if c then 32 else 0) + (if b then 64 else 0) + if a then 128 else 0) := by decide
  exact bits ..

theorem windowBytes_length (w : Option Window) : (windowBytes w).length = 9 := by
  cases w with
  | none => rfl
  | some w => cases w <;> rfl

theorem State.whereaboutsBytes_length (s : State) (h : Handle) : (s.whereaboutsBytes h).length = 4 := by
  simp only [State.whereaboutsBytes]
  split
  · rfl
  · rfl
  · split <;> rfl
  · split <;> rfl
  · rfl

/-- The route items of a record image. -/
def routeBytes (x : Option RouteRef) : List Byte :=
  match x with
  | some q => [byteNat q.slot.val, byteNat q.stage.val, byteNat q.laps]
  | none => [0, 0, 0]

/-- The sighting items of a record image. -/
def sightingBytes (x : Option Sighting) : List Byte :=
  match x with
  | some v => byteNat v.station.val :: leBytes 4 v.time
  | none => List.replicate 5 0

/-- The exception item of a record image. -/
def exceptionByte (x : Option ExceptionKind) : Byte :=
  match x with
  | some k => k.code
  | none => 0

theorem routeBytes_length (x : Option RouteRef) : (routeBytes x).length = 3 := by cases x <;> rfl

theorem sightingBytes_length (x : Option Sighting) : (sightingBytes x).length = 5 := by cases x <;> rfl

theorem Location.bytes_length (x : Location) : x.bytes.length = 2 := by cases x <;> rfl

/-- The record image, its blocks in their order (R37, R199). -/
theorem State.recordImage_eq (s : State) (h : Handle) :
    s.recordImage h = (s.nameOf h ++ [(s.record h).state.code, (s.record h).origin.code])
      ++ (s.record h).presence :: (leBytes 6 ((s.record h).tag.getD 0)
      ++ presentByte (s.record h).cls :: (routeBytes (s.record h).route
      ++ presentByte (s.record h).pendingRoute :: ((s.record h).location.bytes
      ++ presentByte (s.record h).lastSegment :: (sightingBytes (s.record h).sighting
      ++ (windowBytes (s.record h).window ++ (leBytes 2 (s.record h).flags.word
      ++ exceptionByte (s.record h).exception :: s.whereaboutsBytes h)))))) := by
  simp only [State.recordImage, State.carrierBytes_eq_nameOf, List.append_assoc, List.cons_append, List.nil_append,
    routeBytes, sightingBytes, exceptionByte] <;>
    rfl

/-- The position of a queued carrier (R45). -/
theorem idxOf?_append {α : Type} [DecidableEq α] {x : α} {l l' : List α} (h : x ∉ l) :
    (l ++ x :: l').idxOf? x = some l.length := by
  induction l with
  | nil => simp [List.idxOf?_cons]
  | cons y l ih =>
    obtain ⟨hy, hl⟩ := not_or.mp (List.mem_cons.not.mp h)
    rw [List.cons_append, List.idxOf?_cons, ih hl, if_neg (by simpa using Ne.symm hy)]; rfl

theorem State.whereaboutsBytes_queued {s : State} {h : Handle} {g : Segment} {ahead behind : List Handle}
    (hs : (s.record h).state.queued = true) (hl : (s.record h).location = .onSegment g)
    (hq : s.queue g = ahead ++ h :: behind) (hn : h ∉ ahead) :
    s.whereaboutsBytes h = [byteNat ahead.length, 0xFF, 0xFF, 0xFF] := by
  have position : s.position? g h = some ahead.length := by rw [State.position?, hq, idxOf?_append hn]
  simp only [State.whereaboutsBytes, hl]
  cases hstate : (s.record h).state with
  | staged | inTransit => simp only [position]; rfl
  | _ => rw [hstate] at hs; cases hs

theorem State.whereaboutsBytes_elsewhere {s : State} {h : Handle} (hq : (s.record h).state.queued = false)
    (hc : (s.record h).state.inCustody = false) : s.whereaboutsBytes h = [0xFF, 0xFF, 0xFF, 0xFF] := by
  simp only [State.whereaboutsBytes]
  cases hs : (s.record h).state with
  | free | lost | delivered => cases (s.record h).location <;> rfl
  | staged | inTransit => rw [hs] at hq; cases hq
  | atStation | held => rw [hs] at hc; cases hc

/-- The custody items of a carrier in custody: its station's state, hold and exit, saved or not. -/
theorem State.whereaboutsBytes_inCustody {s : State} {h : Handle} {k : Station}
    (hs : (s.record h).state.inCustody = true) (hl : (s.record h).location = .atStation k) :
    s.whereaboutsBytes h = match (s.custodyOf k).saved? with
      | some v => [noneByte, (s.custodyOf k).code, v.holdByte, indexByte v.exit?]
      | none => [noneByte, (s.custodyOf k).code, (s.custodyOf k).holdByte, indexByte (s.custodyOf k).exit?] := by
  simp only [State.whereaboutsBytes, hl]
  cases hstate : (s.record h).state with
  | atStation | held => rfl
  | _ => rw [hstate] at hs; cases hs

theorem exec_query (ref : CarrierRef) (s : State) : exec (.query ref) s = hostCommand 0x31 3 (·.queryCommand ref) s := rfl

theorem exec_lookupTag (t : Tag) (s : State) : exec (.lookupTag t) s = hostCommand 0x32 6 (·.lookupTagCommand t) s := rfl

theorem State.queryCommand_live (s : State) {h : Handle} (hl : (s.record h).state ≠ .free) :
    s.queryCommand (s.refTo h) = accept s (s.recordImage h) := by
  rw [State.queryCommand, s.checkRef_refTo hl]

theorem State.queryCommand_noSuchCarrier (s : State) {h : Handle} {n : Byte}
    (hn : (s.record h).state = .free ∨ n ≠ (s.record h).generation) :
    s.queryCommand ⟨BitVec.ofNat 16 h.val, n⟩ = refuse s .noSuchCarrier := by
  rw [State.queryCommand, s.checkRef_noSuchCarrier hn]

theorem State.queryCommand_badParam (s : State) {ref : CarrierRef} (h : 1024 ≤ ref.handle.toNat) :
    s.queryCommand ref = refuse s .badParam := by
  rw [State.queryCommand, s.checkRef_badParam h]

theorem State.lookupTagCommand_zero (s : State) : s.lookupTagCommand 0 = refuse s .badParam := if_pos rfl

theorem State.lookupTagCommand_found (s : State) {t : Tag} {h : Handle} (ht : t ≠ 0)
    (hl : TagIndex.lookup t s.tags = some h) :
    s.lookupTagCommand t = accept s (1 :: s.nameOf h ++ [(s.record h).state.code]) := by
  rw [State.lookupTagCommand, if_neg ht, hl, ← State.carrierBytes_eq_nameOf]

theorem State.lookupTagCommand_unknown (s : State) {t : Tag} (ht : t ≠ 0) (hl : TagIndex.lookup t s.tags = none) :
    s.lookupTagCommand t = accept s [0, 0xFF, 0xFF, 0xFF, 0xFF] := by
  rw [State.lookupTagCommand, if_neg ht, hl]; rfl

/-! ### Decision sets -/

theorem exec_decisionWrite (b n : Byte) {places : List EntryPlace} (h : places.length = 8) (s : State) :
    exec (.decisionWrite b n places) s = hostCommand 0x20 34 (·.decisionWriteCommand b n places) s := by
  rw [exec, execDecisionWrite, h]
  rfl

theorem exec_decisionRead (b : Byte) (s : State) :
    exec (.decisionRead b) s = hostCommand 0x21 1 (·.decisionReadCommand b) s := rfl

theorem index?_set (i : SetNo) : index? Config.sets (byteNat i.val) = some i := index?_byteNat (by decide) i

/-- A place that spells an entry is read as it (R199). -/
theorem entryOfPlace_spelled {e : DecisionEntry} {p : EntryPlace} (h : e.spelledBy p)
    (hb : ∀ a b, e.preference = .balance a b → a ≠ b) : entryOfPlace p = some e := by
  obtain ⟨hk, hpref⟩ := h
  refine entryOfPlace_eq_some.mpr ⟨by rw [hk]; exact index?_station _, ?_⟩
  cases hp : e.preference with
  | fixed a =>
    rw [hp] at hpref
    obtain ⟨hkind, ha⟩ := hpref
    exact ⟨by rw [hkind]; rfl, by rw [ha]; exact index?_byteNat (by decide) a⟩
  | balance a b =>
    rw [hp] at hpref
    obtain ⟨hkind, ha, hb'⟩ := hpref
    exact ⟨by rw [hkind]; rfl, by rw [ha]; exact index?_byteNat (by decide) a,
      by rw [hb']; exact index?_byteNat (by decide) b, hb a b hp⟩

theorem writtenEntries?_spelled {entries : List DecisionEntry} {written rest : List EntryPlace}
    (h : List.Forall₂ DecisionEntry.spelledBy entries written) (hlen : written.length + rest.length = 8)
    (nodup : (entries.map DecisionEntry.station).Nodup)
    (balanced : ∀ e a b, e ∈ entries → e.preference = .balance a b → a ≠ b) :
    writtenEntries? (byteNat entries.length) (written ++ rest) = some entries := by
  have length := h.length_eq
  have count : (byteNat entries.length).toNat = written.length := by
    rw [length]; exact byteNat_toNat (by omega)
  refine writtenEntries?_eq_some.mpr ⟨by rw [count]; show _ ≤ 8; omega, ?_, nodup⟩
  rw [count, List.take_left, mapM_eq_some]
  have spelled := (List.forall₂_and_left entries written).mpr
    ⟨(fun e he a b => balanced e a b he : ∀ e ∈ entries, ∀ a b, e.preference = .balance a b → a ≠ b), h⟩
  exact (spelled.imp fun e p ⟨hb, hs⟩ => entryOfPlace_spelled hs hb).flip

/-- The entries a DECISION_WRITE writes meet none of R110's refusals. -/
theorem writtenEntries?_not_refused {n : Byte} {places : List EntryPlace} {entries : List DecisionEntry}
    (h : writtenEntries? n places = some entries) :
    ¬ (8 < n.toNat ∨ ¬ ((places.take n.toNat).map EntryPlace.station).Nodup
        ∨ (∃ p ∈ places.take n.toNat, 32 ≤ p.station.toNat ∨ 3 ≤ p.exitA.toNat
        ∨ (p.kind ≠ 1 ∧ p.kind ≠ 2) ∨ (p.kind = 2 ∧ (3 ≤ p.exitB.toNat ∨ p.exitA = p.exitB)))) := by
  obtain ⟨hn, hm, nodup⟩ := writtenEntries?_eq_some.mp h
  have related := mapM_eq_some.mp hm
  have stations : List.Forall₂ (fun (p : EntryPlace) (e : DecisionEntry) => p.station.toNat = e.station.val)
      (places.take n.toNat) entries :=
    related.imp fun p e he => index?_eq_some (entryOfPlace_eq_some.mp he).1
  have numbers : ((places.take n.toNat).map EntryPlace.station).map BitVec.toNat
      = (entries.map DecisionEntry.station).map Fin.val := by
    rw [List.map_map, List.map_map, ← List.forall₂_eq_eq_eq, List.forall₂_map_left_iff, List.forall₂_map_right_iff]
    exact stations
  have read : ∀ p ∈ places.take n.toNat, ∃ e, entryOfPlace p = some e := fun p hp => by
    obtain ⟨i, hi, rfl⟩ := List.getElem_of_mem hp
    exact ⟨_, related.get hi (related.length_eq ▸ hi)⟩
  simp only [not_or, not_not, not_exists, not_and, Nat.not_le, Nat.not_lt]
  refine ⟨hn, ?_, fun p hp => ?_⟩
  · refine List.Nodup.of_map BitVec.toNat ?_
    rw [numbers]
    exact nodup.map Fin.val_injective
  · obtain ⟨e, he⟩ := read p hp
    obtain ⟨hk, hpref⟩ := entryOfPlace_eq_some.mp he
    cases hp : e.preference with
    | fixed a =>
      rw [hp] at hpref
      obtain ⟨hkind, ha⟩ := hpref
      have kind : p.kind = 1 := BitVec.eq_of_toNat_eq hkind
      exact ⟨index?_lt hk, index?_lt ha, fun h1 => absurd kind h1, fun h2 => by rw [kind] at h2; exact absurd h2 (by decide)⟩
    | balance a b =>
      rw [hp] at hpref
      obtain ⟨hkind, ha, hb, hne⟩ := hpref
      have kind : p.kind = 2 := BitVec.eq_of_toNat_eq hkind
      refine ⟨index?_lt hk, index?_lt ha, fun _ => kind, fun _ => ⟨index?_lt hb, fun e => hne ?_⟩⟩
      exact Fin.ext ((index?_eq_some ha).symm.trans ((congrArg BitVec.toNat e).trans (index?_eq_some hb)))

theorem State.decisionWriteCommand_written {s : State} {i : SetNo} {n : Byte} {places : List EntryPlace}
    {entries : List DecisionEntry} (hw : writtenEntries? n places = some entries) (hr : (s.setOf i).references = 0) :
    s.decisionWriteCommand (byteNat i.val) n places
      = accept (s.withSets (s.routes.sets.set i { entries, references := 0 })) := by
  have modified : (s.routes.sets.modify i fun d => { d with entries }) = s.routes.sets.set i { entries, references := 0 } := by
    refine Table.ext_get fun j => ?_
    rw [Table.get_modify, Table.get_set]
    split
    · next h => subst h; rw [← hr]; rfl
    · rfl
  simp only [State.decisionWriteCommand, index?_set, hw, hr, Nat.lt_irrefl, if_false, modified]

theorem State.decisionWriteCommand_inUse {s : State} {i : SetNo} {n : Byte} {places : List EntryPlace}
    {entries : List DecisionEntry} (hw : writtenEntries? n places = some entries) (hr : 0 < (s.setOf i).references) :
    s.decisionWriteCommand (byteNat i.val) n places = refuse s .inUse := by
  simp only [State.decisionWriteCommand, index?_set, hw, hr, if_true]

theorem State.decisionWriteCommand_badParam {s : State} {b n : Byte} {places : List EntryPlace}
    (h : 64 ≤ b.toNat ∨ writtenEntries? n places = none) : s.decisionWriteCommand b n places = refuse s .badParam := by
  unfold State.decisionWriteCommand
  rcases h with h | h
  · rw [index?_eq_none.mpr h]
  · rw [h]
    cases index? Config.sets b <;> rfl

theorem State.decisionReadCommand_set (s : State) (i : SetNo) :
    s.decisionReadCommand (byteNat i.val)
      = accept s ((s.setOf i).ascending.flatMap DecisionEntry.bytes ++ wordNat (s.setOf i).references) := by
  simp only [State.decisionReadCommand, index?_set]

theorem State.decisionReadCommand_badParam (s : State) {b : Byte} (h : 64 ≤ b.toNat) :
    s.decisionReadCommand b = refuse s .badParam := by
  rw [State.decisionReadCommand, index?_eq_none.mpr h]

theorem DecisionEntry.bytes_eq (e : DecisionEntry) :
    e.bytes = [e.place.station, e.place.kind, e.place.exitA, e.place.exitB] := by
  unfold DecisionEntry.bytes DecisionEntry.place
  cases e.preference <;> rfl

/-- The first entry for a station, of entries in ascending station order, station by station. -/
theorem filterMap_find?_ascending (l : List DecisionEntry) (h : l.Pairwise fun x y => x.station < y.station)
    (stations : List Station) (hs : stations.Pairwise (· < ·)) (hmem : ∀ e ∈ l, e.station ∈ stations) :
    (stations.filterMap fun st => l.find? fun e => e.station = st) = l := by
  induction stations generalizing l with
  | nil =>
    cases l with
    | nil => rfl
    | cons e l => exact absurd (hmem e List.mem_cons_self) List.not_mem_nil
  | cons st stations ih =>
    obtain ⟨above, hs⟩ := List.pairwise_cons.mp hs
    cases l with
    | nil => simp
    | cons e l =>
      obtain ⟨later, hl⟩ := List.pairwise_cons.mp h
      by_cases he : e.station = st
      · have rest : ∀ x ∈ l, x.station ∈ stations := fun x hx =>
          (List.mem_cons.mp (hmem x (List.mem_cons_of_mem _ hx))).resolve_left fun hst =>
            absurd (later x hx) (by rw [he, hst]; exact lt_irrefl _)
        have skip : (stations.filterMap fun st => (e :: l).find? fun x => x.station = st)
            = stations.filterMap fun st => l.find? fun x => x.station = st := by
          refine List.filterMap_congr fun k hk => ?_
          have hne : e.station ≠ k := fun hek => absurd (above k hk) (by rw [← hek, he]; exact lt_irrefl _)
          rw [List.find?_cons_of_neg (by simpa using hne)]
        rw [List.filterMap_cons_some (b := e) (by simp [he]), skip, ih l hl hs rest]
      · have he' : e.station ∈ stations := (List.mem_cons.mp (hmem e List.mem_cons_self)).resolve_left he
        have lt : st < e.station := above _ he'
        have absent : (e :: l).find? (fun x => x.station = st) = none := by
          refine List.find?_eq_none.mpr fun x hx hst => ?_
          have hst : x.station = st := of_decide_eq_true hst
          rcases List.mem_cons.mp hx with rfl | hx
          · exact he hst
          · exact absurd (lt.trans (later x hx)) (by rw [hst]; exact lt_irrefl _)
        simp only [List.filterMap_cons, absent]
        refine ih (e :: l) h hs fun x hx => (List.mem_cons.mp (hmem x hx)).resolve_left fun hst => ?_
        exact List.find?_eq_none.mp absent x hx (decide_eq_true hst)

/-- A set's entries in ascending station order (R111). -/
theorem DecisionSet.ascending_eq {d : DecisionSet} {entries : List DecisionEntry} (hp : entries.Perm d.entries)
    (ho : entries.Pairwise fun x y => x.station < y.station) : d.ascending = entries := by
  have unique : ∀ st, (d.entries.find? fun e => e.station = st) = entries.find? fun e => e.station = st := fun st => by
    have nodup : ∀ l : List DecisionEntry, (l.map DecisionEntry.station).Nodup →
        ∀ e, (l.find? fun e => e.station = st) = some e ↔ e ∈ l ∧ e.station = st := fun l hl e => by
      have hit : ∀ {x}, (l.find? fun e => e.station = st) = some x → x.station = st := fun h => by
        simpa using List.find?_some h
      refine ⟨fun h => ⟨List.mem_of_find?_eq_some h, hit h⟩, fun ⟨he, hst⟩ => ?_⟩
      have found : (l.find? fun e => e.station = st).isSome = true := List.find?_isSome.mpr ⟨e, he, decide_eq_true hst⟩
      obtain ⟨x, hx⟩ := Option.isSome_iff_exists.mp found
      rw [hx, List.inj_on_of_nodup_map hl (List.mem_of_find?_eq_some hx) he ((hit hx).trans hst.symm)]
    have distinct : (entries.map DecisionEntry.station).Nodup :=
      List.pairwise_map.mpr (ho.imp fun hlt => ne_of_lt hlt)
    refine Option.ext fun e => ?_
    rw [nodup _ ((hp.map _).nodup_iff.mp distinct), nodup _ distinct, hp.mem_iff]
  rw [DecisionSet.ascending]
  simp only [unique]
  exact filterMap_find?_ascending entries ho _ (List.pairwise_lt_finRange _) fun e _ => List.mem_finRange _

end Sys2Proof.Machine

open Sys2Proof Sys2Proof.Machine

/-- Settles O22: the record image is its blocks in their order, and the carrier's whereabouts by its state. -/
theorem queryAndLookupRead : Obligations.QueryAndLookupRead := by
  refine ⟨fun s ht => ⟨fun h hl => ⟨s.recordImage h, ?_, ?_⟩, fun h n hn => ?_, fun x n hx => ?_⟩,
    fun t s ht => ⟨fun h0 => ?_, fun h h0 hf => ?_, fun h0 hn => ?_⟩⟩
  · rw [exec_query]
    exact hostCommand_read ht fun w => State.queryCommand_live (s.withPort w) hl
  · have image : (s.recordImage h).drop 0 = _ := s.recordImage_eq h
    obtain ⟨head, d5⟩ := drop_block (m := 5) image rfl
    obtain ⟨presence, d6⟩ := drop_byte d5
    obtain ⟨tag, d12⟩ := drop_block (m := 6) d6 rfl
    obtain ⟨cls, d13⟩ := drop_byte d12
    obtain ⟨route, d16⟩ := drop_block d13 (routeBytes_length _)
    obtain ⟨waiting, d17⟩ := drop_byte d16
    obtain ⟨location, d19⟩ := drop_block d17 (Location.bytes_length _)
    obtain ⟨lastSegment, d20⟩ := drop_byte d19
    obtain ⟨sighting, d25⟩ := drop_block d20 (sightingBytes_length _)
    obtain ⟨window, d34⟩ := drop_block d25 (windowBytes_length _)
    obtain ⟨flags, d36⟩ := drop_block (m := 2) d34 rfl
    obtain ⟨exception, d37⟩ := drop_byte d36
    refine ⟨length_of_drop d37 (s.whereaboutsBytes_length h) (by decide), head, presence.trans ?_, tag, cls.trans ?_,
      route.trans ?_, waiting.trans ?_, location.trans ?_, lastSegment.trans ?_, sighting.trans ?_, window.trans ?_, flags,
      exception.trans ?_, fun g ahead behind hq hg hqueue hn => ?_, fun hq hc => ?_, fun k hc hk => ?_⟩
    · rw [CarrierRecord.presence_eq]
    · cases (s.record h).cls <;> rfl
    · cases (s.record h).route <;> rfl
    · cases (s.record h).pendingRoute <;> rfl
    · cases (s.record h).location <;> rfl
    · cases (s.record h).lastSegment <;> rfl
    · cases (s.record h).sighting <;> rfl
    · cases (s.record h).window with
      | none => rfl
      | some w =>
        cases w with
        | timed => rfl
        | remaining e d => simp only [leBytes_setWidth]; rfl
    · cases (s.record h).exception <;> rfl
    · exact d37.trans (State.whereaboutsBytes_queued hq hg hqueue hn)
    · exact d37.trans (State.whereaboutsBytes_elsewhere hq hc)
    · refine d37.trans ((State.whereaboutsBytes_inCustody hc hk).trans ?_)
      cases s.custodyOf k with
      | halted v => cases v <;> rfl
      | _ => rfl
  · rw [exec_query]
    exact hostCommand_refused ht fun w => State.queryCommand_noSuchCarrier (s.withPort w) hn
  · rw [exec_query]
    exact hostCommand_refused ht fun w => State.queryCommand_badParam (s.withPort w) hx
  · subst h0
    rw [exec_lookupTag]
    exact hostCommand_refused ht fun w => State.lookupTagCommand_zero (s.withPort w)
  · rw [exec_lookupTag]
    exact hostCommand_read ht fun w => State.lookupTagCommand_found (s.withPort w) h0 hf
  · rw [exec_lookupTag]
    exact hostCommand_read ht fun w => State.lookupTagCommand_unknown (s.withPort w) h0 hn

/-- Settles O43. -/
theorem decisionSetsAreWrittenAndRead : Obligations.DecisionSetsAreWrittenAndRead := by
  intro i s ht
  refine ⟨fun entries written rest hs hlen nodup balanced => ?_, fun b n places hlen h => ?_, fun entries hp ho => ?_,
    fun b h => ?_⟩
  · intro write
    have hw := writtenEntries?_spelled hs hlen nodup balanced
    have hlen : (written ++ rest).length = 8 := by rw [List.length_append, hlen]
    refine ⟨fun hr => ?_, fun hr => ?_⟩
    · rw [exec_decisionWrite _ _ hlen,
        hostCommand_accepted (t := s.withSets (s.routes.sets.set i { entries, references := 0 })) ht fun w =>
          State.decisionWriteCommand_written (s := s.withPort w) hw hr]
      rfl
    · rw [exec_decisionWrite _ _ hlen]
      exact hostCommand_refused ht fun w => State.decisionWriteCommand_inUse (s := s.withPort w) hw hr
  · rw [exec_decisionWrite _ _ hlen]
    refine hostCommand_refused ht fun w => State.decisionWriteCommand_badParam (s := s.withPort w) (h.imp_right fun h => ?_)
    by_contra hw
    obtain ⟨entries, hw⟩ := Option.ne_none_iff_exists'.mp hw
    exact writtenEntries?_not_refused hw h
  · rw [exec_decisionRead]
    have read := State.decisionReadCommand_set s i
    rw [DecisionSet.ascending_eq hp ho, funext DecisionEntry.bytes_eq] at read
    refine hostCommand_read ht fun w => ?_
    exact (State.decisionReadCommand_set (s.withPort w) i).trans (congrArg (fun x : State × Reply => (s.withPort w, x.2))
      ((State.decisionReadCommand_set s i).symm.trans read))
  · rw [exec_decisionRead]
    exact hostCommand_refused ht fun w => State.decisionReadCommand_badParam (s.withPort w) h
end

section
/-! START, STOP, FIND_EXCEPTION and the scan; RESET_TRACKING (R11, R16, R40, R41, R43). -/

-- One declaration at a time, which holds the text's memory down.
set_option Elab.async false

namespace Sys2Proof.Machine

/-! ### Long commands -/

/-- A long command that its block refuses leaves the code in the buffer and changes nothing else. -/
theorem longCommand_refusedWith {s : State} {code : Byte} {len : Nat} {block : State → State × Option Reply} {a : AnswerCode}
    (h : s.takesCommand = true) (hb : ∀ p, block (s.withPort p) = (s.withPort p, some { code := a })) :
    longCommand code len block s = .next (s.refusedWith code len a) := by
  rw [longCommand_refused h code len (hb _), State.refusedWith, State.portAfter]
  simp only [State.respond, State.withPort, if_neg (State.not_abandoned h), State.atFall_status]

theorem exec_findException (x : BitVec 16) (s : State) :
    exec (.findException x) s = longCommand 0x35 2 (·.findExceptionCommand x) s := rfl

theorem State.startCommand_setup (s : State) (h : s.map.device = .setup) :
    s.startCommand = ((s.withDevice .validating).beginLong .validation, none) := if_pos h

theorem State.startCommand_notSetup (s : State) (h : s.map.device ≠ .setup) :
    s.startCommand = (s, some { code := .notSetup }) := if_neg h

theorem State.findExceptionCommand_handle (s : State) (h : Handle) :
    s.findExceptionCommand (BitVec.ofNat 16 h.val) = (s.beginLong (.scan h), none) := by
  simp only [State.findExceptionCommand, index?_handle]

theorem State.findExceptionCommand_badParam (s : State) {x : BitVec 16} (h : 1024 ≤ x.toNat) :
    s.findExceptionCommand x = (s, some { code := .badParam }) := by
  simp only [State.findExceptionCommand, index?_eq_none.mpr h]

/-! ### STOP -/

theorem State.anyLive_iff (s : State) : s.anyLive = true ↔ ∃ h, (s.record h).state ≠ .free := by
  rw [State.anyLive, Table.any_rows]
  exact exists_congr fun h => bne_iff_ne

theorem exec_stop (s : State) : exec .stop s = hostCommand 0x02 0 State.stopCommand s := rfl

theorem State.stopCommand_notRunning (s : State) (h : s.map.device ≠ .running) : s.stopCommand = refuse s .notRunning :=
  if_pos h

theorem State.stopCommand_inUse (s : State) (h : s.map.device = .running) (hl : ∃ x, (s.record x).state ≠ .free) :
    s.stopCommand = refuse s .inUse := by
  rw [State.stopCommand, if_neg (not_not.mpr h), if_pos ((State.anyLive_iff s).mpr hl)]

theorem State.stopCommand_stops (s : State) (h : s.map.device = .running) (hf : ∀ x, (s.record x).state = .free) :
    s.stopCommand = accept (s.withDevice .setup) := by
  rw [State.stopCommand, if_neg (not_not.mpr h), if_neg fun hl => ((State.anyLive_iff s).mp hl).elim fun x hx => hx (hf x)]

/-! ### The exception scan (R40, R41) -/

theorem exec_scanExamine (s : State) : exec .scanExamine s = .next s.examine := rfl

theorem State.examine_idle {s : State} (h : ∀ x, s.port.slot ≠ .inFlight (.scan x)) : s.examine = s := by
  unfold State.examine
  split
  · next x hx => exact absurd hx (h x)
  · rfl

theorem State.examine_scan {s : State} {h : Handle} (hs : s.port.slot = .inFlight (.scan h)) :
    s.examine = match s.scanFound h with
      | some reply => s.respond 0x35 reply
      | none => if next : h.val + 1 < Config.handles then s.beginLong (.scan ⟨h.val + 1, next⟩)
          else s.respond 0x35 scanNone := by
  rw [State.examine, hs] <;> rfl

theorem State.scanFound_some {s : State} {h : Handle} {x : ExceptionKind} (hl : (s.record h).state ≠ .free)
    (hx : (s.record h).exception = some x) :
    s.scanFound h = some { code := .ok, data := 1 :: s.carrierBytes h ++ [(s.record h).state.code, x.code] } := by
  simp only [State.scanFound, hx]
  exact if_pos (bne_iff_ne.mpr hl)

theorem State.scanFound_none {s : State} {h : Handle}
    (hx : (s.record h).state = .free ∨ (s.record h).exception = none) : s.scanFound h = none := by
  rcases hx with hf | hn
  · simp only [State.scanFound, CarrierRecord.live, hf]
    cases (s.record h).exception <;> rfl
  · simp only [State.scanFound, hn]

/-! ### RESET_TRACKING (R43) -/

theorem exec_resetTracking (s : State) :
    exec .resetTracking s = hostCommand 0x03 0 State.resetTrackingCommand s := rfl

theorem State.usedZoneRunning_iff (s : State) :
    s.usedZoneRunning = true ↔ ∃ st, s.configured st = true ∧ s.zoneHalted (s.station st).zone = false := by
  simp only [State.usedZoneRunning, List.any_eq_true, List.mem_finRange, true_and, Bool.and_eq_true, Bool.not_eq_true']

theorem State.resetTrackingCommand_notRunning (s : State) (h : s.map.device ≠ .running) :
    s.resetTrackingCommand = refuse s .notRunning := if_pos h

theorem State.resetTrackingCommand_zoneRunning (s : State) (h : s.map.device = .running)
    (hz : ∃ st, s.configured st = true ∧ s.zoneHalted (s.station st).zone = false) :
    s.resetTrackingCommand = refuse s .zoneRunning := by
  rw [State.resetTrackingCommand, if_neg (not_not.mpr h), if_pos ((State.usedZoneRunning_iff s).mpr hz)]

theorem State.resetTrackingCommand_resets (s : State) (h : s.map.device = .running)
    (hz : ∀ st, s.configured st = true → s.zoneHalted (s.station st).zone = true) :
    s.resetTrackingCommand = accept s.resetTracking := by
  have none_runs : ¬ s.usedZoneRunning = true := fun hu => by
    obtain ⟨st, hc, hr⟩ := (State.usedZoneRunning_iff s).mp hu
    exact absurd (hz st hc) (by simp [hr])
  rw [State.resetTrackingCommand, if_neg (not_not.mpr h), if_neg none_runs]

theorem CarrierRecord.afterReset_eq (r : CarrierRecord) :
    r.afterReset = if r.state = .free then r else .free (r.generation + 1) := by
  unfold CarrierRecord.afterReset CarrierRecord.live
  cases r.state <;> rfl

/-- The references that the DRAINING slots held, slot by slot. -/
theorem State.drainingPrograms_uses (s : State) (i : SetNo) :
    (s.drainingPrograms.map fun p => p.uses i).sum
      = (s.routes.slots.rows.map fun r => match r.state with | .draining p => p.uses i | _ => 0).sum := by
  unfold State.drainingPrograms
  induction s.routes.slots.rows with
  | nil => rfl
  | cons r rows ih =>
    rw [List.filterMap_cons, List.map_cons, List.sum_cons, ← ih]
    cases r.state <;> simp only [List.map_cons, List.sum_cons, Nat.zero_add]

/-- What every block holds once tracking is reset. -/
theorem State.resetTracking_frame (s : State) :
    s.resetTracking = { s with
      carriers := s.resetTracking.carriers, tags := [], tracker := s.resetTracking.tracker
      custody := s.resetTracking.custody
      routes := { s.resetTracking.routes with classes := s.routes.classes }
      link := { s.link with records := s.resetTracking.link.records } } := by
  simp only [State.resetTracking, State.routesAfterReset]

end Sys2Proof.Machine

open Sys2Proof Sys2Proof.Machine

/-- Settles O19. -/
theorem startStopAndScan : Obligations.StartStopAndScan := by
  refine ⟨fun s ht => ⟨fun hd => ?_, fun hd => ?_, fun hd => ?_, fun hd hl => ?_, fun hd hf => ?_, fun h => ?_,
    fun x hx => ?_⟩, fun s => ⟨fun h => ?_, fun h hs => ⟨fun x hl hx => ?_, fun hx => ⟨fun n hn => ?_, fun hn => ?_⟩⟩⟩⟩
  · refine (longCommand_begun ht 0x01 0 (State.startCommand_setup (s.shiftFill 3) hd)).trans ?_
    rw [State.shiftFill_eq]; rfl
  · exact longCommand_refusedWith ht fun p => State.startCommand_notSetup (s.withPort p) hd
  · exact hostCommand_refused ht fun p => State.stopCommand_notRunning (s.withPort p) hd
  · exact hostCommand_refused ht fun p => State.stopCommand_inUse (s.withPort p) hd hl
  · exact hostCommand_accepted (t := s.withDevice .setup) ht fun p => State.stopCommand_stops (s.withPort p) hd hf
  · rw [exec_findException]
    refine (longCommand_begun ht 0x35 2 (State.findExceptionCommand_handle (s.shiftFill 5) h)).trans ?_
    rw [State.shiftFill_eq]; rfl
  · rw [exec_findException]
    exact longCommand_refusedWith ht fun p => State.findExceptionCommand_badParam (s.withPort p) hx
  · rw [exec_scanExamine, State.examine_idle h]
  · rw [exec_scanExamine, State.examine_scan hs, State.scanFound_some hl hx]; rfl
  · have inside : h.val + 1 < Config.handles := hn ▸ n.isLt
    obtain rfl : n = ⟨h.val + 1, inside⟩ := Fin.ext hn
    rw [exec_scanExamine, State.examine_scan hs, State.scanFound_none hx]
    simp only [dif_pos inside]; rfl
  · rw [exec_scanExamine, State.examine_scan hs, State.scanFound_none hx]
    have past : ¬ h.val + 1 < Config.handles := by rw [hn]; decide
    simp only [dif_neg past]; rfl

/-- Settles O20: every block of the reset, one after the other. -/
theorem resetTrackingForgetsEveryCarrier : Obligations.ResetTrackingForgetsEveryCarrier := by
  refine fun s ht => ⟨fun hd => ?_, fun hd hz => ?_, fun hd hz => ?_⟩
  · exact hostCommand_refused ht fun p => State.resetTrackingCommand_notRunning (s.withPort p) hd
  · exact hostCommand_refused ht fun p => State.resetTrackingCommand_zoneRunning (s.withPort p) hd hz
  · refine ⟨_, hostCommand_accepted (t := s.resetTracking) ht fun p =>
      State.resetTrackingCommand_resets (s.withPort p) hd hz, ?_, fun h => ?_, ?_, fun g => ?_, ?_, fun st => ?_, fun st => ?_,
      fun q => ?_, fun i => ?_⟩
    · rw [State.resetTracking_frame]
    · exact (Table.get_mapRows ..).trans (CarrierRecord.afterReset_eq _)
    · rfl
    · exact ⟨Table.get_fill _ g, Table.get_fill _ g, Table.get_fill _ g⟩
    · rfl
    · exact Table.get_mapRows ..
    · exact Table.get_mapRows ..
    · exact Table.get_mapRows ..
    · refine (Table.get_mapRows ..).trans ?_
      rw [State.drainingPrograms_uses]; rfl
end

section
/-! INDUCT and RETIRE (R28, R35, R36, R38); the windows of queued carriers, their expiry, and PURGE_SEGMENT (R49, R50, R56,
R58). -/

-- One declaration at a time, which holds the text's memory down.
set_option Elab.async false

namespace Sys2Proof.Machine

/-! ### The lowest FREE record (R21) -/

theorem State.lowestFree_eq_some {s : State} {h : Handle} (hf : (s.record h).state = .free)
    (hlow : ∀ j < h, (s.record j).state ≠ .free) : s.lowestFree = some h := by
  have free_iff : ∀ j, (!(s.record j).live) = true ↔ (s.record j).state = .free := fun j => by
    simp [CarrierRecord.live]
  cases hl : s.lowestFree with
  | none => exact absurd ((free_iff h).mpr hf) (Bool.eq_false_iff.mp (Table.first?_none _ _ hl h))
  | some x =>
    obtain ⟨hx, below⟩ := Table.first?_some _ _ hl
    rcases lt_trichotomy x h with hlt | rfl | hlt
    · exact absurd ((free_iff x).mp hx) (hlow x hlt)
    · rfl
    · exact absurd ((free_iff h).mpr hf) (Bool.eq_false_iff.mp (below h hlt))

theorem State.lowestFree_eq_none {s : State} (h : ∀ j, (s.record j).state ≠ .free) : s.lowestFree = none := by
  cases hl : s.lowestFree with
  | none => rfl
  | some x => exact absurd (State.free_of_lowestFree hl) (h x)

theorem State.exists_lowestFree {s : State} (h : ∃ j, (s.record j).state = .free) : ∃ x, s.lowestFree = some x := by
  obtain ⟨j, hj⟩ := h
  cases hl : s.lowestFree with
  | none => exact absurd (Table.first?_none _ _ hl j) (by simp only [CarrierRecord.live]; rw [← State.record, hj]; decide)
  | some x => exact ⟨x, rfl⟩

theorem State.hasRoom_eq_false (s : State) (g : Segment) : s.hasRoom g = false ↔ (s.segment g).capacity ≤ s.depth g := by
  rw [← Bool.not_eq_true, State.hasRoom_iff, Nat.not_lt]

/-! ### INDUCT (R35, R36) -/

theorem exec_induct (p : InductParams) (s : State) : exec (.induct p) s = hostCommand 0x30 9 (·.inductCommand p) s := rfl

/-- The record that an INDUCT leaves, its append included (R36). -/
theorem State.induct_eq (s : State) {g : Segment} {h : Handle} (hq : h ∉ s.queue g) (t : Tag) (c : Option Class) (q : Slot) :
    s.induct g h t c q = { s with
      carriers := { s.carriers with
        records := s.carriers.records.set h
          { generation := (s.record h).generation, state := .staged, origin := .inducted
            tag := if t = 0 then none else some t, cls := c, route := some ⟨q, 0, 0⟩, pendingRoute := none
            location := .onSegment g, lastSegment := some g, window := some (s.appendWindow g), sighting := none
            flags := {}, exception := none } }
      tags := if t = 0 then s.tags else TagIndex.add t h s.tags
      tracker := { s.tracker with queues := s.tracker.queues.set g (s.queue g ++ [h]) }
      routes := s.routesBinding q } := by
  have window : ∀ f, (s.modRecord h f).appendWindow g = s.appendWindow g := fun f =>
    State.appendWindow_congr g rfl rfl rfl rfl fun x hx => by
      rw [State.record_modRecord, if_neg fun e : h = x => hq (e ▸ hx)]
  simp only [State.induct, State.append_eq, window]
  simp only [State.modRecord_eq, State.record, Table.get_set_self, Table.set_set]
  by_cases ht : t = 0
  · simp only [if_pos ht]; rfl
  · simp only [if_neg ht]; rfl

theorem State.infeed?_byteNat (s : State) (k : Station) :
    s.infeed? (byteNat k.val) = if (s.station k).type = .infeed then (s.station k).port0 else none := by
  simp only [State.infeed?, index?_station]

theorem selector?_class (c : Class) : selector? 1 (byteNat c.val) = some (.cls c) := by
  show (index? Config.classes (byteNat c.val)).map Selector.cls = _
  rw [index?_byteNat (by decide)]; rfl

theorem selector?_slot (q : Slot) : selector? 2 (byteNat q.val) = some (.slot q) := by
  show (index? Config.slots (byteNat q.val)).map Selector.slot = _
  rw [index?_slot]; rfl

theorem selector?_eq_none {kind number : Byte}
    (h : (kind ≠ 1 ∧ kind ≠ 2) ∨ (kind = 1 ∧ 64 ≤ number.toNat) ∨ (kind = 2 ∧ 32 ≤ number.toNat)) :
    selector? kind number = none := by
  rcases h with ⟨h1, h2⟩ | ⟨rfl, hn⟩ | ⟨rfl, hn⟩
  · unfold selector?
    split
    · next e => exact absurd (BitVec.eq_of_toNat_eq e) h1
    · next e => exact absurd (BitVec.eq_of_toNat_eq e) h2
    · rfl
  · show (index? Config.classes number).map Selector.cls = none
    rw [index?_eq_none.mpr hn]; rfl
  · show (index? Config.slots number).map Selector.slot = none
    rw [index?_eq_none.mpr hn]; rfl

theorem State.inductCommand_notRunning (s : State) (p : InductParams) (h : s.map.device ≠ .running) :
    s.inductCommand p = refuse s .notRunning := if_pos h

theorem State.inductCommand_badParam (s : State) {p : InductParams} (hd : s.map.device = .running)
    (h : s.infeed? p.station = none ∨ selector? p.selector p.number = none) : s.inductCommand p = refuse s .badParam := by
  rw [State.inductCommand, if_neg (not_not.mpr hd)]
  rcases h with h | h <;> rw [h]
  cases s.infeed? p.station <;> rfl

section
variable {s : State} {p : InductParams} {g : Segment} {sel : Selector} {q : Slot} {program : Program}
  (hd : s.map.device = .running) (hg : s.infeed? p.station = some g) (hs : selector? p.selector p.number = some sel)
include hd hg hs

theorem State.inductCommand_duplicateTag (ht : p.tag ≠ 0) {h : Handle} (hl : TagIndex.lookup p.tag s.tags = some h) :
    s.inductCommand p = refuse s .duplicateTag := by
  rw [State.inductCommand, if_neg (not_not.mpr hd), hg, hs]
  exact if_pos ⟨ht, by rw [hl]; rfl⟩

/-- An INDUCT whose tag stands in no one's way goes by the slot its selector names. -/
theorem State.inductCommand_admitted (ht : p.tag = 0 ∨ TagIndex.lookup p.tag s.tags = none) :
    s.inductCommand p = match s.selected sel with
      | none => refuse s .classUnbound
      | some q =>
        match (s.slotOf q).state, s.lowestFree with
        | .active _, some h =>
          if s.hasRoom g then
            accept (s.induct g h p.tag sel.cls? q) ((s.induct g h p.tag sel.cls? q).carrierBytes h)
          else refuse s .segmentFull
        | .active _, none => refuse s .full
        | _, _ => refuse s .routeUnavailable := by
  have new : ¬ (p.tag ≠ 0 ∧ (TagIndex.lookup p.tag s.tags).isSome = true) := fun ⟨h0, hl⟩ => by
    rw [ht.resolve_left h0] at hl; cases hl
  rw [State.inductCommand, if_neg (not_not.mpr hd), hg, hs]
  exact if_neg new

variable (ht : p.tag = 0 ∨ TagIndex.lookup p.tag s.tags = none)
include ht

theorem State.inductCommand_classUnbound (hq : s.selected sel = none) : s.inductCommand p = refuse s .classUnbound := by
  rw [State.inductCommand_admitted hd hg hs ht, hq]

variable (hq : s.selected sel = some q)
include hq

theorem State.inductCommand_routeUnavailable (ha : ∀ program, (s.slotOf q).state ≠ .active program) :
    s.inductCommand p = refuse s .routeUnavailable := by
  rw [State.inductCommand_admitted hd hg hs ht, hq]
  cases hst : (s.slotOf q).state with
  | active x => exact absurd hst (ha x)
  | _ => simp only [hst]

variable (ha : (s.slotOf q).state = .active program)
include ha

theorem State.inductCommand_full (hf : s.lowestFree = none) : s.inductCommand p = refuse s .full := by
  rw [State.inductCommand_admitted hd hg hs ht, hq]
  simp only [ha, hf]

variable {h : Handle} (hf : s.lowestFree = some h)
include hf

theorem State.inductCommand_segmentFull (hr : s.hasRoom g = false) : s.inductCommand p = refuse s .segmentFull := by
  rw [State.inductCommand_admitted hd hg hs ht, hq]
  simp only [ha, hf, hr]
  rfl

theorem State.inductCommand_inducts (hr : s.hasRoom g = true) :
    s.inductCommand p
      = accept (s.induct g h p.tag sel.cls? q) ((s.induct g h p.tag sel.cls? q).carrierBytes h) := by
  rw [State.inductCommand_admitted hd hg hs ht, hq]
  simp only [ha, hf, hr]
  rfl

end

/-! ### RETIRE (R28, R38) -/

theorem exec_retire (ref : CarrierRef) (s : State) : exec (.retire ref) s = hostCommand 0x34 3 (·.retireCommand ref) s := rfl

theorem State.retireCommand_badParam (s : State) {ref : CarrierRef} (h : 1024 ≤ ref.handle.toNat) :
    s.retireCommand ref = refuse s .badParam := by
  rw [State.retireCommand, State.checkRef_badParam s h]

theorem State.retireCommand_noSuchCarrier (s : State) {c : Handle} {n : Byte}
    (h : (s.record c).state = .free ∨ n ≠ (s.record c).generation) :
    s.retireCommand ⟨BitVec.ofNat 16 c.val, n⟩ = refuse s .noSuchCarrier := by
  rw [State.retireCommand, State.checkRef_noSuchCarrier s h]

theorem State.retireCommand_wrongState (s : State) {c : Handle}
    (h : (s.record c).state = .inTransit ∨ (s.record c).state.inCustody = true) :
    s.retireCommand (s.refTo c) = refuse s .wrongState := by
  have live : (s.record c).state ≠ .free := h.elim (fun e => by rw [e]; decide) CarrierState.ne_free_of_inCustody
  have kept : (s.record c).state.retirable = false := h.elim (fun e => by rw [e]; rfl) fun hc =>
    Bool.eq_false_iff.mpr fun hr => Bool.eq_false_iff.mp (CarrierState.not_inCustody_of_retirable hr) hc
  rw [State.retireCommand, State.checkRef_refTo s live]
  simp only [kept]; rfl

theorem State.retireCommand_frees (s : State) {c : Handle} (h : (s.record c).state.retirable = true) :
    s.retireCommand (s.refTo c) = accept (s.freeRecord c) (s.nameOf c) := by
  have live : (s.record c).state ≠ .free := fun e => by rw [e] at h; cases h
  rw [State.retireCommand, State.checkRef_refTo s live]
  simp only [h, State.carrierBytes_eq_nameOf]; rfl

/-- The port has no part in the freeing of a record. -/
theorem State.freeRecord_withPort (s : State) (p : HostPort) (c : Handle) :
    (s.withPort p).freeRecord c = (s.freeRecord c).withPort p := by
  have route := State.unbindSlot?_congr s (s.withPort p) ((s.record c).route.map RouteRef.slot) rfl
  have routes := State.unbindSlot?_congr _ _ (s.record c).pendingRoute route
  have tracker : ((s.withPort p).extract c).tracker = (s.extract c).tracker := State.extract_congr c rfl rfl
  rw [State.freeRecord_eq, State.freeRecord_eq]
  simp only [State.record, State.withPort_carriers] at routes ⊢
  simp only [routes, tracker]
  rfl

/-! ### The window of an appended carrier (R49, R50) -/

theorem State.tailDeadline_empty {s : State} {g : Segment} (h : s.queue g = []) : s.tailDeadline g = none := by
  simp only [State.tailDeadline, h, List.getLast?_nil]

theorem State.tailDeadline_timed {s : State} {g : Segment} {h : Handle} {e d : Time} (hl : (s.queue g).getLast? = some h)
    (hw : (s.record h).window = some (.timed e d)) :
    s.tailDeadline g = if Time.isAfter s.lineTime d then some d else none := by
  simp only [State.tailDeadline, hl, hw]

theorem State.tailRemaining_empty {s : State} {g : Segment} (h : s.queue g = []) : s.tailRemaining g = 0 := by
  simp only [State.tailRemaining, h, List.getLast?_nil]

theorem State.tailRemaining_remaining {s : State} {g : Segment} {h : Handle} {e left : Ticks}
    (hl : (s.queue g).getLast? = some h) (hw : (s.record h).window = some (.remaining e left)) :
    s.tailRemaining g = left := by
  simp only [State.tailRemaining, hl, hw]

theorem State.appendWindow_suspended {s : State} {g : Segment} (h : s.segmentSuspended g = true) :
    s.appendWindow g = .remaining (s.segment g).minTransit
      (if (s.segment g).maxTransit.toNat < (s.tailRemaining g).toNat then s.tailRemaining g else (s.segment g).maxTransit) :=
  if_pos h

/-- The deadline given is the own one, unless a pending one of the tail lies later. -/
theorem State.appendWindow_running {s : State} {g : Segment} (h : s.segmentSuspended g = false) :
    s.appendWindow g = .timed (s.lineTime + (s.segment g).minTransit.setWidth 32)
      (((s.tailDeadline g).filter fun d => (s.segment g).maxTransit.toNat < (d - s.lineTime).toNat).getD
        (s.lineTime + (s.segment g).maxTransit.setWidth 32)) := by
  have own : (s.lineTime + (s.segment g).maxTransit.asTime - s.lineTime).toNat = (s.segment g).maxTransit.toNat := by
    rw [BitVec.add_comm, BitVec.add_sub_cancel, Ticks.asTime, BitVec.toNat_setWidth]
    exact Nat.mod_eq_of_lt (lt_trans (s.segment g).maxTransit.isLt (by decide))
  refine (if_neg (by rw [h]; decide)).trans ?_
  rw [own]
  cases s.tailDeadline g with
  | none => rfl
  | some d =>
    by_cases hd : (s.segment g).maxTransit.toNat < (d - s.lineTime).toNat
    · simp only [if_pos hd, Option.filter_some, decide_eq_true hd]; rfl
    · simp only [if_neg hd, Option.filter_some, decide_eq_false hd]; rfl

/-! ### TRANSIT_EXPIRY (R56) -/

theorem exec_transitExpiry (g : Segment) (s : State) : exec (.transitExpiry g) s = .next (s.expireHead g) := rfl

theorem State.expireHead_lost {s : State} {g : Segment} {c : Handle} {rest : List Handle} {e d : Time}
    (hq : s.queue g = c :: rest) (hw : (s.record c).window = some (.timed e d)) (hh : s.segmentHalted g = false)
    (hd : Time.isAfter s.lineTime d = false) :
    s.expireHead g = { s.takenFrom g rest with
      carriers :=
        { records := s.carriers.records.set c ((s.record c).lostBy .lostTimeout)
          exceptionCount := (s.record c).raised s.carriers.exceptionCount } } := by
  have expired : s.expiredHead g = some c := by
    simp only [State.expiredHead, hh, hq, List.head?_cons, hw, hd]; rfl
  simp only [State.expireHead, expired, State.makeLost_eq, State.dequeue, hq, List.erase_cons_head]
  rfl

theorem State.expireHead_none {s : State} {g : Segment}
    (h : s.queue g = [] ∨ s.segmentHalted g = true
      ∨ ∃ c rest e d, s.queue g = c :: rest ∧ (s.record c).window = some (.timed e d) ∧ Time.isAfter s.lineTime d = true) :
    s.expireHead g = s := by
  have standing : s.expiredHead g = none := by
    rcases h with hq | hh | ⟨c, rest, e, d, hq, hw, hd⟩
    · simp only [State.expiredHead, hq, List.head?_nil, ite_self]
    · simp only [State.expiredHead, hh, if_true]
    · simp only [State.expiredHead, hq, List.head?_cons, hw, hd, if_true, ite_self]
  simp only [State.expireHead, standing]

/-! ### PURGE_SEGMENT (R58) -/

theorem exec_purgeSegment (b : Byte) (s : State) :
    exec (.purgeSegment b) s = hostCommand 0x52 1 (·.purgeCommand b) s := rfl

theorem State.foldl_makeLost_withPort (k : ExceptionKind) (p : HostPort) (l : List Handle) (s : State) :
    l.foldl (fun s h => s.makeLost h k) (s.withPort p) = (l.foldl (fun s h => s.makeLost h k) s).withPort p := by
  induction l generalizing s with
  | nil => rfl
  | cons c l ih => exact ih (s.makeLost c k)

theorem State.purge_empty {s : State} {g : Segment} (h : s.queue g = []) : s.purge g = s.withQueue g [] := by
  simp only [State.purge, h]; rfl

theorem State.purge_nonempty {s : State} {g : Segment} (h : s.queue g ≠ []) :
    s.purge g = ((s.queue g).foldl (fun s h => s.makeLost h .lostPurged) (s.withQueue g [])).raiseRoomEvent g := by
  simp only [State.purge, if_neg h]

theorem State.purge_withPort (s : State) (p : HostPort) (g : Segment) :
    (s.withPort p).purge g = (s.purge g).withPort p := by
  by_cases hq : s.queue g = []
  · rw [State.purge_empty hq, State.purge_empty (s := s.withPort p) hq]; rfl
  · rw [State.purge_nonempty hq, State.purge_nonempty (s := s.withPort p) hq]
    exact congrArg (State.raiseRoomEvent · g) (State.foldl_makeLost_withPort .lostPurged p (s.queue g) (s.withQueue g []))

/-- A purge empties the queue, whose carriers become LOST. -/
theorem State.purge_eq (s : State) {g : Segment} (hn : (s.queue g).Nodup) :
    s.purge g = { s with
        carriers := (s.purge g).carriers
        tracker := { s.tracker with
          queues := s.tracker.queues.set g []
          roomEvents := if s.queue g = [] then s.tracker.roomEvents else s.tracker.roomEvents ++ [g] } }
      ∧ (s.purge g).carriers.exceptionCount
        = s.carriers.exceptionCount + (s.queue g).countP (fun h => (s.record h).exception.isNone)
      ∧ ∀ h, (s.purge g).record h = if h ∈ s.queue g then (s.record h).lostBy .lostPurged else s.record h := by
  obtain ⟨t, frame, count, records⟩ := State.makeLost_foldl (s.queue g) .lostPurged (s.withQueue g []) hn
  by_cases hq : s.queue g = []
  · rw [State.purge_empty hq]
    simp only [hq]
    exact ⟨rfl, rfl, fun h => rfl⟩
  · rw [State.purge_nonempty hq, frame]
    simp only [if_neg hq]
    exact ⟨rfl, count, records⟩

theorem State.purgeCommand_notRunning (s : State) (b : Byte) (h : s.map.device ≠ .running) :
    s.purgeCommand b = refuse s .notRunning := if_pos h

theorem State.purgeCommand_noSegment (s : State) {b : Byte} (hd : s.map.device = .running) (h : 48 ≤ b.toNat) :
    s.purgeCommand b = refuse s .badParam := by
  rw [State.purgeCommand, if_neg (not_not.mpr hd), index?_eq_none.mpr h]

theorem State.purgeCommand_badParam (s : State) {g : Segment} (hd : s.map.device = .running)
    (h : (s.segment g).downstream = none ∨ (s.segment g).kind = .staging) :
    s.purgeCommand (byteNat g.val) = refuse s .badParam := by
  rw [State.purgeCommand, if_neg (not_not.mpr hd), index?_byteNat (by decide)]
  refine if_pos (h.imp_left fun hu => ?_)
  rw [SegmentRecord.used, hu]; decide

section
variable {s : State} {g : Segment} {d : Station} {x : Port} (hd : s.map.device = .running)
  (hg : (s.segment g).downstream = some (d, x)) (hk : (s.segment g).kind = .conveyor)
include hd hg hk

/-- A used conveyor is purged where its zone is HALTED (R58). -/
theorem State.purgeCommand_conveyor :
    s.purgeCommand (byteNat g.val) = if s.zoneHalted (s.station d).zone = false then refuse s .zoneRunning
      else accept (s.purge g) [byteNat (s.queue g).length] := by
  have fits : ¬ (¬ (s.segment g).used = true ∨ (s.segment g).kind = .staging) := by
    simp [SegmentRecord.used, hg, hk]
  have zone : s.segmentHalted g = s.zoneHalted (s.station d).zone := by
    rw [State.segmentHalted, State.segmentZone, hg]; rfl
  rw [State.purgeCommand, if_neg (not_not.mpr hd), index?_byteNat (by decide)]
  refine (if_neg fits).trans ?_
  rw [zone]
  simp only [Bool.not_eq_true]

end

end Sys2Proof.Machine

open Sys2Proof Sys2Proof.Machine

/-- Settles O21. -/
theorem inductFillsARecord : Obligations.InductFillsARecord := by
  refine ⟨fun k g t c q p h s ht hd hk hg htag hc hq hf hlow hn hroom => ?_, fun p s ht => ⟨fun hd => ?_, fun hd =>
    ⟨fun hbad => ?_, fun k hp => ⟨fun hk => ?_, fun g hk hg c q hsel => ?_⟩⟩⟩⟩
  · have station : s.infeed? (byteNat k.val) = some g := by rw [State.infeed?_byteNat, if_pos hk, hg]
    have free := State.lowestFree_eq_some hf hlow
    have room := State.hasRoom_iff.mpr hroom
    have inducts : ∀ w, ((s.withPort w).induct g h t c q) = (s.induct g h t c q).withPort w := fun w => by
      rw [State.induct_eq s hn, State.induct_eq (s.withPort w) hn]; rfl
    have name : (s.induct g h t c q).carrierBytes h = s.nameOf h := by
      rw [State.carrierBytes_eq_nameOf, State.nameOf, State.induct_eq s hn]
      simp only [State.record, Table.get_set_self]; rfl
    have taken : ∀ (sel : Selector) (kind number : Byte), selector? kind number = some sel → sel.cls? = c →
        s.selected sel = some q → exec (.induct ⟨byteNat k.val, t, kind, number⟩) s
          = .next { s.induct g h t c q with port := s.portAfter 0x30 9 .ok (s.nameOf h) } := fun sel kind number hs hcls hsl => by
      rw [exec_induct, ← name]
      refine hostCommand_accepted ht fun w => ?_
      rw [State.inductCommand_inducts (s := s.withPort w) (p := ⟨byteNat k.val, t, kind, number⟩) hd station hs htag hsl hq
        free room, hcls, inducts w]
      rfl
    rw [State.induct_eq s hn] at taken
    cases c with
    | some x => exact taken (.cls x) 1 (byteNat x.val) (selector?_class x) rfl (hc x rfl)
    | none => exact taken (.slot q) 2 (byteNat q.val) (selector?_slot q) rfl rfl
  · rw [exec_induct]
    exact hostCommand_refused ht fun w => State.inductCommand_notRunning (s.withPort w) p hd
  · rw [exec_induct]
    refine hostCommand_refused ht fun w => State.inductCommand_badParam (s.withPort w) hd ?_
    refine hbad.imp (fun hst => ?_) selector?_eq_none
    simp only [State.infeed?, index?_eq_none.mpr hst]
  · rw [exec_induct]
    refine hostCommand_refused ht fun w => State.inductCommand_badParam (s.withPort w) hd (.inl ?_)
    rw [hp, State.infeed?_byteNat]
    exact if_neg hk
  · have station : s.infeed? p.station = some g := by rw [hp, State.infeed?_byteNat, if_pos hk, hg]
    have named : ∃ sel, selector? p.selector p.number = some sel ∧ s.selected sel = q := by
      cases c with
      | some x =>
        obtain ⟨h1, h2, h3⟩ := hsel
        exact ⟨.cls x, by rw [h1, h2, selector?_class], h3⟩
      | none =>
        obtain ⟨h1, x, h2, h3⟩ := hsel
        exact ⟨.slot x, by rw [h1, h2, selector?_slot], h3.symm⟩
    obtain ⟨sel, hs, hq⟩ := named
    refine ⟨fun h0 ⟨h, hl⟩ => ?_, fun htag => ⟨fun hnone => ?_, fun x hx => ?_⟩⟩
    · rw [exec_induct]
      exact hostCommand_refused ht fun w => State.inductCommand_duplicateTag (s := s.withPort w) hd station hs h0 hl
    · rw [exec_induct]
      exact hostCommand_refused ht fun w =>
        State.inductCommand_classUnbound (s := s.withPort w) hd station hs htag (hq.trans hnone)
    · have hsl := hq.trans hx
      refine ⟨fun ha => ?_, fun program ha => ⟨fun hfull => ?_, fun hfree hcap => ?_⟩⟩
      · rw [exec_induct]
        exact hostCommand_refused ht fun w =>
          State.inductCommand_routeUnavailable (s := s.withPort w) hd station hs htag hsl ha
      · rw [exec_induct]
        exact hostCommand_refused ht fun w =>
          State.inductCommand_full (s := s.withPort w) hd station hs htag hsl ha (State.lowestFree_eq_none hfull)
      · obtain ⟨y, hy⟩ := State.exists_lowestFree hfree
        rw [exec_induct]
        exact hostCommand_refused ht fun w => State.inductCommand_segmentFull (s := s.withPort w) hd station hs htag hsl ha hy
          ((s.hasRoom_eq_false g).mpr hcap)

/-- Settles O24. -/
theorem retireFreesTheRecord : Obligations.RetireFreesTheRecord := by
  intro c s ht r u
  have frees : r.state.retirable = true → exec (.retire (s.refTo c)) s
      = .next { s.freeRecord c with port := s.portAfter 0x34 3 .ok (s.nameOf c) } := fun h => by
    rw [exec_retire]
    refine hostCommand_accepted ht fun w => ?_
    rw [← State.freeRecord_withPort]
    exact State.retireCommand_frees (s.withPort w) h
  refine ⟨fun h => ?_, fun g hs hg => ?_, fun h => ?_, fun n h => ?_, fun x n h => ?_⟩
  · have elsewhere : (s.record c).state ≠ .staged := by rcases h with e | e <;> exact fun hs => by cases hs.symm.trans e
    rw [frees (h.elim (fun e => by rw [e]; rfl) fun e => by rw [e]; rfl), State.freeRecord_eq, if_neg elsewhere]
    rfl
  · have taken : (s.extract c).tracker = { s.tracker with
        queues := s.tracker.queues.set g ((s.queue g).erase c), roomEvents := s.tracker.roomEvents ++ [g] } := by
      rw [State.extract, show (s.record c).location = .onSegment g from hg]; rfl
    have staged : (s.record c).state = .staged := hs
    rw [frees (by rw [hs]; rfl), State.freeRecord_eq, if_pos staged, taken]
    rfl
  · rw [exec_retire]
    exact hostCommand_refused ht fun w => State.retireCommand_wrongState (s.withPort w) h
  · rw [exec_retire]
    exact hostCommand_refused ht fun w => State.retireCommand_noSuchCarrier (s.withPort w) h
  · rw [exec_retire]
    exact hostCommand_refused ht fun w => State.retireCommand_badParam (s.withPort w) h

/-- Settles O26. -/
theorem reachedDeadlineLosesTheHead : Obligations.ReachedDeadlineLosesTheHead := by
  intro g s
  refine ⟨fun c rest e d hq hw hh hd => ?_, fun h => ?_⟩
  · rw [exec_transitExpiry, State.expireHead_lost hq hw hh hd]
  · rw [exec_transitExpiry, State.expireHead_none h]

/-- Settles O29. -/
theorem purgeLosesTheWholeQueue : Obligations.PurgeLosesTheWholeQueue := by
  refine fun g s ht => ⟨fun hd b => ?_, fun hd => ⟨fun b hb => ?_, fun h => ?_, fun d x hg hk => ⟨fun hz => ?_, fun hz hn =>
    ?_⟩⟩⟩
  · rw [exec_purgeSegment]
    exact hostCommand_refused ht fun w => State.purgeCommand_notRunning (s.withPort w) b hd
  · rw [exec_purgeSegment]
    exact hostCommand_refused ht fun w => State.purgeCommand_noSegment (s.withPort w) hd hb
  · rw [exec_purgeSegment]
    exact hostCommand_refused ht fun w => State.purgeCommand_badParam (s.withPort w) hd h
  · rw [exec_purgeSegment]
    exact hostCommand_refused ht fun w =>
      (State.purgeCommand_conveyor (s := s.withPort w) hd hg hk).trans (if_pos hz)
  · obtain ⟨frame, count, records⟩ := State.purge_eq s hn
    have halted : ¬ s.zoneHalted (s.station d).zone = false := by rw [hz]; decide
    have purges : exec (.purgeSegment (byteNat g.val)) s
        = .next { s.purge g with port := s.portAfter 0x52 1 .ok [byteNat (s.queue g).length] } := by
      rw [exec_purgeSegment]
      refine hostCommand_accepted ht fun w => ?_
      rw [← State.purge_withPort]
      exact (State.purgeCommand_conveyor (s := s.withPort w) hd hg hk).trans (if_neg halted)
    exact ⟨_, purges, by rw [frame], count, records⟩

/-- Settles O30. -/
theorem appendedWindowsNeverOvertakeTheTail : Obligations.AppendedWindowsNeverOvertakeTheTail := by
  intro g s r own
  refine ⟨fun hs => ⟨fun hq => ?_, fun h e d hl hw => ?_⟩, fun hs => ⟨fun hq => ?_, fun h e left hl hw => ?_⟩⟩
  · rw [State.appendWindow_running hs, State.tailDeadline_empty hq]; rfl
  · rw [State.appendWindow_running hs, State.tailDeadline_timed hl hw]
    by_cases pending : Time.isAfter s.lineTime d = true
    · rw [if_pos pending, Option.filter_some]
      by_cases later : r.maxTransit.toNat < (d - s.lineTime).toNat
      · rw [if_pos (decide_eq_true later), if_pos ⟨pending, later⟩]; rfl
      · rw [if_neg fun h => later (of_decide_eq_true h), if_neg fun h => later h.2]; rfl
    · rw [if_neg pending, if_neg fun h => pending h.1]; rfl
  · rw [State.appendWindow_suspended hs, State.tailRemaining_empty hq]
    rw [if_neg (by simp)]
  · rw [State.appendWindow_suspended hs, State.tailRemaining_remaining hl hw]
end

section
/-! The events of the line: the grant of a room event (R62, R101), the end of dwells and occupancies (R98, R103); and how an
arrival is settled, with what each outcome removes and marks (R68 to R79). -/

-- One declaration at a time, which holds the text's memory down.
set_option Elab.async false

namespace Sys2Proof.Machine

/-! ### Room events granted (R62) -/

theorem exec_roomEventGrant (g : Segment) (s : State) : exec (.roomEventGrant g) s = .next (s.grant g) := rfl

theorem State.grant_absent {s : State} {g : Segment} (h : g ∉ s.tracker.roomEvents) : s.grant g = s :=
  if_neg (by simpa using h)

theorem State.grant_raised {s : State} {g : Segment} (h : g ∈ s.tracker.roomEvents) :
    s.grant g = State.grantRounds g Config.stations [] (s.withRoomEvents (s.tracker.roomEvents.erase g)) :=
  if_pos (by simpa using h)

theorem State.grantRounds_full {s : State} {g : Segment} (h : s.hasRoom g = false) (n : Nat) (woken : List Station) :
    State.grantRounds g n woken s = s := by
  cases n with
  | zero => rfl
  | succ n => rw [State.grantRounds, if_neg (by rw [h]; decide)]

theorem State.grantRounds_done {s : State} {g : Segment} {woken : List Station} (h : s.nextWaiter g woken = none) (n : Nat) :
    State.grantRounds g n woken s = s := by
  cases n with
  | zero => rfl
  | succ n => rw [State.grantRounds, h, ite_self]

theorem State.grantRounds_wakes {s : State} {g : Segment} {woken : List Station} {k : Station} (hr : s.hasRoom g = true)
    (hn : s.nextWaiter g woken = some k) (n : Nat) :
    State.grantRounds g (n + 1) woken s = State.grantRounds g n (k :: woken) (s.wake g k) := by
  rw [State.grantRounds, if_pos hr, hn]

theorem State.nextWaiter_eq_none {s : State} {g : Segment} {woken : List Station}
    (h : ∀ k ∈ s.waiterList g, (s.custodyOf k).isHalted = true ∨ k ∈ woken) : s.nextWaiter g woken = none := by
  refine List.find?_eq_none.mpr fun k hk => ?_
  rcases h k hk with hh | hw
  · simp [hh]
  · simp [hw]

/-- The oldest waiter that is not HALTED comes next. -/
theorem State.nextWaiter_eq_some {s : State} {g : Segment} {ahead behind : List Station} {k : Station}
    (hw : s.waiterList g = ahead ++ k :: behind) (ha : ∀ j ∈ ahead, (s.custodyOf j).isHalted = true)
    (hk : (s.custodyOf k).isHalted = false) : s.nextWaiter g [] = some k := by
  have past : ahead.find? (fun st => !(s.custodyOf st).isHalted && !([] : List Station).contains st) = none :=
    List.find?_eq_none.mpr fun j hj => by simp [ha j hj]
  rw [State.nextWaiter, hw, List.find?_append, past, Option.none_or, List.find?_cons_of_pos (by simp [hk])]

theorem State.wake_heldBlocked {s : State} {g : Segment} {k : Station} {c : Handle} {rest : List Station}
    (hc : s.custodyOf k = .heldBlocked c) (hw : (s.waiterList g).erase k = rest) :
    s.wake g k = (s.withWaiters g rest).redecide k c := by
  rw [State.wake, hw, show (s.withWaiters g rest).custodyOf k = .heldBlocked c from hc]

/-- `s` with one room event of a segment taken and the waiter list that a wake leaves. -/
def State.withWoken (s : State) (g : Segment) (w : List Station) : State :=
  (s.withRoomEvents (s.tracker.roomEvents.erase g)).withWaiters g w

/-- The first round of a grant wakes the oldest waiter that is not HALTED. -/
theorem State.grant_wakes {s : State} {g : Segment} {ahead behind : List Station} {k : Station} {c : Handle}
    (h : g ∈ s.tracker.roomEvents) (hw : s.waiterList g = ahead ++ k :: behind) (hk : k ∉ ahead)
    (ha : ∀ j ∈ ahead, (s.custodyOf j).isHalted = true) (hc : s.custodyOf k = .heldBlocked c)
    (hr : s.depth g < (s.segment g).capacity) :
    s.grant g = State.grantRounds g 31 [k] ((s.withWoken g (ahead ++ behind)).redecide k c) := by
  have left : (s.waiterList g).erase k = ahead ++ behind := by rw [hw, List.erase_append_right _ hk, List.erase_cons_head]
  have runs : (s.custodyOf k).isHalted = false := by rw [hc]; rfl
  have first := State.grantRounds_wakes (s := s.withRoomEvents (s.tracker.roomEvents.erase g)) (woken := [])
    (State.hasRoom_iff.mpr hr) (State.nextWaiter_eq_some hw ha runs) 31
  rw [State.grant_raised h]
  exact first.trans (congrArg _ (State.wake_heldBlocked (s := s.withRoomEvents _) hc left))

/-- Waiter lists have no part in a decision. -/
theorem State.decide_withTracker (s : State) (k : Station) (c : Handle) (x : SegmentTracker)
    (hq : x.queues = s.tracker.queues) (hr : x.reserved = s.tracker.reserved) :
    (s.withTracker x).decide k c = s.decide k c := State.decide_congr k c rfl rfl rfl rfl rfl hq hr

/-! ### Station timers (R98, R103) -/

theorem exec_dwellExpiry (k : Station) (s : State) : exec (.dwellExpiry k) s = .next (s.expireDwell k) := rfl

theorem exec_occupancyExpiry (k : Station) (s : State) : exec (.occupancyExpiry k) s = .next (s.expireOccupancy k) := rfl

theorem State.not_waiting {s : State} {k : Station} {x : Time} (hz : s.zoneHalted (s.station k).zone = false)
    (hx : Time.isAfter s.lineTime x = false) :
    ¬ (s.zoneHalted (s.station k).zone = true ∨ Time.isAfter s.lineTime x = true) := by
  rw [hz, hx]; decide

theorem State.expireDwell_reached {s : State} {k : Station} {c : Handle} {x : Time} (hc : s.custodyOf k = .heldDwell c x)
    (hz : s.zoneHalted (s.station k).zone = false) (hx : Time.isAfter s.lineTime x = false) :
    s.expireDwell k = s.redecide k c := by
  rw [State.expireDwell, hc]
  exact if_neg (State.not_waiting hz hx)

theorem State.expireDwell_idle {s : State} {k : Station} (h : ∀ c x, s.custodyOf k = .heldDwell c x →
    s.zoneHalted (s.station k).zone = true ∨ Time.isAfter s.lineTime x = true) : s.expireDwell k = s := by
  unfold State.expireDwell
  split
  · next c x hc => exact if_pos (h c x hc)
  · rfl

theorem State.expireOccupancy_reached {s : State} {k : Station} {c : Handle} {e : Exit} {x : Time}
    (hc : s.custodyOf k = .occupied c e (some x)) (hz : s.zoneHalted (s.station k).zone = false)
    (hx : Time.isAfter s.lineTime x = false) : s.expireOccupancy k = s.withCustody k (.jammed c e) := by
  rw [State.expireOccupancy, hc]
  exact if_neg (State.not_waiting hz hx)

theorem State.expireOccupancy_idle {s : State} {k : Station} (h : ∀ c e x, s.custodyOf k = .occupied c e (some x) →
    s.zoneHalted (s.station k).zone = true ∨ Time.isAfter s.lineTime x = true) : s.expireOccupancy k = s := by
  unfold State.expireOccupancy
  split
  · next c e x hc => exact if_pos (h c e x hc)
  · rfl

/-! ### Settling an arrival (R68 to R79) -/

theorem State.early_timed {s : State} {c : Handle} {e d : Time} (h : (s.record c).window = some (.timed e d)) :
    s.early c = Time.isAfter s.lineTime e := by
  rw [State.early, h]

theorem State.dueHead.not_early {s : State} {g : Segment} {c : Handle} {rest : List Handle} (h : s.dueHead g c rest) :
    s.early c = false := by
  unfold State.early
  split
  · next e d hw => exact h.2 e d hw
  · rfl

theorem State.headOf_cons {s : State} {g : Segment} {c : Handle} {rest : List Handle} (h : s.queue g = c :: rest) :
    s.headOf (some g) = some c := by
  rw [State.headOf, Option.bind_some, h, List.head?_cons]

theorem State.headOf_empty {s : State} {g : Segment} (h : s.queue g = []) : s.headOf (some g) = none := by
  rw [State.headOf, Option.bind_some, h, List.head?_nil]

section
variable {s : State} {k : Station} {g : Option Segment} {t : Tag}

theorem State.resolve_byPosition (h : s.byPosition k t) : s.resolve k g t = s.positionPath g := by
  rcases h with h | ⟨h, h0⟩
  · rw [State.resolve, h]
  · rw [State.resolve, h]
    exact if_pos h0

theorem State.resolve_strict (h : (s.station k).checkLevel = .strict) (h0 : t = 0) : s.resolve k g t = .stranger none := by
  rw [State.resolve, h]
  exact if_pos h0

theorem State.resolve_byTag (h : (s.station k).checkLevel ≠ .off) (h0 : t ≠ 0) : s.resolve k g t = s.tagPath k g t := by
  unfold State.resolve
  split
  · next ho => exact absurd ho h
  · exact if_neg h0
  · exact if_neg h0

theorem State.tagPath_known {x : Handle} (h : TagIndex.lookup t s.tags = some x) : s.tagPath k g t = s.knownTag k g x := by
  rw [State.tagPath, h]

theorem State.tagPath_unknown (h : TagIndex.lookup t s.tags = none) : s.tagPath k g t = s.unknownTag g t := by
  rw [State.tagPath, h]

theorem State.positionPath_head {c : Handle} (h : s.headOf g = some c) (he : s.early c = false) :
    s.positionPath g = .bind c .position := by
  rw [State.positionPath, h]
  exact if_neg (by rw [he]; decide)

theorem State.positionPath_stranger (h : ∀ c, s.headOf g = some c → s.early c = true) :
    s.positionPath g = .stranger none := by
  unfold State.positionPath
  split
  · next c hc => exact if_pos (h c hc)
  · rfl

theorem State.unknownTag_learns {c : Handle} (h : s.headOf g = some c) (hn : (s.record c).tag = none)
    (he : s.early c = false) : s.unknownTag g t = .bind c (.tagLearning t) := by
  rw [State.unknownTag, h]
  exact if_pos ⟨hn, by rw [he]; decide⟩

theorem State.unknownTag_stranger (h : ∀ c, s.headOf g = some c → (s.record c).tag = none → s.early c = true) :
    s.unknownTag g t = .stranger (some t) := by
  unfold State.unknownTag
  split
  · next c hc => exact if_neg fun ⟨hn, he⟩ => he (h c hc hn)
  · rfl

variable {x : Handle}

theorem CarrierState.eq_of_queued {x : CarrierState} (h : x.queued = true) : x = .staged ∨ x = .inTransit := by
  cases x <;> revert h <;> decide

theorem CarrierState.eq_of_inCustody {x : CarrierState} (h : x.inCustody = true) : x = .atStation ∨ x = .held := by
  cases x <;> revert h <;> decide

theorem State.knownTag_elsewhere (hq : (s.record x).state.queued = true) (h : (g.bind fun g => s.position? g x) = none) :
    s.knownTag k g x = .bind x .misrouteTake := by
  rcases CarrierState.eq_of_queued hq with hs | hs <;> simp only [State.knownTag, hs, h]

theorem State.knownTag_head (hq : (s.record x).state.queued = true) (h : (g.bind fun g => s.position? g x) = some 0) :
    s.knownTag k g x = .bind x .tagMatch := by
  rcases CarrierState.eq_of_queued hq with hs | hs <;> simp only [State.knownTag, hs, h]

theorem State.knownTag_behind {j : Nat} (hq : (s.record x).state.queued = true)
    (h : (g.bind fun g => s.position? g x) = some (j + 1)) :
    s.knownTag k g x = if j + 1 ≤ (s.station k).skipLimit then .bind x (.skip (j + 1)) else .bind x .extraction := by
  rcases CarrierState.eq_of_queued hq with hs | hs <;> simp only [State.knownTag, hs, h]

theorem State.knownTag_lost (hs : (s.record x).state = .lost) :
    s.knownTag k g x
      = if g.isSome ∧ (s.record x).lastSegment = g then .bind x .lateRecovery else .bind x .misrouteTake := by
  simp only [State.knownTag, hs]

theorem State.knownTag_stranger (h : (s.record x).state.inCustody = true ∨ (s.record x).state = .delivered) :
    s.knownTag k g x = .stranger none := by
  rcases h with h | hs
  · rcases CarrierState.eq_of_inCustody h with hs | hs <;> simp only [State.knownTag, hs]
  · simp only [State.knownTag, hs]

end

/-! ### Removals and marks (R72 to R77) -/

theorem State.takeFromEntry_some (s : State) (g : Segment) (c : Handle) :
    s.takeFromEntry (some g) c = s.takenFrom g ((s.queue g).erase c) := rfl

/-- A skip to a carrier loses those ahead and leaves those behind. -/
theorem State.skipTo_eq {s : State} {g : Segment} {ahead behind : List Handle} {c : Handle}
    (hq : s.queue g = ahead ++ c :: behind) :
    s.skipTo g ahead.length
      = (ahead.foldl (fun s h => s.makeLost h .lostSkipped) (s.withQueue g behind)).raiseRoomEvent g := by
  have taken : (ahead ++ c :: behind).take ahead.length = ahead := List.take_left
  have left : (ahead ++ c :: behind).drop (ahead.length + 1) = behind := by
    rw [← List.drop_drop, List.drop_left, List.drop_one, List.tail_cons]
  rw [State.skipTo, hq, taken, left]

end Sys2Proof.Machine

open Sys2Proof Sys2Proof.Machine

/-- Settles O27. -/
theorem stationTimersEndDwellsAndJam : Obligations.StationTimersEndDwellsAndJam := by
  refine ⟨fun k s => ⟨fun c x hc hz hx => ⟨fun e g hd hg => ?_, fun g hd => ?_⟩, fun h => ?_⟩,
    fun k s => ⟨fun c e x hc hz hx => ?_, fun h => ?_⟩⟩
  · rw [exec_dwellExpiry, State.expireDwell_reached hc hz hx, State.redecide_toExit hd hg]
  · rw [exec_dwellExpiry, State.expireDwell_reached hc hz hx, State.redecide_blocked hd]
  · rw [exec_dwellExpiry, State.expireDwell_idle h]
  · rw [exec_occupancyExpiry, State.expireOccupancy_reached hc hz hx]; rfl
  · rw [exec_occupancyExpiry, State.expireOccupancy_idle h]

/-- Settles O25, round by round of the grant. -/
theorem grantWakesTheWaiter : Obligations.GrantWakesTheWaiter := by
  refine ⟨fun g s => ⟨fun h => ?_, fun h => ?_⟩, fun g ahead behind k c e s h hw hk ha hc hr hd he => ?_⟩
  · rw [exec_roomEventGrant, State.grant_absent h]
  · intro u
    refine ⟨fun hn => ?_, fun k c hw hc hr => ?_⟩
    · rw [exec_roomEventGrant, State.grant_raised h]
      rcases hn with hfull | hhalted
      · exact congrArg _ (State.grantRounds_full (s := u) ((s.hasRoom_eq_false g).mpr hfull) _ _)
      · exact congrArg _ (State.grantRounds_done (s := u) (State.nextWaiter_eq_none fun k hk => .inl (hhalted k hk)) _)
    · intro v decision
      have first : exec (.roomEventGrant g) s = .next (State.grantRounds g 31 [k] (v.redecide k c)) :=
        congrArg _ (State.grant_wakes (ahead := []) h hw nofun nofun hc hr)
      have fresh : v.decide k c = decision := State.decide_withTracker s k c v.tracker rfl rfl
      have emptied : v.waiterList g = [] := Table.get_set_self ..
      refine ⟨fun e g' hd hg => ?_, fun g' hd => ?_⟩
      · have directed := State.redecide_toExit (s := v) (fresh.symm ▸ hd) hg
        rw [fresh] at directed
        rw [first, directed]
        refine congrArg _ (State.grantRounds_done (State.nextWaiter_eq_none fun j hj => ?_) _)
        cases emptied ▸ (show j ∈ v.waiterList g from hj)
      · have blocked := State.redecide_blocked (s := v) (fresh.symm ▸ hd)
        rw [fresh] at blocked
        rw [first, blocked]
        refine congrArg _ (State.grantRounds_done (State.nextWaiter_eq_none fun j hj => .inr ?_) _)
        have waiters : (v.blockedOn k c (s.record c) decision g' s.link).waiterList g
            = if g' = g then v.waiterList g' ++ [k] else v.waiterList g := Table.get_set ..
        have hj' := waiters ▸ hj
        split at hj'
        · next heq => simpa [heq, emptied] using hj'
        · rw [emptied] at hj'; cases hj'
  · have fresh : (s.withWoken g (ahead ++ behind)).decide k c = s.decide k c := State.decide_withTracker s k c _ rfl rfl
    have directed := State.redecide_toExit (s := s.withWoken g (ahead ++ behind)) (fresh.symm ▸ hd) he
    rw [fresh] at directed
    rw [exec_roomEventGrant, State.grant_wakes h hw hk ha hc (by omega), directed]
    refine congrArg _ (State.grantRounds_full ((State.hasRoom_eq_false _ g).mpr ?_) _ _)
    have reserved : ∀ (u : State) r d l, (u.directed k c r d e g l).depth g = u.depth g + 1 := fun u r d l => by
      rw [State.depth, State.depth, Nat.add_assoc]
      exact congrArg _ (Table.get_set_self ..)
    rw [reserved]
    exact le_of_eq hr.symm

/-- Settles O35. -/
theorem tagPathOutcomes : Obligations.TagPathOutcomes := by
  intro k g t s
  refine ⟨fun c rest hp hc => ?_, fun hp hn => ?_, fun hl h0 => ?_, fun hl h0 => ⟨fun hu => ⟨fun c rest hc ht => ?_,
    fun c rest hq ht => ?_, fun c rest e d hq hw he => ?_, fun hq => ?_⟩, fun x hx => ⟨fun ahead behind hq hx' hs => ?_,
    fun hs hq => ?_, fun hs => ?_, fun hs => ?_⟩⟩, fun hp => ?_, fun hl h0 => ⟨fun hu => ?_, fun x hx => ⟨fun hs => ?_,
    fun hs => ?_⟩⟩⟩
  · rw [State.resolve_byPosition hp, State.positionPath_head (State.headOf_cons hc.1) hc.not_early]
  · rw [State.resolve_byPosition hp]
    refine State.positionPath_stranger fun c hc => ?_
    rcases hn with hq | ⟨c', rest, e, x, hq, hw, he⟩
    · rw [State.headOf_empty hq] at hc; cases hc
    · rw [State.headOf_cons hq] at hc
      obtain rfl := Option.some.inj hc
      rw [State.early_timed hw, he]
  · exact State.resolve_strict hl h0
  · rw [State.resolve_byTag hl h0, State.tagPath_unknown hu,
      State.unknownTag_learns (State.headOf_cons hc.1) ht hc.not_early]
  · rw [State.resolve_byTag hl h0, State.tagPath_unknown hu]
    refine State.unknownTag_stranger fun c' hc' hn => absurd hn ?_
    rw [State.headOf_cons hq] at hc'
    exact Option.some.inj hc' ▸ ht
  · rw [State.resolve_byTag hl h0, State.tagPath_unknown hu]
    refine State.unknownTag_stranger fun c' hc' _ => ?_
    rw [State.headOf_cons hq] at hc'
    obtain rfl := Option.some.inj hc'
    rw [State.early_timed hw, he]
  · rw [State.resolve_byTag hl h0, State.tagPath_unknown hu]
    refine State.unknownTag_stranger fun c' hc' _ => ?_
    rw [State.headOf_empty hq] at hc'; cases hc'
  · have position : ((some g).bind fun g => s.position? g x) = some ahead.length := by
      rw [Option.bind_some, State.position?, hq, idxOf?_append hx']
    rw [State.resolve_byTag hl h0, State.tagPath_known hx]
    cases ahead with
    | nil => rw [State.knownTag_head hs position, if_pos rfl]
    | cons a ahead => rw [State.knownTag_behind hs position, if_neg (List.cons_ne_nil _ _)]; rfl
  · have nowhere : ((some g).bind fun g => s.position? g x) = none := by
      rw [Option.bind_some, State.position?]
      exact List.idxOf?_eq_none_iff.mpr hq
    rw [State.resolve_byTag hl h0, State.tagPath_known hx, State.knownTag_elsewhere hs nowhere]
  · rw [State.resolve_byTag hl h0, State.tagPath_known hx, State.knownTag_lost hs]
    simp only [Option.isSome_some, true_and]
  · rw [State.resolve_byTag hl h0, State.tagPath_known hx, State.knownTag_stranger hs]
  · rcases hp with hp | ⟨hl, h0⟩
    · rw [State.resolve_byPosition hp, State.positionPath_stranger fun _ h => by cases h]
    · exact State.resolve_strict hl h0
  · rw [State.resolve_byTag hl h0, State.tagPath_unknown hu, State.unknownTag_stranger fun _ h => by cases h]
  · rw [State.resolve_byTag hl h0, State.tagPath_known hx]
    rcases hs with hs | hs
    · exact State.knownTag_elsewhere hs rfl
    · rw [State.knownTag_lost hs]
      exact if_neg fun h => by cases h.1
  · rw [State.resolve_byTag hl h0, State.tagPath_known hx, State.knownTag_stranger hs]

/-- Settles O36. -/
theorem outcomesMarkAndRemove : Obligations.OutcomesMarkAndRemove := by
  intro c s
  refine ⟨fun g behind hq => ?_, fun g behind t hq => ?_, fun g ahead behind hq ha => ?_, fun g ahead behind hq hn => ?_,
    fun g => ?_, fun g => ?_⟩
  · rw [State.applyBinding, State.markEarly_eq, State.takeFromEntry_some,
      show (s.modRecord c _).queue g = c :: behind from hq, List.erase_cons_head]
    rfl
  · have left : (s.queue g).erase c = behind := by rw [hq, List.erase_cons_head]
    rw [← left]; rfl
  · have left : (s.queue g).erase c = ahead ++ behind := by rw [hq, List.erase_append_right _ ha, List.erase_cons_head]
    rw [← left, State.applyBinding, State.markEarly_eq, State.takeFromEntry_some]
    simp only [State.mark, State.modRecord_eq, State.record, Table.get_set_self, Table.set_set]
    rfl
  · have apart : ahead.Nodup ∧ c ∉ ahead := by
      rw [hq, List.nodup_append] at hn
      exact ⟨hn.1, fun h => hn.2.2 c h c (List.mem_cons_self ..) rfl⟩
    have marked : ∀ h, (s.markEarly c).record h = if h = c then
        { s.record c with flags := { (s.record c).flags with early := (s.record c).flags.early || s.early c } }
        else s.record h := fun h => by
      rw [State.markEarly_eq, State.record_modRecord]
      by_cases he : h = c
      · rw [if_pos he, if_pos he.symm, he]
      · rw [if_neg he, if_neg fun e => he e.symm]
    have kept : ∀ h ∈ ahead, (s.markEarly c).record h = s.record h := fun h hh => by
      rw [marked, if_neg fun e : h = c => apart.2 (e ▸ hh)]
    obtain ⟨t, frame, count, records⟩ :=
      State.makeLost_foldl ahead .lostSkipped ((s.markEarly c).withQueue g behind) apart.1
    refine ⟨t, ?_, ?_, fun h => ?_⟩
    · rw [State.applyBinding]
      refine (State.skipTo_eq (s := s.markEarly c) (by rw [State.markEarly_eq]; exact hq)).trans ?_
      rw [frame, State.markEarly_eq]
      rfl
    · rw [count]
      refine congrArg₂ (· + ·) (by rw [State.markEarly_eq]; rfl) (List.countP_congr fun h hh => ?_)
      rw [show ((s.markEarly c).withQueue g behind).record h = s.record h from kept h hh]
    · rw [records]
      by_cases hh : h ∈ ahead
      · rw [if_pos hh, if_pos hh]
        exact congrArg (CarrierRecord.lostBy · .lostSkipped) (kept h hh)
      · rw [if_neg hh, if_neg hh]
        exact marked h
  · rw [State.applyBinding, State.clearException_eq]
    simp only [State.mark, State.modRecord_eq, State.record, Table.get_set_self, Table.set_set]
  · rw [State.applyBinding, State.extract]
    cases hl : (s.record c).location with
    | onSegment g' =>
      simp only [State.mark, State.clearException_eq, State.modRecord_eq, State.record, Table.get_set_self, Table.set_set]
      rfl
    | _ => simp only [State.mark, State.clearException_eq, State.modRecord_eq, State.record, Table.get_set_self, Table.set_set]
end

section
/-! Arrivals (R66 to R84, R149 to R151): the carrier bound, taken as the occupant or delivered; strangers and untracked
arrivals. The link, which no arrival reads, is carried along. -/

-- One declaration at a time, which holds the text's memory down.
set_option Elab.async false

namespace Sys2Proof.Machine

/-! ### The link has no part in a binding -/

theorem State.takeFromEntry_withLink (s : State) (l : StationLink) (g : Option Segment) (c : Handle) :
    (s.withLink l).takeFromEntry g c = (s.takeFromEntry g c).withLink l := by
  cases g <;> rfl

theorem State.markEarly_withLink (s : State) (l : StationLink) (c : Handle) :
    (s.withLink l).markEarly c = (s.markEarly c).withLink l := by
  rw [State.markEarly_eq, State.markEarly_eq]; rfl

theorem State.extract_withLink (s : State) (l : StationLink) (c : Handle) :
    (s.withLink l).extract c = (s.extract c).withLink l := by
  have located : ((s.withLink l).record c).location = (s.record c).location := rfl
  rw [State.extract_eq (s.withLink l), State.extract_congr (s := s) c located rfl, State.extract_eq s]
  rfl

theorem State.foldl_makeLost_withLink (k : ExceptionKind) (x : StationLink) (l : List Handle) (s : State) :
    l.foldl (fun s h => s.makeLost h k) (s.withLink x) = (l.foldl (fun s h => s.makeLost h k) s).withLink x := by
  induction l generalizing s with
  | nil => rfl
  | cons c l ih => exact ih (s.makeLost c k)

theorem State.skipTo_withLink (s : State) (l : StationLink) (g : Segment) (j : Nat) :
    (s.withLink l).skipTo g j = (s.skipTo g j).withLink l :=
  congrArg (State.raiseRoomEvent · g)
    (State.foldl_makeLost_withLink .lostSkipped l ((s.queue g).take j) (s.withQueue g ((s.queue g).drop (j + 1))))

theorem State.applyBinding_withLink (s : State) (l : StationLink) (g : Option Segment) (c : Handle) (how : Binding) :
    (s.withLink l).applyBinding g c how = (s.applyBinding g c how).withLink l := by
  cases how with
  | position => exact State.takeFromEntry_withLink s l g c
  | tagMatch => rw [State.applyBinding, State.markEarly_withLink]; exact State.takeFromEntry_withLink _ l g c
  | tagLearning t =>
    exact State.takeFromEntry_withLink ((s.modRecord c fun r =>
      { r with tag := some t, flags := { r.flags with tagLearned := true } }).withTags (TagIndex.add t c s.tags)) l g c
  | skip j =>
    cases g with
    | none => rfl
    | some g => rw [State.applyBinding, State.markEarly_withLink]; exact State.skipTo_withLink _ l g j
  | extraction =>
    rw [State.applyBinding, State.markEarly_withLink]
    exact State.takeFromEntry_withLink ((s.markEarly c).mark c fun f => { f with overtook := true }) l g c
  | lateRecovery => rfl
  | misrouteTake => rw [State.applyBinding, State.extract_withLink]; rfl

/-- What an outcome removes and marks is nothing of the Route Store. -/
theorem State.applyBinding_routes (s : State) (g : Option Segment) (c : Handle) (how : Binding) :
    (s.applyBinding g c how).routes = s.routes := by
  have early : (s.markEarly c).routes = s.routes := by rw [State.markEarly_eq]; rfl
  have taken : ∀ u : State, (u.takeFromEntry g c).routes = u.routes := fun u => by cases g <;> rfl
  have lost : ∀ (l : List Handle) (u : State), (l.foldl (fun s h => s.makeLost h .lostSkipped) u).routes = u.routes :=
    fun l => by
      induction l with
      | nil => exact fun u => rfl
      | cons a l ih => exact fun u => ih (u.makeLost a .lostSkipped)
  cases how with
  | position => exact taken s
  | tagMatch => exact (taken _).trans early
  | tagLearning t => exact taken _
  | skip j =>
    cases g with
    | none => rfl
    | some g => exact (lost _ ((s.markEarly c).withQueue g _)).trans early
  | extraction => exact (taken _).trans early
  | lateRecovery => rfl
  | misrouteTake => rw [State.applyBinding, State.extract_eq]; rfl

theorem State.resolve_withLink (s : State) (l : StationLink) (k : Station) (g : Option Segment) (t : Tag) :
    (s.withLink l).resolve k g t = s.resolve k g t := rfl

theorem State.freeRecord_withLink (s : State) (l : StationLink) (c : Handle) :
    (s.withLink l).freeRecord c = (s.freeRecord c).withLink l := by
  have route := State.unbindSlot?_congr s (s.withLink l) ((s.record c).route.map RouteRef.slot) rfl
  have routes := State.unbindSlot?_congr _ _ (s.record c).pendingRoute route
  have tracker : ((s.withLink l).extract c).tracker = (s.extract c).tracker := State.extract_congr c rfl rfl
  rw [State.freeRecord_eq, State.freeRecord_eq]
  simp only [State.record, State.withLink_carriers] at routes ⊢
  simp only [routes, tracker]
  rfl

/-! ### The answer acknowledged -/

/-- Once a directive is placed, the acknowledgement completes the record of the transaction's station. -/
theorem State.acknowledge_placed {s y : State} {k : Station} {l m : LinkRecord} (seq : Byte)
    (h : y.link = (s.withLink (s.linkAfter k l)).linkWith k m) :
    y.acknowledge k ⟨seq, .ok⟩ = y.withLink (s.linkAfter k (m.accepting seq .ok)) := by
  have record : y.linkOf k = m := by rw [State.linkOf, h]; exact Table.get_set_self ..
  have records : (s.linkAfter k l).records.set k m = s.link.records.set k m := Table.set_set ..
  show y.withLink { y.link with records := y.link.records.set k ((y.linkOf k).accepting seq .ok) } = _
  rw [record, h]
  simp only [State.linkWith, State.withLink_link, records, Table.set_set]
  rfl

/-! ### The occupant taken (R90 to R93) -/

section
variable {s : State} {k : Station} {c : Handle} {seq : Byte}

theorem State.takeOccupant_dwells {ticks : Ticks} (h : s.dwellTest k c = some ticks) :
    s.takeOccupant k c seq = { s with
      carriers := { s.carriers with
        records := s.carriers.records.set c
          { s.record c with
            state := .held, location := .atStation k, window := none, flags := { (s.record c).flags with dwelt := true } } }
      custody := s.custody.set k (.heldDwell c (s.lineTime + ticks.setWidth 32))
      link := s.linkWith k ((s.linkOf k).placed .hold (some seq)) } := by
  rw [State.takeOccupant, h]
  simp only [State.beginDwell, State.putInCustody, State.modRecord_eq, State.record, Table.get_set_self, Table.set_set]
  rfl

theorem State.takeOccupant_directed {e : Exit} {g : Segment} (h : s.dwellTest k c = none)
    (hd : (s.decide k c).choice = .toExit e) (hg : (s.station k).exitSegment e.val = some g) :
    s.takeOccupant k c seq = s.directed k c (s.record c) (s.decide k c) e g
      (s.linkWith k ((s.linkOf k).placed (if e = 0 then .pass else .divert e) (some seq))) := by
  rw [State.takeOccupant, h]
  simp only [hd]
  exact State.markDecision_directTo s k c (s.decide k c) e (.toExit e) (some seq) g hg

theorem State.takeOccupant_blocked {g : Segment} (h : s.dwellTest k c = none)
    (hd : (s.decide k c).choice = .blocked (some g)) :
    s.takeOccupant k c seq = s.blockedOn k c (s.record c) (s.decide k c) g
      (s.linkWith k ((s.linkOf k).placed .hold (some seq))) := by
  rw [State.takeOccupant, h]
  simp only [hd, State.markDecision_block]
  rfl

end

/-! ### A bound carrier handed on (R80) -/

/-- The link in the transaction of an accepted report, before its directive and its acknowledgement. -/
def State.linkHeard (s : State) (k : Station) (d : Option Byte) : StationLink := s.linkAfter k ((s.linkOf k).heard d)

theorem State.linkOf_linkHeard (s y : State) (k : Station) (d : Option Byte) :
    (y.withLink (s.linkHeard k d)).linkOf k = (s.linkOf k).heard d := Table.get_set_self ..

/-- The answer of an accepted ARRIVAL completes the link record in which its directive was placed. -/
theorem State.acknowledge_arrival {s y : State} {k : Station} {d : Option Byte} {m : LinkRecord} (seq : Byte)
    (h : y.link = (s.withLink (s.linkHeard k d)).linkWith k m) :
    y.acknowledge k ⟨seq, .ok⟩ = y.withLink (s.linkAfter k (m.accepting seq .ok)) := State.acknowledge_placed seq h

theorem exec_arrival {s : State} {k : Station} {seq : Byte} (d : Option Byte) (port : Byte) (tag : Tag)
    (h : s.HandsOn k seq) (hi : s.custodyOf k = .idle) :
    exec (.arrival (headFrom k d) seq port tag) s
      = .next (((s.withLink (s.linkHeard k d)).resolveArrival k port tag seq).acknowledge k ⟨seq, .ok⟩) :=
  execArrival_idle port tag h hi

theorem State.resolveArrival_bind {s : State} {k : Station} {port seq : Byte} {tag : Tag} {c : Handle} {how : Binding}
    (l : StationLink) (hr : s.resolve k ((s.station k).entrySegment port.toNat) tag = .bind c how) :
    (s.withLink l).resolveArrival k port tag seq
      = (((s.applyBinding ((s.station k).entrySegment port.toNat) c how).bindArrival k
          ((s.station k).entrySegment port.toNat) c).withLink l).handOn k c seq := by
  have hr' : (s.withLink l).resolve k (((s.withLink l).station k).entrySegment port.toNat) tag = .bind c how := hr
  rw [State.resolveArrival, hr']
  simp only [State.applyBinding_withLink]
  rfl

theorem State.resolveArrival_stranger {s : State} {k : Station} {port seq : Byte} {tag : Tag} {x : Option Tag}
    (l : StationLink) (hr : s.resolve k ((s.station k).entrySegment port.toNat) tag = .stranger x) :
    (s.withLink l).resolveArrival k port tag seq
      = (s.withLink l).takeStranger k ((s.station k).entrySegment port.toNat) x seq := by
  have hr' : (s.withLink l).resolve k (((s.withLink l).station k).entrySegment port.toNat) tag = .stranger x := hr
  rw [State.resolveArrival, hr']
  rfl

section
variable (u : State) (k : Station) (g : Option Segment) (c : Handle)

theorem State.bindArrival_eq : u.bindArrival k g c = { u with
    carriers := { u.carriers with records := u.carriers.records.set c ((u.record c).boundAt k g u.lineTime) } } := rfl

theorem State.record_bindArrival : (u.bindArrival k g c).record c = (u.record c).boundAt k g u.lineTime :=
  Table.get_set_self ..

theorem State.dwellTest_bindArrival : (u.bindArrival k g c).dwellTest k c = u.dwellTest k c :=
  State.dwellTest_congr k c (by rw [State.record_bindArrival]; rfl) (by rw [State.record_bindArrival]; rfl) rfl

theorem State.decide_bindArrival : (u.bindArrival k g c).decide k c = u.decide k c :=
  State.decide_congr k c (by rw [State.record_bindArrival]; rfl) rfl rfl rfl rfl rfl rfl

end

section
variable {s : State} {k : Station} {seq : Byte} {c : Handle} (d : Option Byte) (u : State)

/-- A directive placed in the transaction of an accepted report, and the report's acknowledgement. -/
theorem State.answer_placed (kind : DirectiveKind) :
    ((u.withLink (s.linkHeard k d)).placeDirective k kind (some seq)).acknowledge k ⟨seq, .ok⟩
      = u.withLink (s.linkAfter k ((((s.linkOf k).heard d).placed kind (some seq)).accepting seq .ok)) := by
  refine State.acknowledge_arrival (d := d) (y := (u.withLink (s.linkHeard k d)).placeDirective k kind (some seq)) seq ?_
  show (u.withLink (s.linkHeard k d)).linkWith k (((u.withLink (s.linkHeard k d)).linkOf k).placed kind (some seq)) = _
  rw [State.linkOf_linkHeard]; rfl

/-- A carrier taken dwells, and the report is acknowledged. -/
theorem State.taken_dwells {ticks : Ticks} (hd : u.dwellTest k c = some ticks) :
    ((u.withLink (s.linkHeard k d)).takeOccupant k c seq).acknowledge k ⟨seq, .ok⟩ = { u with
      carriers := { u.carriers with
        records := u.carriers.records.set c
          { u.record c with
            state := .held, location := .atStation k, window := none, flags := { (u.record c).flags with dwelt := true } } }
      custody := u.custody.set k (.heldDwell c (u.lineTime + ticks.setWidth 32))
      link := s.linkAfter k ((((s.linkOf k).heard d).placed .hold (some seq)).accepting seq .ok) } := by
  rw [State.takeOccupant_dwells (s := u.withLink (s.linkHeard k d)) hd, State.linkOf_linkHeard,
    State.acknowledge_arrival seq rfl]
  rfl

theorem State.decide_withLink (l : StationLink) : (u.withLink l).decide k c = u.decide k c :=
  State.decide_congr k c rfl rfl rfl rfl rfl rfl rfl

/-- A carrier taken is directed, and the report acknowledged. -/
theorem State.taken_directed {e : Exit} {g : Segment} (hd : u.dwellTest k c = none)
    (he : (u.decide k c).choice = .toExit e) (hg : (u.station k).exitSegment e.val = some g) :
    ((u.withLink (s.linkHeard k d)).takeOccupant k c seq).acknowledge k ⟨seq, .ok⟩
      = u.directed k c (u.record c) (u.decide k c) e g
        (s.linkAfter k ((((s.linkOf k).heard d).placed (if e = 0 then .pass else .divert e) (some seq)).accepting seq .ok)) := by
  rw [State.takeOccupant_directed (s := u.withLink (s.linkHeard k d)) hd (by rw [State.decide_withLink, he]) hg,
    State.linkOf_linkHeard, State.decide_withLink, State.acknowledge_arrival seq rfl]
  rfl

/-- A carrier taken is blocked, and the report acknowledged. -/
theorem State.taken_blocked {g : Segment} (hd : u.dwellTest k c = none)
    (he : (u.decide k c).choice = .blocked (some g)) :
    ((u.withLink (s.linkHeard k d)).takeOccupant k c seq).acknowledge k ⟨seq, .ok⟩
      = u.blockedOn k c (u.record c) (u.decide k c) g
        (s.linkAfter k ((((s.linkOf k).heard d).placed .hold (some seq)).accepting seq .ok)) := by
  rw [State.takeOccupant_blocked (s := u.withLink (s.linkHeard k d)) hd (by rw [State.decide_withLink, he]),
    State.linkOf_linkHeard, State.decide_withLink, State.acknowledge_arrival seq rfl]
  rfl

end

section
variable {s : State} {k : Station} {seq : Byte} {c : Handle} (d : Option Byte) (u : State) (g : Option Segment)

/-- A bound carrier dwells. -/
theorem State.bound_dwells {ticks : Ticks} (hd : u.dwellTest k c = some ticks) :
    (((u.bindArrival k g c).withLink (s.linkHeard k d)).takeOccupant k c seq).acknowledge k ⟨seq, .ok⟩ = { u with
      carriers := { u.carriers with
        records := u.carriers.records.set c
          { (u.record c).boundAt k g u.lineTime with
            state := .held, location := .atStation k, flags := { (u.record c).flags with dwelt := true } } }
      custody := u.custody.set k (.heldDwell c (u.lineTime + ticks.setWidth 32))
      link := s.linkAfter k ((((s.linkOf k).heard d).placed .hold (some seq)).accepting seq .ok) } := by
  rw [State.taken_dwells d _ ((State.dwellTest_bindArrival u k g c).trans hd), State.record_bindArrival]
  simp only [State.bindArrival_eq, Table.set_set]
  rfl

/-- A bound carrier is directed. -/
theorem State.bound_directed {e : Exit} {g' : Segment} (hd : u.dwellTest k c = none)
    (he : (u.decide k c).choice = .toExit e) (hg : (u.station k).exitSegment e.val = some g') :
    (((u.bindArrival k g c).withLink (s.linkHeard k d)).takeOccupant k c seq).acknowledge k ⟨seq, .ok⟩
      = u.directed k c ((u.record c).boundAt k g u.lineTime) (u.decide k c) e g'
        (s.linkAfter k ((((s.linkOf k).heard d).placed (if e = 0 then .pass else .divert e) (some seq)).accepting seq .ok)) := by
  rw [State.taken_directed d _ ((State.dwellTest_bindArrival u k g c).trans hd) (by rw [State.decide_bindArrival, he]) hg,
    State.record_bindArrival, State.decide_bindArrival]
  simp only [State.directed, State.bindArrival_eq, Table.set_set]
  rfl

/-- A bound carrier is blocked. -/
theorem State.bound_blocked {g' : Segment} (hd : u.dwellTest k c = none)
    (he : (u.decide k c).choice = .blocked (some g')) :
    (((u.bindArrival k g c).withLink (s.linkHeard k d)).takeOccupant k c seq).acknowledge k ⟨seq, .ok⟩
      = u.blockedOn k c ((u.record c).boundAt k g u.lineTime) (u.decide k c) g'
        (s.linkAfter k ((((s.linkOf k).heard d).placed .hold (some seq)).accepting seq .ok)) := by
  rw [State.taken_blocked d _ ((State.dwellTest_bindArrival u k g c).trans hd) (by rw [State.decide_bindArrival, he]),
    State.record_bindArrival, State.decide_bindArrival]
  simp only [State.blockedOn, State.bindArrival_eq, Table.set_set]
  rfl

end

/-! ### A delivery (R149 to R151) -/

/-- `s` with a carrier, its record being `r`, delivered at an outlet and counted. -/
def State.deliveredTo (s : State) (k : Station) (c : Handle) (r : CarrierRecord) : State :=
  { s with
    carriers := { s.carriers with
      records := s.carriers.records.set c { r with state := .delivered, location := .atStation k, window := none } }
    outlets := s.outlets.set k (s.outlet k).deliver }

/-- A delivery that is not correct marked on the carrier (R150). -/
def State.judged (s : State) (k : Station) (c : Handle) : State :=
  if s.deliveryCorrect k c = true then s else s.setException c .misdelivered

/-- The carrier's record freed where the outlet says so and no exception stands (R151). -/
def State.autoRetired (s : State) (k : Station) (c : Handle) : State :=
  if (s.outlet k).autoRetire = true ∧ (s.record c).exception = none then s.freeRecord c else s

theorem State.record_deliveredTo (s : State) (k : Station) (c : Handle) (r : CarrierRecord) :
    (s.deliveredTo k c r).record c = { r with state := .delivered, location := .atStation k, window := none } :=
  Table.get_set_self ..

theorem State.outlet_deliveredTo (s : State) (k : Station) (c : Handle) (r : CarrierRecord) :
    (s.deliveredTo k c r).outlet k = (s.outlet k).deliver := Table.get_set_self ..

/-- A delivery is correct where the carrier's stage ends FINISH at this station (R150). -/
theorem State.deliveryCorrect_iff (s : State) (k : Station) (c : Handle) :
    s.deliveryCorrect k c = true ↔ ∃ r stage, (s.record c).route = some r ∧ s.stageOf r = some stage
      ∧ stage.endAction = .finish ∧ stage.boundary = k := by
  unfold State.deliveryCorrect
  cases hr : (s.record c).route with
  | none => simp
  | some r => cases hs : s.stageOf r <;> simp [hs]

theorem State.stageOf_congr {s t : State} (h : t.routes = s.routes) : t.stageOf = s.stageOf := by
  funext r
  simp only [State.stageOf, State.programOf, State.slotOf, h]

section
variable {s : State} {k : Station} {c : Handle} {seq : Byte}

theorem State.deliver_eq : s.deliver k c seq
    = (((s.deliveredTo k c (s.record c)).judged k c).autoRetired k c).placeDirective k .accept (some seq) := rfl

theorem State.deliver_wrong (h : (s.deliveredTo k c (s.record c)).deliveryCorrect k c = false) :
    s.deliver k c seq
      = ((s.deliveredTo k c (s.record c)).setException c .misdelivered).placeDirective k .accept (some seq) := by
  have held : (((s.deliveredTo k c (s.record c)).setException c .misdelivered).record c).exception = some .misdelivered :=
    congrArg CarrierRecord.exception (Table.get_set_self ..)
  rw [State.deliver_eq, State.judged, if_neg (by rw [h]; decide), State.autoRetired,
    if_neg fun hr => by rw [held] at hr; cases hr.2]

theorem State.deliver_kept (h : (s.deliveredTo k c (s.record c)).deliveryCorrect k c = true)
    (hr : (s.outlet k).autoRetire = false ∨ (s.record c).exception ≠ none) :
    s.deliver k c seq = (s.deliveredTo k c (s.record c)).placeDirective k .accept (some seq) := by
  rw [State.deliver_eq, State.judged, if_pos h, State.autoRetired, State.outlet_deliveredTo, State.record_deliveredTo]
  exact congrArg (State.placeDirective · k .accept (some seq)) (if_neg fun ⟨ha, hx⟩ =>
    hr.elim (fun hf => by cases hf.symm.trans ha) fun hne => hne hx)

theorem State.deliver_retired (h : (s.deliveredTo k c (s.record c)).deliveryCorrect k c = true)
    (ha : (s.outlet k).autoRetire = true) (hx : (s.record c).exception = none) :
    s.deliver k c seq
      = ((s.deliveredTo k c (s.record c)).freeRecord c).placeDirective k .accept (some seq) := by
  rw [State.deliver_eq, State.judged, if_pos h, State.autoRetired, State.outlet_deliveredTo, State.record_deliveredTo]
  exact congrArg (State.placeDirective · k .accept (some seq)) (if_pos ⟨ha, hx⟩)

end

section
variable {s : State} {k : Station} {seq : Byte} {c : Handle} (d : Option Byte) (u : State) (g : Option Segment)

/-- The state that a bound carrier's delivery reaches before its exception and its freeing are looked at. -/
theorem State.deliveredTo_bindArrival :
    (u.bindArrival k g c).deliveredTo k c ((u.bindArrival k g c).record c)
      = u.deliveredTo k c ((u.record c).boundAt k g u.lineTime) := by
  rw [State.record_bindArrival]
  simp only [State.deliveredTo, State.bindArrival_eq, Table.set_set]
  rfl

theorem State.deliveryCorrect_bound :
    (u.deliveredTo k c ((u.record c).boundAt k g u.lineTime)).deliveryCorrect k c = true
      ↔ ∃ r stage, (u.record c).route = some r ∧ u.stageOf r = some stage ∧ stage.endAction = .finish
        ∧ stage.boundary = k := by
  rw [State.deliveryCorrect_iff, State.record_deliveredTo]
  rfl

/-- A bound carrier delivered where it should not be holds MISDELIVERED. -/
theorem State.bound_misdelivered (h : ¬ ∃ r stage, (u.record c).route = some r ∧ u.stageOf r = some stage
      ∧ stage.endAction = .finish ∧ stage.boundary = k) :
    (((u.bindArrival k g c).withLink (s.linkHeard k d)).deliver k c seq).acknowledge k ⟨seq, .ok⟩
      = ((u.deliveredTo k c ((u.record c).boundAt k g u.lineTime)).setException c .misdelivered).withLink
        (s.linkAfter k ((((s.linkOf k).heard d).placed .accept (some seq)).accepting seq .ok)) := by
  have wrong := Bool.eq_false_iff.mpr ((not_congr (State.deliveryCorrect_bound u g)).mpr h)
  rw [← State.deliveredTo_bindArrival] at wrong ⊢
  rw [State.deliver_wrong (s := (u.bindArrival k g c).withLink (s.linkHeard k d)) wrong, ← State.answer_placed]
  rfl

theorem State.bound_kept (h : ∃ r stage, (u.record c).route = some r ∧ u.stageOf r = some stage
      ∧ stage.endAction = .finish ∧ stage.boundary = k)
    (hr : (u.outlet k).autoRetire = false ∨ (u.record c).exception ≠ none) :
    (((u.bindArrival k g c).withLink (s.linkHeard k d)).deliver k c seq).acknowledge k ⟨seq, .ok⟩
      = (u.deliveredTo k c ((u.record c).boundAt k g u.lineTime)).withLink
        (s.linkAfter k ((((s.linkOf k).heard d).placed .accept (some seq)).accepting seq .ok)) := by
  have right := (State.deliveryCorrect_bound u g).mpr h
  have kept : (u.outlet k).autoRetire = false ∨ ((u.bindArrival k g c).record c).exception ≠ none := by
    rw [State.record_bindArrival]; exact hr
  rw [← State.deliveredTo_bindArrival] at right ⊢
  rw [State.deliver_kept (s := (u.bindArrival k g c).withLink (s.linkHeard k d)) right kept, ← State.answer_placed]
  rfl

theorem State.bound_retired (h : ∃ r stage, (u.record c).route = some r ∧ u.stageOf r = some stage
      ∧ stage.endAction = .finish ∧ stage.boundary = k)
    (ha : (u.outlet k).autoRetire = true) (hx : (u.record c).exception = none) :
    (((u.bindArrival k g c).withLink (s.linkHeard k d)).deliver k c seq).acknowledge k ⟨seq, .ok⟩
      = ((u.deliveredTo k c ((u.record c).boundAt k g u.lineTime)).freeRecord c).withLink
        (s.linkAfter k ((((s.linkOf k).heard d).placed .accept (some seq)).accepting seq .ok)) := by
  have right := (State.deliveryCorrect_bound u g).mpr h
  have clean : ((u.bindArrival k g c).record c).exception = none := by rw [State.record_bindArrival]; exact hx
  rw [← State.deliveredTo_bindArrival] at right ⊢
  rw [State.deliver_retired (s := (u.bindArrival k g c).withLink (s.linkHeard k d)) right ha clean, ← State.answer_placed,
    ← State.freeRecord_withLink]
  rfl

end

/-! ### Strangers (R81 to R84) -/

/-- A stranger record made, before custody takes it (R81). -/
theorem State.createStranger_eq (s : State) (k : Station) (g : Option Segment) (x : Option Tag) (h : Handle) (seq : Byte) :
    s.createStranger k g x h seq = State.takeOccupant { s with
      carriers :=
        { records := s.carriers.records.set h
            { generation := (s.record h).generation, state := .atStation, origin := .stranger, tag := x, cls := none
              route := none, pendingRoute := none, location := .atStation k, lastSegment := g, window := none
              sighting := some ⟨k, s.lineTime⟩, flags := {}, exception := some .stranger }
          exceptionCount := s.carriers.exceptionCount + 1 }
      tags := match x with | some t => TagIndex.add t h s.tags | none => s.tags } k h seq := by
  simp only [State.createStranger, State.setException_eq, State.modRecord_eq, State.record, Table.get_set_self, Table.set_set]
  cases x <;> rfl

theorem State.dwellTest_unrouted {s : State} {k : Station} {c : Handle} (h : (s.record c).route = none) :
    s.dwellTest k c = none := by
  rw [State.dwellTest, h]; rfl

theorem State.isOutlet_eq_false {s : State} {k : Station} (h : (s.station k).type ≠ .outlet) : s.isOutlet k = false :=
  beq_eq_false_iff_ne.mpr h

section
variable {s : State} {k : Station} {seq port : Byte} {tag : Tag} {c : Handle} {how : Binding}
  (d : Option Byte) (h : s.HandsOn k seq) (hi : s.custodyOf k = .idle)
  (hr : s.resolve k ((s.station k).entrySegment port.toNat) tag = .bind c how)
include h hi hr

/-- An ARRIVAL whose carrier is bound at a transfer or infeed: what the outcome removes and marks, then the occupant taken. -/
theorem exec_arrival_taken (ht : (s.station k).type ≠ .outlet) :
    exec (.arrival (headFrom k d) seq port tag) s
      = .next (((((s.applyBinding ((s.station k).entrySegment port.toNat) c how).bindArrival k
          ((s.station k).entrySegment port.toNat) c).withLink (s.linkHeard k d)).takeOccupant k c seq).acknowledge k
            ⟨seq, .ok⟩) := by
  rw [exec_arrival d port tag h hi, State.resolveArrival_bind _ hr, State.handOn]
  have other : ¬ (((s.applyBinding ((s.station k).entrySegment port.toNat) c how).bindArrival k
      ((s.station k).entrySegment port.toNat) c).withLink (s.linkHeard k d)).isOutlet k = true := by
    rw [Bool.not_eq_true]
    exact ((State.Inside.applyBinding s ((s.station k).entrySegment port.toNat) c how).isOutlet k).trans (State.isOutlet_eq_false ht)
  rw [if_neg other]

/-- An ARRIVAL whose carrier is bound at an outlet: what the outcome removes and marks, then the delivery. -/
theorem exec_arrival_delivered (ht : (s.station k).type = .outlet) :
    exec (.arrival (headFrom k d) seq port tag) s
      = .next (((((s.applyBinding ((s.station k).entrySegment port.toNat) c how).bindArrival k
          ((s.station k).entrySegment port.toNat) c).withLink (s.linkHeard k d)).deliver k c seq).acknowledge k
            ⟨seq, .ok⟩) := by
  rw [exec_arrival d port tag h hi, State.resolveArrival_bind _ hr, State.handOn]
  have outlet : (((s.applyBinding ((s.station k).entrySegment port.toNat) c how).bindArrival k
      ((s.station k).entrySegment port.toNat) c).withLink (s.linkHeard k d)).isOutlet k = true :=
    ((State.Inside.applyBinding s ((s.station k).entrySegment port.toNat) c how).isOutlet k).trans (beq_iff_eq.mpr ht)
  rw [if_pos outlet]

end

/-- The position path binds the due head of the entry queue and takes it off (R69, R72). -/
theorem State.resolve_dueHead {s : State} {k : Station} {tag : Tag} {g : Segment} {c : Handle} {rest : List Handle}
    (hp : s.byPosition k tag) (hc : s.dueHead g c rest) :
    s.resolve k (some g) tag = .bind c .position ∧ s.applyBinding (some g) c .position = s.takenFrom g rest := by
  refine ⟨?_, ?_⟩
  · rw [State.resolve_byPosition hp, State.positionPath_head (State.headOf_cons hc.1) hc.not_early]
  · rw [State.applyBinding, State.takeFromEntry_some, hc.1, List.erase_cons_head]

theorem State.Inside.lineTime {s t : State} (h : s.Inside t) : t.lineTime = s.lineTime := by rw [h]

end Sys2Proof.Machine

open Sys2Proof Sys2Proof.Machine

/-- Settles O31: what the outcome removes and marks, then the occupant taken by the decision. -/
theorem arrivalIsTakenByPosition : Obligations.ArrivalIsTakenByPosition := by
  refine ⟨fun k d seq port tag g c rest s h hi ht hp hg hc => ?_, fun k d seq port tag c how s h hi ht hr => ?_⟩
  · obtain ⟨hr, bound⟩ := State.resolve_dueHead hp hc
    rw [← hg] at hr
    have taken := exec_arrival_taken d h hi hr ht
    rw [hg, bound] at taken
    refine ⟨fun ticks hd => ?_, fun e g' hd he he' => ?_, fun g' hd he => ?_⟩
    · rw [taken, State.bound_dwells d (s.takenFrom g rest) (some g) hd]; rfl
    · rw [taken, State.bound_directed d (s.takenFrom g rest) (some g) hd he he']; rfl
    · rw [taken, State.bound_blocked d (s.takenFrom g rest) (some g) hd he]; rfl
  · intro u record l decision
    have inside : s.Inside u := State.Inside.applyBinding s ((s.station k).entrySegment port.toNat) c how
    have taken := exec_arrival_taken d h hi hr ht
    refine ⟨fun ticks hd => ?_, fun e g' hd he he' => ?_, fun g' hd he => ?_⟩
    · rw [taken, State.bound_dwells d u _ hd, inside.lineTime, inside.custody]; rfl
    · have exits : (u.station k).exitSegment e.val = some g' := by rw [State.station, inside.map]; exact he'
      rw [taken, State.bound_directed d u _ hd he exits, inside.lineTime]
    · rw [taken, State.bound_blocked d u _ hd he, inside.lineTime]

/-- Settles O32: what the outcome removes and marks, then the delivery. -/
theorem arrivalAtAnOutletIsDelivered : Obligations.ArrivalAtAnOutletIsDelivered := by
  refine ⟨fun k d seq port tag g c rest s h hi ht hp hg hc => ?_, fun k d seq port tag c how s h hi ht hr => ?_⟩
  · obtain ⟨hr, bound⟩ := State.resolve_dueHead hp hc
    rw [← hg] at hr
    have delivered := exec_arrival_delivered d h hi hr ht
    rw [hg, bound] at delivered
    refine ⟨fun hw => ?_, fun hw hk => ?_, fun hw ha hx => ?_⟩
    · rw [delivered, State.bound_misdelivered d (s.takenFrom g rest) (some g) hw, State.setException_eq,
        State.record_deliveredTo]
      simp only [State.deliveredTo, Table.set_set]
      rfl
    · rw [delivered, State.bound_kept d (s.takenFrom g rest) (some g) hw hk]; rfl
    · rw [delivered, State.bound_retired d (s.takenFrom g rest) (some g) hw ha hx, ← State.freeRecord_withLink]; rfl
  · intro v record correct count u
    have inside : s.Inside v := State.Inside.applyBinding s ((s.station k).entrySegment port.toNat) c how
    have stages : v.stageOf = s.stageOf :=
      State.stageOf_congr (State.applyBinding_routes s ((s.station k).entrySegment port.toNat) c how)
    have outlet : v.outlet k = s.outlet k := by rw [State.outlet, inside.outlets]; rfl
    have delivered := exec_arrival_delivered d h hi hr ht
    have finish : correct ↔ ∃ r stage, (v.record c).route = some r ∧ v.stageOf r = some stage ∧ stage.endAction = .finish
        ∧ stage.boundary = k := by rw [stages]; rfl
    have reached : (v.deliveredTo k c ((v.record c).boundAt k ((s.station k).entrySegment port.toNat) v.lineTime)).withLink
        (s.linkAfter k ((((s.linkOf k).heard d).placed .accept (some seq)).accepting seq .ok))
          = { u with carriers := { v.carriers with records := v.carriers.records.set c record } } := by
      rw [State.deliveredTo, outlet, inside.outlets, inside.lineTime]; rfl
    refine ⟨fun hw => ?_, fun hw hk => ?_, fun hw ha hx => ?_⟩
    · rw [delivered, State.bound_misdelivered d v _ ((not_congr finish).mp hw)]
      refine (congrArg (fun x => Host.Outcome.next (State.setException x c .misdelivered)) reached).trans ?_
      simp only [State.setException_eq, State.record, Table.get_set_self, Table.set_set]
    · rw [delivered, State.bound_kept d v _ (finish.mp hw) (outlet.symm ▸ hk)]; exact congrArg _ reached
    · rw [delivered, State.bound_retired d v _ (finish.mp hw) (outlet.symm ▸ ha) hx, ← State.freeRecord_withLink, reached]

/-- Settles O33. -/
theorem strangerGetsARecord : Obligations.StrangerGetsARecord := by
  intro k d seq port tag tg h s hs hi ht hr hf hlow record u l decision
  have other : ¬ (s.withLink (s.linkHeard k d)).isOutlet k = true := by
    rw [Bool.not_eq_true]; exact State.isOutlet_eq_false ht
  have made : exec (.arrival (headFrom k d) seq port tag) s
      = .next (((u.withLink (s.linkHeard k d)).takeOccupant k h seq).acknowledge k ⟨seq, .ok⟩) := by
    rw [exec_arrival d port tag hs hi, State.resolveArrival_stranger _ hr, State.takeStranger, if_neg other,
      show (s.withLink (s.linkHeard k d)).lowestFree = some h from State.lowestFree_eq_some hf hlow]
    simp only [State.createStranger_eq]
    rfl
  have written : u.record h = record := Table.get_set_self ..
  have undwelt : u.dwellTest k h = none := State.dwellTest_unrouted (by rw [written])
  refine ⟨fun e g he hg => ?_, fun g he => ?_⟩
  · rw [made, State.taken_directed d u undwelt he hg, written]
  · rw [made, State.taken_blocked d u undwelt he, written]

/-- Settles O34. -/
theorem untrackedArrivalsAreCounted : Obligations.UntrackedArrivalsAreCounted := by
  intro k d seq port tag tg s hs hi hr l after
  have counted : ∀ kind, (((s.withLink (s.linkHeard k d)).countUntracked k).placeDirective k kind (some seq)).acknowledge k
      ⟨seq, .ok⟩ = after kind := fun kind => State.answer_placed d (s.countUntracked k) kind
  have taken := (exec_arrival d port tag hs hi).trans
    (congrArg (fun x => Host.Outcome.next (State.acknowledge x k ⟨seq, .ok⟩)) (State.resolveArrival_stranger _ hr))
  refine ⟨fun ht => ?_, fun ht hfull => ?_⟩
  · have outlet : (s.withLink (s.linkHeard k d)).isOutlet k = true := beq_iff_eq.mpr ht
    rw [taken, State.takeStranger, if_pos outlet, counted]
  · have other : ¬ (s.withLink (s.linkHeard k d)).isOutlet k = true := by
      rw [Bool.not_eq_true]; exact State.isOutlet_eq_false ht
    rw [taken, State.takeStranger, if_neg other,
      show (s.withLink (s.linkHeard k d)).lowestFree = none from State.lowestFree_eq_none hfull]
    refine congrArg Host.Outcome.next ((counted _).trans ?_)
    rw [show (s.withLink (s.linkHeard k d)).station k = s.station k from rfl]
    cases (s.station k).rejectExit <;> rfl
end

section
/-! CLEAR (R94 to R97): of a directed occupant by its exit and by another, and of a held one. -/

-- One declaration at a time, which holds the text's memory down.
set_option Elab.async false

namespace Sys2Proof.Machine

/-! ### A held occupant cleared (R96) -/

/-- A held occupant has no reservation: a blocked station leaves its waiter list, and nothing else is released. -/
theorem State.releaseHold_held {s : State} {k : Station} {c : Handle}
    (h : s.custodyOf k = .heldBlocked c ∨ ∃ x, s.custodyOf k = .heldDwell c x) :
    s.releaseHold k = s.withTracker { s.tracker with
      waiters := if s.custodyOf k = .heldBlocked c then s.tracker.waiters.mapRows fun _ w => w.filter (· ≠ k)
        else s.tracker.waiters } := by
  rcases h with h | ⟨x, h⟩
  · rw [State.releaseHold, h, if_pos rfl]; rfl
  · rw [State.releaseHold, h, if_neg nofun]; rfl

theorem Custody.exit?_of_held {x : Custody} {c : Handle} (h : x = .heldBlocked c ∨ ∃ t, x = .heldDwell c t) :
    x.exit? = none := by
  rcases h with rfl | ⟨t, rfl⟩ <;> rfl

/-- A held occupant deviates by whatever exit it leaves. -/
theorem State.routedOut_held {s : State} {k : Station} (c : Handle) (b : Byte) (hc : (s.custodyOf k).exit? = none) :
    s.routedOut k c b
      = (s.modRecord c fun r => { r with flags := { r.flags with deviated := true } }).stageTransition k b c := by
  have deviates : (s.custodyOf k).deviates b = true := by rw [Custody.deviates, hc]
  rw [State.routedOut, State.markDeviation, if_pos deviates]

section
variable {s v : State} {k : Station} {c : Handle} {b : Byte} {x : SegmentTracker}
  (hc : (s.custodyOf k).exit? = none) (hh : s.releaseHold k = s.withTracker x)
  (hv : (s.routedOut k c b).SameRouting v)
include hc hh hv

/-- A clear of a held occupant, up to the segment it leaves by. -/
theorem State.clearOccupant_held :
    s.clearOccupant k c b
      = (((({ s.withTracker x with carriers := v.carriers, routes := v.routes } : State).leaveBy c
          ((s.station k).exitSegment b.toNat)).1.withCustody k .idle).withdrawDirective k) := by
  have routed : (s.withTracker x).routedOut k c b = { s.withTracker x with carriers := v.carriers, routes := v.routes } := by
    have same : (s.routedOut k c b).SameRouting ((s.withTracker x).routedOut k c b) :=
      .routedOut (s := s) (t := s.withTracker x) ⟨rfl, rfl, rfl⟩ rfl k c b
    rw [(State.routedOut_onRoutes _ k c b).1, same.carriers, same.routes, ← hv.carriers, ← hv.routes]
  rw [← routed]
  simp only [State.clearOccupant, hh, hc]
  rfl

variable (hq : x.queues = s.tracker.queues) (hr : x.reserved = s.tracker.reserved)
include hq hr

omit hc hh hv in
theorem State.hasRoom_withTracker (g : Segment) :
    ({ s.withTracker x with carriers := v.carriers, routes := v.routes } : State).hasRoom g = s.hasRoom g := by
  simp only [State.hasRoom, State.depth, State.queue, State.reservedCount, State.withTracker, hq, hr]
  rfl

/-- A held occupant cleared to a segment with room. -/
theorem State.clearOccupant_held_moved {g : Segment} (hg : (s.station k).exitSegment b.toNat = some g)
    (room : s.depth g < (s.segment g).capacity) :
    s.clearOccupant k c b = { s with
      carriers := { v.carriers with
        records := v.carriers.records.set c
          { v.record c with
            state := .inTransit, location := .onSegment g, lastSegment := some g, window := some (s.appendWindow g) } }
      routes := v.routes
      tracker := { x with queues := s.tracker.queues.set g (s.queue g ++ [c]) }
      custody := s.custody.set k .idle
      link := s.linkWith k (s.linkOf k).withdrawn } := by
  have window : ({ s.withTracker x with carriers := v.carriers, routes := v.routes } : State).appendWindow g
      = s.appendWindow g :=
    State.appendWindow_congr g rfl rfl rfl (congrArg (Table.get · g) hq) fun h _ => by
      obtain ⟨-, -, -, kept⟩ := (s.routedOut_onRoutes k c b).2 h
      exact (congrArg CarrierRecord.window (hv.record h)).trans kept
  have queue : ({ s.withTracker x with carriers := v.carriers, routes := v.routes } : State).queue g = s.queue g :=
    congrArg (Table.get · g) hq
  rw [State.clearOccupant_held hc hh hv, hg,
    State.leaveBy_appended _ c ((State.hasRoom_withTracker hq hr g).trans (State.hasRoom_iff.mpr room)), State.append_eq, window,
    queue, State.withdrawDirective_eq]
  simp only [State.withTracker, hq]
  rfl

/-- A held occupant cleared to no segment, or to one without room. -/
theorem State.clearOccupant_held_lost {g : Option Segment} (hg : (s.station k).exitSegment b.toNat = g)
    (full : ∀ y, g = some y → (s.segment y).capacity ≤ s.depth y) :
    s.clearOccupant k c b = { s with
      carriers :=
        { records := v.carriers.records.set c { (v.record c).lostBy .lostDeviated with lastSegment := g }
          exceptionCount := (v.record c).raised v.carriers.exceptionCount }
      routes := v.routes
      tracker := x
      custody := s.custody.set k .idle
      link := s.linkWith k (s.linkOf k).withdrawn } := by
  rw [State.clearOccupant_held hc hh hv, hg, State.leaveBy_lost _ c g fun y hy =>
    (State.hasRoom_withTracker hq hr y).trans ((s.hasRoom_eq_false y).mpr (full y hy)), State.withdrawDirective_eq]
  rfl

end

/-! ### The report of a clear (R97, R175) -/

section
variable {s : State} {k : Station} {seq : Byte} {c : Handle} (d : Option Byte) (b : Byte) (h : s.HandsOn k seq)
include h

/-- An accepted CLEAR: the clear, then the answer's code in the link record that the withdrawal left. -/
theorem exec_clear {y : State} (ho : (s.custodyOf k).occupant? = some c) (hh : (s.custodyOf k).isHalted = false)
    (hy : (s.withLink (s.linkHeard k d)).clearOccupant k c b = y)
    (hl : y.link = (s.withLink (s.linkHeard k d)).linkWith k ((s.withLink (s.linkHeard k d)).linkOf k).withdrawn) :
    exec (.clear (headFrom k d) seq b) s
      = .next (y.withLink (s.linkAfter k (((s.linkOf k).heard d).withdrawn.accepting seq .ok))) := by
  rw [State.linkOf_linkHeard] at hl
  rw [← State.acknowledge_arrival seq hl, ← hy]
  exact execClear_occupied b h ho hh

end

theorem Custody.directed_of {x : Custody} {c : Handle} {e : Exit} (h : x = .jammed c e ∨ ∃ t, x = .occupied c e t) :
    x.exit? = some e ∧ x.occupant? = some c ∧ x.isHalted = false := by
  rcases h with rfl | ⟨t, rfl⟩ <;> exact ⟨rfl, rfl, rfl⟩

theorem Custody.held_of {x : Custody} {c : Handle} (h : x = .heldBlocked c ∨ ∃ t, x = .heldDwell c t) :
    x.occupant? = some c ∧ x.isHalted = false := by
  rcases h with rfl | ⟨t, rfl⟩ <;> exact ⟨rfl, rfl⟩

theorem State.routedOut_withLink (s : State) (l : StationLink) (k : Station) (c : Handle) (b : Byte) :
    ((s.withLink l).routedOut k c b).SameRouting (s.routedOut k c b) :=
  .routedOut (s := s.withLink l) (t := s) ⟨rfl, rfl, rfl⟩ rfl k c b

end Sys2Proof.Machine

open Sys2Proof Sys2Proof.Machine

/-- Settles O37. -/
theorem clearByTheDirectedExit : Obligations.ClearByTheDirectedExit := by
  intro k d seq c e g s h hk hg h0 hr v
  obtain ⟨hc, ho, hh⟩ := Custody.directed_of hk
  have hv : ((s.withLink (s.linkHeard k d)).routedOut k c (byteNat e.val)).SameRouting v := by
    have same := State.routedOut_withLink s (s.linkHeard k d) k c (byteNat e.val)
    rwa [State.routedOut_directed hc] at same
  rw [exec_clear d _ h ho hh
    (State.clearOccupant_directed (s := s.withLink (s.linkHeard k d)) hc hg hv (byteNat_exit_toNat e) h0 hr) rfl]
  rfl

/-- Settles O38. -/
theorem clearByAnotherExit : Obligations.ClearByAnotherExit := by
  intro k d seq b c e g s h hk hb hg u v lostAt t
  obtain ⟨hc, ho, hh⟩ := Custody.directed_of hk
  have hv : ((s.withLink (s.linkHeard k d)).routedOut k c b).SameRouting v := by
    have same := State.routedOut_withLink s (s.linkHeard k d) k c b
    rwa [State.routedOut_another hc hb] at same
  refine ⟨fun g' hx hne hr => ?_, fun g' hx hne hr => ?_, fun hx => ?_⟩
  · rw [exec_clear d b h ho hh
      (State.clearOccupant_moved (s := s.withLink (s.linkHeard k d)) hc hg hv hx hne hr) rfl]
    rfl
  · rw [exec_clear d b h ho hh (State.clearOccupant_lost (s := s.withLink (s.linkHeard k d)) hc hg hv hx
      fun y hy => Option.some.inj hy ▸ ⟨hne, hr⟩) rfl]
    rfl
  · rw [exec_clear d b h ho hh (State.clearOccupant_lost (s := s.withLink (s.linkHeard k d)) hc hg hv hx nofun) rfl]
    rfl

/-- Settles O39. -/
theorem clearOfAHeldCarrier : Obligations.ClearOfAHeldCarrier := by
  intro k d seq b c s h hk u v lostAt t
  obtain ⟨ho, hh⟩ := Custody.held_of hk
  have hc := Custody.exit?_of_held hk
  have hv : ((s.withLink (s.linkHeard k d)).routedOut k c b).SameRouting v := by
    have same := State.routedOut_withLink s (s.linkHeard k d) k c b
    rwa [State.routedOut_held c b hc] at same
  have released := State.releaseHold_held (s := s.withLink (s.linkHeard k d)) hk
  refine ⟨fun g' hx hr => ?_, fun g' hx hr => ?_, fun hx => ?_⟩
  · rw [exec_clear d b h ho hh
      (State.clearOccupant_held_moved (s := s.withLink (s.linkHeard k d)) hc released hv rfl rfl hx hr) rfl]
    rfl
  · rw [exec_clear d b h ho hh (State.clearOccupant_held_lost (s := s.withLink (s.linkHeard k d)) hc released hv rfl rfl hx
      fun y hy => Option.some.inj hy ▸ hr) rfl]
    rfl
  · rw [exec_clear d b h ho hh
      (State.clearOccupant_held_lost (s := s.withLink (s.linkHeard k d)) hc released hv rfl rfl hx nofun) rfl]
    rfl
end

section
/-! The Route Engine and the Route Store: decisions (R128 to R134), stage transitions (R136 to R141), activation (R117, R118)
and bound counts (R119, R121). -/

-- One declaration at a time, which holds the text's memory down.
set_option Elab.async false

namespace Sys2Proof.Machine

/-! ### Exits available (R132, R134) -/

/-- A segment leads to an OUTLET that takes no further carrier (R132). -/
def State.committed (s : State) (g : Segment) : Prop :=
  ∃ st p, (s.segment g).downstream = some (st, p) ∧ (s.station st).type = .outlet
    ∧ ((s.outlet st).closed = true ∨ (s.outlet st).full = true
      ∨ (s.outlet st).capacity ≤ (s.outlet st).delivered + s.depth g)

theorem State.leadsToUnavailable_iff (s : State) (g : Segment) : s.leadsToUnavailable g = true ↔ s.committed g := by
  unfold State.leadsToUnavailable State.committed
  cases hd : (s.segment g).downstream with
  | none => simp
  | some x =>
    obtain ⟨st, p⟩ := x
    simp [State.isOutlet, OutletAccount.unavailable, or_assoc]

section
variable {s : State} {k : Station} {c : Handle} {e : Exit} {g : Segment}

theorem State.exitUnavailable_iff (h : (s.station k).exitSegment e.val = some g) :
    s.exitUnavailable k e = true ↔ s.committed g := by
  rw [State.exitUnavailable, h]; exact s.leadsToUnavailable_iff g

theorem State.exitUnavailable_eq_false (h : (s.station k).exitSegment e.val = some g) (hg : ¬ s.committed g) :
    s.exitUnavailable k e = false := by
  rw [← Bool.not_eq_true, State.exitUnavailable_iff h]; exact hg

theorem State.exitDepth_eq (h : (s.station k).exitSegment e.val = some g) : s.exitDepth k e = s.depth g := by
  rw [State.exitDepth, h]

theorem State.roomTest_eq (h : (s.station k).exitSegment e.val = some g) :
    s.roomTest k e = if s.depth g < (s.segment g).capacity then .toExit e else .blocked (some g) := by
  simp only [State.roomTest, State.exitHasRoom, h, State.hasRoom_iff]

/-- The room test sends a carrier to an exit that has a segment with room. -/
theorem State.roomTest_toExit {e' : Exit} (h : s.roomTest k e = .toExit e') :
    e' = e ∧ ∃ g, (s.station k).exitSegment e.val = some g ∧ s.depth g < (s.segment g).capacity := by
  cases hg : (s.station k).exitSegment e.val with
  | none => simp [State.roomTest, State.exitHasRoom, hg] at h
  | some g =>
    rw [State.roomTest_eq hg] at h
    split at h
    · next hr => exact ⟨(Choice.toExit.inj h).symm, g, rfl, hr⟩
    · cases h

/-! ### The decision (R128, R133) -/

theorem State.decide_available (h : s.exitUnavailable k (s.preferredExit k c).exit = false) :
    s.decide k c = ⟨s.roomTest k (s.preferredExit k c).exit, false, (s.preferredExit k c).flips⟩ :=
  if_neg (by rw [h]; decide)

theorem State.decide_fallback (h : s.exitUnavailable k (s.preferredExit k c).exit = true)
    (h0 : (s.preferredExit k c).exit ≠ 0) (ha : s.exitUnavailable k 0 = false) :
    s.decide k c = ⟨s.roomTest k 0, true, (s.preferredExit k c).flips⟩ :=
  (if_pos h).trans (if_pos ⟨h0, by rw [ha]; decide⟩)

theorem State.decide_stuck (h : s.exitUnavailable k (s.preferredExit k c).exit = true)
    (h0 : (s.preferredExit k c).exit = 0 ∨ s.exitUnavailable k 0 = true) :
    s.decide k c = ⟨.blocked ((s.station k).exitSegment 0), true, (s.preferredExit k c).flips⟩ :=
  (if_pos h).trans (if_neg fun ⟨hne, ha⟩ => h0.elim hne ha)

/-- A decision directs to an exit that is available and has room. -/
theorem State.decide_toExit (h : (s.decide k c).choice = .toExit e) :
    s.exitUnavailable k e = false ∧ s.roomTest k e = .toExit e := by
  cases hp : s.exitUnavailable k (s.preferredExit k c).exit with
  | false =>
    rw [State.decide_available hp] at h
    obtain rfl := (State.roomTest_toExit h).1
    exact ⟨hp, h⟩
  | true =>
    by_cases h0 : (s.preferredExit k c).exit = 0 ∨ s.exitUnavailable k 0 = true
    · rw [State.decide_stuck hp h0] at h; cases h
    · obtain ⟨hne, ha⟩ := not_or.mp h0
      rw [Bool.not_eq_true] at ha
      rw [State.decide_fallback hp hne ha] at h
      obtain rfl := (State.roomTest_toExit h).1
      exact ⟨ha, h⟩

/-! ### The preferred exit (R130, R131) -/

theorem State.preferredExit_single (h : (s.station k).exits.length = 1) : s.preferredExit k c = ⟨0, false⟩ := if_pos h

theorem State.preferredExit_unrouted (h : (s.station k).exits.length ≠ 1) (hr : (s.record c).route = none) :
    s.preferredExit k c = ⟨(s.station k).defaultExit, false⟩ := by
  rw [State.preferredExit, if_neg h, hr]

theorem State.preferredExit_routed {x : RouteRef} {stage : Stage} (h : (s.station k).exits.length ≠ 1)
    (hr : (s.record c).route = some x) (hs : s.stageOf x = some stage) :
    s.preferredExit k c = match (s.setOf stage.set).entryFor k with
      | some (.fixed a) => ⟨a, false⟩
      | some (.balance a b) => s.balance k a b
      | none => ⟨0, false⟩ := by
  rw [State.preferredExit, if_neg h, hr]
  simp only [State.routeEntry, hs, Option.bind_some] <;> rfl

end

/-- The choice of a BALANCE entry, by what its exits lead to. -/
theorem State.balance_cases {s : State} {k : Station} {a b : Exit} {ga gb : Segment}
    (ha : (s.station k).exitSegment a.val = some ga) (hb : (s.station k).exitSegment b.val = some gb) :
    (s.committed gb → s.balance k a b = ⟨a, false⟩)
    ∧ (s.committed ga → ¬ s.committed gb → s.balance k a b = ⟨b, false⟩)
    ∧ (¬ s.committed ga → ¬ s.committed gb → s.balance k a b
      = if s.depth ga < s.depth gb then ⟨a, false⟩
        else if s.depth gb < s.depth ga then ⟨b, false⟩
        else ⟨if s.toggles.get k then b else a, true⟩) := by
  refine ⟨fun hc => ?_, fun hc hn => ?_, fun hn hn' => ?_⟩
  · rw [State.balance, (State.exitUnavailable_iff hb).mpr hc]
    cases s.exitUnavailable k a <;> rfl
  · rw [State.balance, (State.exitUnavailable_iff ha).mpr hc, State.exitUnavailable_eq_false hb hn]; rfl
  · rw [State.balance, State.exitUnavailable_eq_false ha hn, State.exitUnavailable_eq_false hb hn', State.exitDepth_eq ha,
      State.exitDepth_eq hb]
    rfl

/-! ### Stage transitions (R136 to R141) -/

section
variable {s : State} {k : Station} {b : Byte} {c : Handle} {x : RouteRef} {p : Program} {stage : Stage}

theorem State.applyPending_eq (s : State) (c : Handle) (q : Slot) :
    s.applyPending c q = { s with
      carriers := { s.carriers with
        records := s.carriers.records.set c { (s.record c).newRoute q with pendingRoute := none } }
      routes := (s.unbindSlot? ((s.record c).route.map RouteRef.slot)).routes } := by
  rw [State.applyPending, State.unbindSlot?_eq]; rfl

theorem State.enterStage_eq (s : State) (c : Handle) (r : RouteRef) :
    s.enterStage c r = { s with
      carriers := { s.carriers with
        records := s.carriers.records.set c
          { s.record c with route := some r, flags := { (s.record c).flags with dwelt := false } } } } := rfl

theorem State.stageTransition_pending {q : Slot} (h : (s.record c).pendingRoute = some q) :
    s.stageTransition k b c = s.applyPending c q := by
  rw [State.stageTransition, h]

theorem State.stageTransition_unrouted (h : (s.record c).pendingRoute = none) (hr : (s.record c).route = none) :
    s.stageTransition k b c = s := by
  rw [State.stageTransition, h, hr]

theorem State.stageTransition_staged (h : (s.record c).pendingRoute = none) (hr : (s.record c).route = some x)
    (hp : s.programOf x.slot = some p) (hs : p.stages.get x.stage = some stage) :
    s.stageTransition k b c = s.endAction k b c x p stage := by
  simp only [State.stageTransition, h, hr, hp, hs]

theorem State.endAction_advance (ha : stage.endAction = .advance) (hb : stage.boundary = k) :
    s.endAction k b c x p stage = s.takeAdvance c x := by
  rw [State.endAction, ha]; exact if_pos hb

theorem State.endAction_loop (ha : stage.endAction = .loop) (hb : stage.boundary = k) :
    s.endAction k b c x p stage = s.takeLoop c x p := by
  rw [State.endAction, ha]; exact if_pos hb

theorem State.endAction_elsewhere (ha : stage.endAction ≠ .finish) (hb : stage.boundary ≠ k) :
    s.endAction k b c x p stage = s := by
  rw [State.endAction]
  cases h : stage.endAction with
  | advance => exact if_neg hb
  | loop => exact if_neg hb
  | finish => exact absurd h ha

/-- At a FINISH stage its approach decides whether the boundary is missed. -/
theorem State.endAction_finish {g : Segment} {ast : Station} {ae : Exit} (ha : stage.endAction = .finish)
    (hg : (s.station stage.boundary).port0 = some g) (hu : (s.segment g).upstream = some (ast, ae)) :
    s.endAction k b c x p stage = if ast = k ∧ b.toNat ≠ ae.val then s.takeLoop c x p else s := by
  have approach : s.approach stage.boundary = some (ast, ae) := by rw [State.approach, hg, Option.bind_some, hu]
  rw [State.endAction, ha, approach]

theorem State.takeAdvance_eq {n : StageNo} (hn : n.val = x.stage.val + 1) :
    s.takeAdvance c x = s.enterStage c ⟨x.slot, n, x.laps⟩ := by
  have inside : x.stage.val + 1 < Config.stages := hn ▸ n.isLt
  obtain rfl : n = ⟨x.stage.val + 1, inside⟩ := Fin.ext hn
  exact dif_pos inside

/-- A carrier that has had its laps. -/
def State.exhaust (s : State) (c : Handle) : State :=
  s.modRecord c fun r => { r with flags := { r.flags with exhausted := true } }

theorem State.takeLoop_noBase (h : p.loopBase = none) : s.takeLoop c x p = s.strand c := by
  rw [State.takeLoop, h]

theorem State.takeLoop_exhausted (h : (s.record c).flags.exhausted = true) : s.takeLoop c x p = s.strand c := by
  unfold State.takeLoop
  split
  · rfl
  · exact if_pos h

section
variable {base : StageNo} (h : (s.record c).flags.exhausted = false) (hb : p.loopBase = some base)
include h hb

theorem State.takeLoop_lap (hl : x.laps + 1 < p.lapLimit) :
    s.takeLoop c x p = s.enterStage c ⟨x.slot, base, x.laps + 1⟩ := by
  rw [State.takeLoop, hb]
  exact (if_neg (by rw [h]; decide)).trans (if_pos hl)

variable (hl : p.lapLimit = x.laps + 1)
include hl

theorem State.takeLoop_last {last : StageNo} (hx : p.exhaustStage = some last) :
    s.takeLoop c x p = (s.exhaust c).enterStage c ⟨x.slot, last, x.laps + 1⟩ := by
  rw [State.takeLoop, hb]
  refine ((if_neg (by rw [h]; decide)).trans (if_neg (by omega))).trans ?_
  rw [hx, ← hl]; rfl

theorem State.takeLoop_spent (hx : p.exhaustStage = none) : s.takeLoop c x p = (s.exhaust c).strand c := by
  rw [State.takeLoop, hb]
  refine ((if_neg (by rw [h]; decide)).trans (if_neg (by omega))).trans ?_
  rw [hx]; rfl

end

end

theorem State.exhaust_strand_eq (s : State) (c : Handle) :
    (s.exhaust c).strand c = { s with
      carriers :=
        { records := s.carriers.records.set c
            { s.record c with
              route := none, exception := some .stranded
              flags := { (s.record c).flags with dwelt := false, exhausted := true } }
          exceptionCount := (s.record c).raised s.carriers.exceptionCount }
      routes := (s.unbindSlot? ((s.record c).route.map RouteRef.slot)).routes } := by
  have exhausted : (s.exhaust c).record c
      = { s.record c with flags := { (s.record c).flags with exhausted := true } } := Table.get_set_self ..
  rw [State.strand_eq, exhausted, State.unbindSlot?_congr s (s.exhaust c) _ rfl]
  simp only [State.exhaust, State.modRecord_eq, Table.set_set]
  rfl

theorem State.exhaust_enterStage_eq (s : State) (c : Handle) (r : RouteRef) :
    (s.exhaust c).enterStage c r = { s with
      carriers := { s.carriers with
        records := s.carriers.records.set c
          { s.record c with
            route := some r, flags := { (s.record c).flags with dwelt := false, exhausted := true } } } } := by
  have exhausted : (s.exhaust c).record c
      = { s.record c with flags := { (s.record c).flags with exhausted := true } } := Table.get_set_self ..
  rw [State.enterStage_eq, exhausted]
  simp only [State.exhaust, State.modRecord_eq, Table.set_set]

/-! ### Activation (R117, R118) -/

theorem exec_routeActivate (b : Byte) (s : State) :
    exec (.routeActivate b) s = hostCommand 0x25 1 (·.routeActivateCommand b) s := rfl

theorem State.routeActivateCommand_badParam (s : State) {b : Byte} (h : 32 ≤ b.toNat) :
    s.routeActivateCommand b = refuse s .badParam := by
  rw [State.routeActivateCommand, index?_eq_none.mpr h]

theorem State.routeActivateCommand_wrongState (s : State) {q : Slot} (h : ∀ p, (s.slotOf q).state ≠ .draft p) :
    s.routeActivateCommand (byteNat q.val) = refuse s .wrongState := by
  simp only [State.routeActivateCommand, index?_slot, SlotState.draft?_eq_none h]

theorem State.routeActivateCommand_active (s : State) {q : Slot} {p : Program} (h : (s.slotOf q).state = .draft p)
    (hv : ∀ k : StageNo, k.val < p.stageCount → s.StageValid p k) :
    s.routeActivateCommand (byteNat q.val)
      = accept ((s.withSlot q { state := .active p, bound := 0 }).countReferences p) := by
  simp only [State.routeActivateCommand, index?_slot, h, SlotState.draft?_draft, (s.activationFault_eq_none p).mpr hv]

theorem State.routeActivateCommand_fails (s : State) {q : Slot} {p : Program} {k : StageNo} {f : StageFault}
    (h : (s.slotOf q).state = .draft p) (hf : s.activationFault p = some (k, f)) :
    s.routeActivateCommand (byteNat q.val)
      = (s, { code := .validationFailed, data := [3, byteNat q.val, f.code, byteNat k.val] }) := by
  simp only [State.routeActivateCommand, index?_slot, h, SlotState.draft?_draft, hf]

theorem State.setOf_countReferences (s : State) (p : Program) (i : SetNo) :
    (s.countReferences p).setOf i = { s.setOf i with references := (s.setOf i).references + p.uses i } :=
  Table.get_mapRows ..

/-! ### Bound counts (R119, R121) -/

theorem State.unbindSlot_kept {s : State} {q : Slot}
    (h : (∀ p, (s.slotOf q).state ≠ .draining p) ∨ 1 < (s.slotOf q).bound) :
    s.unbindSlot q = s.withSlot q { s.slotOf q with bound := (s.slotOf q).bound - 1 } := by
  simp only [State.unbindSlot]
  split
  · next p hp => exact if_neg (by have := h.resolve_left fun hn => hn p hp; omega)
  · rfl

theorem State.unbindSlot_emptied {s : State} {q : Slot} {p : Program} (hp : (s.slotOf q).state = .draining p)
    (hb : (s.slotOf q).bound ≤ 1) :
    s.unbindSlot q = (s.withSlot q { state := .empty, bound := 0 }).releaseReferences p := by
  simp only [State.unbindSlot]
  split
  · next p' hp' =>
    obtain rfl := SlotState.draining.inj (hp.symm.trans hp')
    exact if_pos (by omega)
  · next hn => exact absurd hp (hn p)

end Sys2Proof.Machine

open Sys2Proof Sys2Proof.Machine

/-- Settles O41. -/
theorem decisionsChooseAvailableExits : Obligations.DecisionsChooseAvailableExits := by
  intro k c s r committed
  refine ⟨fun e h => ?_, fun h => State.preferredExit_single h, fun h hr => State.preferredExit_unrouted h hr,
    fun x stage h hr hs => ⟨fun a he => ?_, fun he => ?_, fun a b ga gb he ha hb => ?_⟩, fun g hg => ⟨fun hc => ?_,
    fun hc g0 hg0 => ⟨fun h => ?_, fun hne h => ?_⟩⟩⟩
  · obtain ⟨available, room⟩ := State.decide_toExit h
    obtain ⟨-, g, hg, hr⟩ := State.roomTest_toExit room
    exact ⟨g, hg, hr, fun hc => by rw [(State.exitUnavailable_iff hg).mpr hc] at available; cases available⟩
  · rw [State.preferredExit_routed h hr hs, he]
  · rw [State.preferredExit_routed h hr hs, he]
  · obtain ⟨committed_b, committed_a, viable⟩ := State.balance_cases ha hb
    rw [State.preferredExit_routed h hr hs, he]
    refine ⟨committed_b, committed_a, fun hn hn' => ⟨fun hlt => ?_, fun hlt => ?_, fun heq => ?_⟩⟩
    · exact (viable hn hn').trans (if_pos hlt)
    · exact (viable hn hn').trans ((if_neg (by omega)).trans (if_pos hlt))
    · exact (viable hn hn').trans ((if_neg (by omega)).trans (if_neg (by omega)))
  · rw [State.decide_available (State.exitUnavailable_eq_false hg hc), State.roomTest_eq hg]
  · rw [State.decide_stuck ((State.exitUnavailable_iff hg).mpr hc)
      (h.imp_right fun h0 => (State.exitUnavailable_iff hg0).mpr h0), hg0]
  · rw [State.decide_fallback ((State.exitUnavailable_iff hg).mpr hc) hne (State.exitUnavailable_eq_false hg0 h),
      State.roomTest_eq hg0]

/-- Settles O42. -/
theorem stageTransitionsFollowTheProgram : Obligations.StageTransitionsFollowTheProgram := by
  intro k b c s r t moved stranded
  refine ⟨fun q hq => ?_, fun hp hr => State.stageTransition_unrouted hp hr, fun x p stage hp hr hpr hst => ?_⟩
  · exact (State.stageTransition_pending hq).trans (State.applyPending_eq s c q)
  · intro looped laps
    have staged : t = s.endAction k b c x p stage := State.stageTransition_staged hp hr hpr hst
    have loop_laps : t = s.takeLoop c x p → laps := fun ht => by
      refine ⟨fun he => ?_, fun base he hb => ⟨fun hl => ?_, fun hl => ⟨fun last hx => ?_, fun hx => ?_⟩⟩⟩
      · exact ht.trans ((State.takeLoop_exhausted he).trans ((State.strand_eq s c).trans (congrArg stranded he)))
      · exact ht.trans (State.takeLoop_lap he hb hl)
      · exact ht.trans ((State.takeLoop_last he hb hl hx).trans (State.exhaust_enterStage_eq s c _))
      · exact ht.trans ((State.takeLoop_spent he hb hl hx).trans (State.exhaust_strand_eq s c))
    refine ⟨fun ha hb n hn => ?_, fun ha hb _ => ?_, fun ha hb => ?_, fun g ast ae ha hg hu => ⟨fun h => ?_,
      fun hk hne => ?_⟩⟩
    · exact staged.trans ((State.endAction_advance ha hb).trans (State.takeAdvance_eq hn))
    · exact loop_laps (staged.trans (State.endAction_loop ha hb))
    · exact staged.trans (State.endAction_elsewhere ha hb)
    · exact staged.trans ((State.endAction_finish ha hg hu).trans (if_neg fun ⟨hk, hne⟩ => h.elim (· hk) hne))
    · have missed := staged.trans ((State.endAction_finish ha hg hu).trans (if_pos ⟨hk, hne⟩))
      refine ⟨fun hb => ?_, loop_laps missed⟩
      exact missed.trans ((State.takeLoop_noBase hb).trans (State.strand_eq s c))

/-- Settles O45. -/
theorem activationChecksEveryStage : Obligations.ActivationChecksEveryStage := by
  refine fun q s ht => ⟨fun p hp => ⟨fun hv => ?_, fun k hk hk' hlow => ?_⟩, fun h => ?_, fun b h => ?_⟩
  · have active : exec (.routeActivate (byteNat q.val)) s = .next
        { (s.withSlot q { state := .active p, bound := 0 }).countReferences p with port := s.portAfter 0x25 1 .ok [] } := by
      rw [exec_routeActivate]
      exact hostCommand_accepted ht fun w => State.routeActivateCommand_active (s.withPort w) hp hv
    exact ⟨_, active, rfl, fun i => State.setOf_countReferences (s.withSlot q { state := .active p, bound := 0 }) p i⟩
  · obtain ⟨f, hf, hfirst⟩ := (s.stageFault_reports p k).exists_of_not (mt (s.stageValid_iff p k).mpr hk')
    refine ⟨⟨_, hfirst⟩, fun reason hreason => ?_⟩
    have code : reason = f.code := by
      have same := (s.stageFault_reports p k).eq_some hreason
      rw [hf] at same
      exact (Option.some.inj same).symm
    have lowest := s.activationFault_lowest hk hf hlow
    rw [exec_routeActivate, code]
    exact hostCommand_answered (t := s) (block := (·.routeActivateCommand (byteNat q.val)))
      (r := { code := .validationFailed, data := [3, byteNat q.val, f.code, byteNat k.val] }) ht fun w =>
        State.routeActivateCommand_fails (s.withPort w) hp lowest
  · rw [exec_routeActivate]
    exact hostCommand_refused ht fun w => State.routeActivateCommand_wrongState (s.withPort w) h
  · rw [exec_routeActivate]
    exact hostCommand_refused ht fun w => State.routeActivateCommand_badParam (s.withPort w) h

/-- Settles O47. -/
theorem boundCountsAndDraining : Obligations.BoundCountsAndDraining := by
  refine fun q s => ⟨rfl, fun h => ?_, fun p hp hb => ⟨s.unbindSlot q, ?_, rfl, fun i => ?_⟩⟩
  · rw [State.unbindSlot_kept h]; rfl
  · rw [State.unbindSlot_emptied hp hb]; rfl
  · rw [State.unbindSlot_emptied hp hb, State.setOf_releaseReferences]; rfl
end

section
/-! The Station Link: whose turn a poll is, the end of a transaction, the frames discarded, and the reports that are not acted on. -/

-- One declaration at a time, which holds the text's memory down.
set_option Elab.async false

namespace Sys2Proof.Machine

/-! ### The next station of the round (R169) -/

/-- The first element of a finite range with a property is the lowest one. -/
theorem find?_finRange_eq_some {n : Nat} {p : Fin n → Bool} {k : Fin n} :
    (List.finRange n).find? p = some k ↔ p k = true ∧ ∀ j < k, p j = false := by
  rw [List.find?_eq_some_iff_getElem]
  refine and_congr_right fun _ => ⟨fun ⟨i, hi, he, hlow⟩ j hj => ?_, fun hlow => ⟨k.val, by simp, by simp, fun j hj => ?_⟩⟩
  · have hk : i = k.val := by rw [← he]; simp
    simpa using hlow j.val (hk ▸ hj)
  · simpa using hlow ⟨j, by omega⟩ hj

theorem State.configuredStations_head? (s : State) :
    s.configuredStations.head? = (List.finRange Config.stations).find? s.configured := List.head?_filter ..

theorem State.configuredStations_above (s : State) (l : Station) :
    s.configuredStations.find? (fun st : Station => l < st)
      = (List.finRange Config.stations).find? fun st : Station => s.configured st && (l < st : Bool) := by
  simp only [State.configuredStations, List.find?_filter, Bool.decide_and, Bool.decide_eq_true]

theorem State.nextPolled_eq_some {s : State} {k : Station} (h : s.nextInRound k) : s.nextPolled = some k := by
  obtain ⟨hk, hround⟩ := h
  have lowest : (∀ j < k, s.configured j = false) → s.configuredStations.head? = some k := fun hlow => by
    rw [State.configuredStations_head?, find?_finRange_eq_some]; exact ⟨hk, hlow⟩
  cases hl : s.link.lastPolled with
  | none =>
    rw [hl] at hround
    simp only [State.nextPolled, hl, lowest hround]
  | some l =>
    rw [hl] at hround
    simp only [State.nextPolled, hl]
    rcases hround with ⟨hlt, hlow⟩ | ⟨habove, hlow⟩
    · have next : s.configuredStations.find? (fun st : Station => l < st) = some k := by
        rw [State.configuredStations_above, find?_finRange_eq_some]
        exact ⟨by simp [hk, hlt], fun j hj => by
          rcases lt_or_ge l j with hlj | hlj
          · simp [hlow j hlj hj]
          · simp [not_lt.mpr hlj]⟩
      rw [next]
    · have none_above : s.configuredStations.find? (fun st : Station => l < st) = none := by
        rw [State.configuredStations_above, List.find?_eq_none]
        intro j _
        by_cases hlj : l < j
        · simp [habove j hlj]
        · simp [hlj]
      rw [none_above]
      exact lowest hlow

theorem State.nextPolled_eq_none {s : State} (h : ∀ k, s.configured k = false) : s.nextPolled = none := by
  have empty : s.configuredStations = [] := List.filter_eq_nil_iff.mpr fun k _ => by simp [h k]
  unfold State.nextPolled
  rw [empty]
  cases s.link.lastPolled with
  | none | some l => rfl

theorem State.sendPoll_next {s : State} {k : Station} (ho : s.link.outstanding = none) (h : s.nextInRound k) :
    s.sendPoll
      = s.withLink { s.link with lastPolled := some k, outstanding := some k, pollFrame := s.pollFrame k } := by
  simp only [State.sendPoll, ho, State.nextPolled_eq_some h]

theorem State.sendPoll_idle {s : State} (h : s.link.outstanding ≠ none ∨ ∀ k, s.configured k = false) : s.sendPoll = s := by
  unfold State.sendPoll
  rcases h with ho | hc
  · obtain ⟨j, hj⟩ := Option.ne_none_iff_exists'.mp ho
    rw [hj]
  · rw [State.nextPolled_eq_none hc]
    cases s.link.outstanding with
    | none | some j => rfl

theorem ackBytes_eq (a : Option SeqCode) : ackBytes a
    = [(match a with | some a => a.seq | none => 0), (match a with | some a => a.code.code | none => 0xFF)] := by
  cases a with
  | none | some a => rfl

theorem DirectiveSlot.offer_eq (x : DirectiveSlot) : x.offer = (match x with
    | .undelivered ⟨.pass, n, _⟩ => [1, 0, n]
    | .undelivered ⟨.divert e, n, _⟩ => [2, byteNat e.val, n]
    | .undelivered ⟨.hold, n, _⟩ => [3, 0, n]
    | .undelivered ⟨.release e, n, _⟩ => [4, byteNat e.val, n]
    | .undelivered ⟨.accept, n, _⟩ => [5, 0, n]
    | _ => [0, 0, 0]) := by
  rcases x with _ | ⟨kind, n, a⟩ | d
  · rfl
  · cases kind with
    | pass | divert | hold | release | accept => rfl
  · rfl

/-! ### A transaction's end (R171 to R173) -/

/-- The record of the transaction's station written once more. -/
theorem State.withLinkOf_linkAfter (s : State) (k : Station) (l m : LinkRecord) :
    (s.withLink (s.linkAfter k l)).withLinkOf k m = s.withLink (s.linkAfter k m) := by
  show s.withLink { s.linkAfter k l with records := (s.link.records.set k l).set k m } = _
  rw [Table.set_set]; rfl

theorem State.linkOf_linkAfter (s : State) (k : Station) (l : LinkRecord) :
    (s.withLink (s.linkAfter k l)).linkOf k = l := Table.get_set_self ..

theorem State.configured_linkAfter {s : State} {k : Station} {b : Bool} (h : s.configured k = b) (l : LinkRecord) :
    (s.withLink (s.linkAfter k l)).configured k = b := h

theorem LinkRecord.missed_eq (l : LinkRecord) : l.missed
    = { l with missCount := min (l.missCount + 1) 3, state := if 3 ≤ l.missCount + 1 then .down else l.state } := by
  have : min (l.missCount + 1) 3 = 3 ↔ 3 ≤ l.missCount + 1 := by omega
  simp only [LinkRecord.missed, this]

/-- The directive acknowledgement is read into the slot alone. -/
theorem LinkRecord.acknowledgeDirective_eq (l : LinkRecord) (d : Option Byte) :
    l.acknowledgeDirective d = { l with slot := (l.heard d).slot } := by
  rcases l with ⟨state, miss, accepted, acknowledgement, slot, last⟩
  cases slot with
  | empty | delivered x => rfl
  | undelivered x =>
    show (if d = some x.number then _ else _) = _
    by_cases hd : d = some x.number
    · simp [LinkRecord.heard, hd]
    · simp [LinkRecord.heard, hd]

theorem State.beginAnswer_unconfigured {s : State} {k : Station} (d : Option Byte) (h : s.configured k = false) :
    s.beginAnswer k d = s.withLink (s.linkAfter k { s.linkOf k with slot := ((s.linkOf k).heard d).slot }) := by
  rw [← LinkRecord.acknowledgeDirective_eq]
  simp only [State.beginAnswer, h, Bool.false_eq_true, if_false]
  rfl

/-! ### Frames that are no valid answer (R171, R201) -/

theorem parseAnswer_eq_none {k : Station} {bytes : List Byte}
    (h : bytes.length ≠ 12 ∨ bytes.getLast? ≠ some (crc8 bytes.dropLast) ∨ bytes.head? ≠ some (byteNat k.val)
      ∨ (bytes[1]?.map fun b => b.extractLsb' 1 2) = some 3#2) : parseAnswer k bytes = none := by
  unfold parseAnswer
  split
  case h_2 => rfl
  case h_1 b0 b1 b2 b3 b4 t0 t1 t2 t3 t4 t5 check =>
    by_cases hv : crc8 [b0, b1, b2, b3, b4, t0, t1, t2, t3, t4, t5] = check ∧ b0.toNat = k.val
    case neg => rw [if_neg hv]
    rw [if_pos hv]
    obtain ⟨hcheck, hstation⟩ := hv
    have station : b0 = byteNat k.val := by rw [← hstation]; simp [byteNat]
    have kind : b1.extractLsb' 1 2 = 3#2 := by
      rcases h with h | h | h | h
      · exact absurd rfl h
      · exact absurd (congrArg some hcheck.symm) h
      · exact absurd (congrArg some station) h
      · exact Option.some.inj h
    rw [kind]
    rfl

theorem State.receiveFrame_discarded {s : State} {bytes : List Byte}
    (h : ∀ k, s.link.outstanding = some k → parseAnswer k bytes = none) : s.receiveFrame bytes = s := by
  have none_valid : (s.link.outstanding.bind fun k => parseAnswer k bytes) = none := by
    cases ho : s.link.outstanding with
    | none => rfl
    | some k => exact h k ho
  rw [State.receiveFrame, none_valid]

/-! ### Reports (R174 to R176) -/

/-- The report an ARRIVAL or a CLEAR spells. -/
def Report.SpelledBy (i : Instr) (k : Station) (d : Option Byte) (seq b : Byte) (tag : Tag) : Report → Prop
  | .arrival port t => port = b ∧ t = tag ∧ i = .arrival (headFrom k d) seq b tag
  | .clear e => e = b ∧ i = .clear (headFrom k d) seq b

theorem Report.exists_spelledBy {k : Station} {d : Option Byte} {seq b : Byte} {tag : Tag} {i : Instr}
    (h : i = .arrival (headFrom k d) seq b tag ∨ i = .clear (headFrom k d) seq b) :
    ∃ r : Report, r.SpelledBy i k d seq b tag := by
  rcases h with h | h
  · exact ⟨.arrival b tag, rfl, rfl, h⟩
  · exact ⟨.clear b, rfl, h⟩

section
variable {s : State} {k : Station} {d : Option Byte} {seq b : Byte} {tag : Tag} {i : Instr} {r : Report}

theorem State.takeAnswer_polled (ho : s.link.outstanding = some k) (x : Option (Byte × Report)) :
    s.takeAnswer (headFrom k d) x = match x with
      | none => s.beginAnswer k d
      | some (seq, r) => (s.beginAnswer k d).takeReport k seq r := by
  simp only [State.takeAnswer, State.polled_headFrom ho]
  rfl

theorem exec_report (ho : s.link.outstanding = some k) (hi : r.SpelledBy i k d seq b tag) :
    exec i s = .next ((s.beginAnswer k d).takeReport k seq r) := by
  cases r with
  | arrival port t =>
    obtain ⟨rfl, rfl, rfl⟩ := hi
    exact congrArg Host.Outcome.next (State.takeAnswer_polled ho _)
  | clear e =>
    obtain ⟨rfl, rfl⟩ := hi
    exact congrArg Host.Outcome.next (State.takeAnswer_polled ho _)

theorem State.takeReport_unconfigured (h : s.configured k = false) :
    s.takeReport k seq r = s.acknowledge k ⟨seq, .unknownStation⟩ := by
  simp [State.takeReport, h]

theorem State.takeReport_duplicate {code : ReportCode} (h : s.configured k = true)
    (ha : (s.linkOf k).accepted = some ⟨seq, code⟩) :
    s.takeReport k seq r = s.withLinkOf k ((s.linkOf k).duplicate ⟨seq, code⟩) := by
  simp [State.takeReport, h, ha]

theorem State.takeReport_fresh (h : s.configured k = true) (hf : ∀ a, (s.linkOf k).accepted = some a → a.seq ≠ seq) :
    s.takeReport k seq r
      = (s.handOnReport k seq r).1.acknowledge k ⟨seq, (s.handOnReport k seq r).2⟩ := by
  simp only [State.takeReport, h]
  cases ha : (s.linkOf k).accepted with
  | none => rfl
  | some a => simp [hf a ha]

/-- A report that custody leaves the state for is answered in the link record alone. -/
theorem State.takeReport_unmoved {code : ReportCode} (ho : s.link.outstanding = some k) (hc : s.configured k = true)
    (hi : r.SpelledBy i k d seq b tag) (hf : ∀ a, ((s.linkOf k).heard d).accepted = some a → a.seq ≠ seq)
    (hr : ∀ l, (s.withLink l).handOnReport k seq r = (s.withLink l, code)) :
    exec i s = .next (s.withLink (s.linkAfter k
      (if code.accepts then ((s.linkOf k).heard d).accept ⟨seq, code⟩ else ((s.linkOf k).heard d).refuse ⟨seq, code⟩))) := by
  have record := s.linkOf_linkAfter k ((s.linkOf k).heard d)
  rw [exec_report ho hi, State.beginAnswer_eq d hc, State.takeReport_fresh (State.configured_linkAfter hc _) (by rwa [record]), hr,
    State.acknowledge, record, State.withLinkOf_linkAfter]

theorem State.handOnReport_notRunning (h : s.map.device ≠ .running) : s.handOnReport k seq r = (s, .notRunning) := by
  unfold State.handOnReport
  rw [if_pos h]

theorem State.handOnReport_halted (hd : s.map.device = .running) (h : (s.custodyOf k).isHalted = true) :
    s.handOnReport k seq r = (s, .halted) := by
  obtain ⟨v, hv⟩ : ∃ v, s.custodyOf k = .halted v := by
    cases hc : s.custodyOf k with
    | halted v => exact ⟨v, rfl⟩
    | idle | occupied | heldDwell | heldBlocked | jammed => rw [hc] at h; cases h
  unfold State.handOnReport
  rw [if_neg (not_not.mpr hd)]
  cases r with
  | arrival port t => simp only [State.takeArrival, hv]
  | clear e => simp only [State.takeClear, hv]

theorem State.handOnReport_busy {port : Byte} {t : Tag} (hd : s.map.device = .running)
    (hh : (s.custodyOf k).isHalted = false) (hi : s.custodyOf k ≠ .idle) :
    s.handOnReport k seq (.arrival port t) = (s, .stationBusy) := by
  unfold State.handOnReport
  rw [if_neg (not_not.mpr hd)]
  show s.takeArrival k seq port t = _
  unfold State.takeArrival
  cases hc : s.custodyOf k with
  | idle => exact absurd hc hi
  | halted v => rw [hc] at hh; cases hh
  | occupied | heldDwell | heldBlocked | jammed => rfl

theorem State.handOnReport_noOccupant {e : Byte} (hd : s.map.device = .running) (hi : s.custodyOf k = .idle) :
    s.handOnReport k seq (.clear e) = (s, .noOccupant) := by
  unfold State.handOnReport
  rw [if_neg (not_not.mpr hd)]
  simp only [State.takeClear, hi]

end

end Sys2Proof.Machine

open Sys2Proof Sys2Proof.Machine

/-- Settles O51: the round is a search of the configured stations above the last one polled, then of all of them. -/
theorem pollGoesRoundRobin : Obligations.PollGoesRoundRobin := by
  unfold Obligations.PollGoesRoundRobin
  refine ⟨fun k s ho hn => ⟨_, rfl, ?_⟩, fun s h => congrArg Host.Outcome.next (State.sendPoll_idle h)⟩
  have frame := s.linkOf k |>.slot.offer_eq
  have ack := ackBytes_eq (s.linkOf k).acknowledgement
  show Host.Outcome.next s.sendPoll = _
  rw [State.sendPoll_next ho hn]
  simp only [State.pollFrame, ack, frame]
  rfl

/-- Settles O52. -/
theorem transactionsEnd : Obligations.TransactionsEnd := by
  unfold Obligations.TransactionsEnd
  refine ⟨⟨fun k s ho => ?_, fun s ho => ?_⟩, fun k d s ho => ?_⟩
  · show Host.Outcome.next s.closeWindow = _
    rw [State.closeWindow, ho]
    simp only [LinkRecord.missed_eq]
    rfl
  · show Host.Outcome.next s.closeWindow = _
    rw [State.closeWindow, ho]
  · have taken : exec (.answer (headFrom k d)) s = .next (s.beginAnswer k d) :=
      congrArg Host.Outcome.next (State.takeAnswer_polled ho none)
    rw [taken]
    cases hc : s.configured k with
    | true => rw [State.beginAnswer_eq d hc, if_pos rfl]; rfl
    | false => rw [State.beginAnswer_unconfigured d hc, if_neg Bool.false_ne_true]; rfl

/-- Settles O53: such bytes spell no answer of the station polled. -/
theorem invalidAnswersAreDiscarded : Obligations.InvalidAnswersAreDiscarded := by
  unfold Obligations.InvalidAnswersAreDiscarded
  intro bytes s h
  exact congrArg Host.Outcome.next (State.receiveFrame_discarded fun k ho => parseAnswer_eq_none (h k ho))

/-- Settles O54: custody leaves the state as it is, so only the answer is written, over the transaction's end. -/
theorem reportsNotActedOnTouchOnlyTheLink : Obligations.ReportsNotActedOnTouchOnlyTheLink := by
  unfold Obligations.ReportsNotActedOnTouchOnlyTheLink
  intro k d seq b tag s ho i hi
  obtain ⟨r, hr⟩ := Report.exists_spelledBy hi
  intro l
  refine ⟨fun hc => ?_, fun code hc ha => ?_, fun hc hf => ⟨fun hd => ?_, fun hd hh => ?_, fun hd hh hn he => ?_,
    fun hd hidle he => ?_⟩⟩
  · rw [exec_report ho hr, State.beginAnswer_unconfigured d hc, State.takeReport_unconfigured (State.configured_linkAfter hc _), State.acknowledge,
      State.linkOf_linkAfter, State.withLinkOf_linkAfter]
    rfl
  · have record := s.linkOf_linkAfter k l
    rw [exec_report ho hr, State.beginAnswer_eq d hc, State.takeReport_duplicate (State.configured_linkAfter hc _) (by rw [record]; exact ha), record,
      State.withLinkOf_linkAfter]
    rfl
  · exact State.takeReport_unmoved ho hc hr hf fun _ => State.handOnReport_notRunning hd
  · exact State.takeReport_unmoved ho hc hr hf fun _ => State.handOnReport_halted hd hh
  · exact State.takeReport_unmoved (r := .arrival b tag) ho hc ⟨rfl, rfl, he⟩ hf fun _ =>
      State.handOnReport_busy hd hh hn
  · exact State.takeReport_unmoved (tag := tag) (r := .clear b) ho hc ⟨rfl, he⟩ hf fun _ =>
      State.handOnReport_noOccupant hd hidle
end

section
/-! The outlet commands: the account each writes and answers, and what each refuses. -/

-- One declaration at a time, which holds the text's memory down.
set_option Elab.async false

namespace Sys2Proof.Machine

theorem exec_outletClose (b : Byte) (s : State) :
    exec (.outletClose b) s = hostCommand 0x55 1 (·.outletCloseCommand b) s := rfl

theorem exec_outletOpen (b : Byte) (s : State) :
    exec (.outletOpen b) s = hostCommand 0x56 1 (·.outletOpenCommand b) s := rfl

theorem exec_outletEmptied (b : Byte) (s : State) :
    exec (.outletEmptied b) s = hostCommand 0x57 1 (·.outletEmptiedCommand b) s := rfl

theorem exec_outletSet (p : OutletSetParams) (s : State) :
    exec (.outletSet p) s = hostCommand 0x16 5 (·.outletSetCommand p) s := rfl

theorem State.outlet?_eq_none {s : State} {b : Byte} (h : ∀ k : Station, b.toNat = k.val → (s.station k).type ≠ .outlet) :
    s.outlet? b = none := by
  rw [State.outlet?]
  cases hb : index? Config.stations b with
  | none => rfl
  | some k => simp only [State.isOutlet_eq_false (h k (index?_eq_some hb)), Bool.false_eq_true, if_false]

section
variable {s : State} {k : Station} {g : Segment}

theorem State.outlet?_station (ht : (s.station k).type = .outlet) : s.outlet? (byteNat k.val) = some k := by
  have outlet : s.isOutlet k = true := beq_iff_eq.mpr ht
  simp only [State.outlet?, index?_station, outlet, if_true]

theorem State.inbound_eq (hg : (s.station k).port0 = some g) : s.inbound k = s.depth g := by rw [State.inbound, hg]

theorem State.raiseEntryEvent_eq (hg : (s.station k).port0 = some g) : s.raiseEntryEvent k = s.raiseRoomEvent g := by
  rw [State.raiseEntryEvent, hg]

/-- The account an outlet command answers is the one it has written (R200). -/
theorem State.accountBytes_withOutlet (a : OutletAccount) (ht : (s.station k).type = .outlet)
    (hg : (s.station k).port0 = some g) : (s.withOutlet k a).accountBytes k = a.answer (s.depth g) := by
  have written : (s.withOutlet k a).outlet k = a := Table.get_set_self ..
  rw [State.accountBytes_eq, written]
  exact congrArg a.answer ((if_pos ht).trans (State.inbound_eq hg))

theorem State.accountBytes_raiseRoomEvent (s : State) (k : Station) (g : Segment) :
    (s.raiseRoomEvent g).accountBytes k = s.accountBytes k := rfl

theorem State.outletCloseCommand_outlet (ht : (s.station k).type = .outlet) (hg : (s.station k).port0 = some g) :
    s.outletCloseCommand (byteNat k.val) = accept (s.withOutlet k { s.outlet k with closed := true })
      ({ s.outlet k with closed := true }.answer (s.depth g)) := by
  simp only [State.outletCloseCommand, State.outlet?_station ht]
  rw [State.accountBytes_withOutlet _ ht hg]

theorem State.outletOpenCommand_outlet (ht : (s.station k).type = .outlet) (hg : (s.station k).port0 = some g) :
    s.outletOpenCommand (byteNat k.val)
      = accept ((s.withOutlet k { s.outlet k with closed := false }).raiseRoomEvent g)
          ({ s.outlet k with closed := false }.answer (s.depth g)) := by
  simp only [State.outletOpenCommand, State.outlet?_station ht]
  rw [State.raiseEntryEvent_eq (s := s.withOutlet k _) hg,
    State.accountBytes_raiseRoomEvent, State.accountBytes_withOutlet _ ht hg]

theorem State.outletEmptiedCommand_outlet (ht : (s.station k).type = .outlet) (hg : (s.station k).port0 = some g) :
    s.outletEmptiedCommand (byteNat k.val)
      = accept ((s.withOutlet k { s.outlet k with delivered := 0, full := false }).raiseRoomEvent g)
          ({ s.outlet k with delivered := 0, full := false }.answer (s.depth g)
            ++ leBytes 2 (BitVec.ofNat 16 (s.outlet k).delivered)) := by
  simp only [State.outletEmptiedCommand, State.outlet?_station ht]
  rw [State.raiseEntryEvent_eq (s := s.withOutlet k _) hg,
    State.accountBytes_raiseRoomEvent, State.accountBytes_withOutlet _ ht hg]
  rfl

/-! ### OUTLET_SET (R154) -/

theorem State.outletSetAllowed_iff (hg : (s.station k).port0 = some g) (p : OutletSetParams) :
    s.outletSetAllowed k p = true ↔ p.mask.toNat < 4
      ∧ (p.mask.getLsbD 0 = true → 1 ≤ p.capacity.toNat ∧ p.capacity.toNat ≤ 4095
          ∧ (s.outlet k).delivered + s.depth g ≤ p.capacity.toNat)
      ∧ (p.mask.getLsbD 1 = true → (boolOfCode p.autoRetire).isSome = true) := by
  have fits := maskFits_iff p.mask 2
  simp only [State.outletSetAllowed, State.inbound_eq hg, given, Bool.and_eq_true, Bool.or_eq_true, Bool.not_eq_true',
    decide_eq_true_eq, fits, and_assoc, ← Bool.not_eq_true, ← imp_iff_not_or]
  rfl

/-- The account OUTLET_SET writes, its capacity given as a number. -/
def OutletAccount.written (a : OutletAccount) (m : Byte) (n : Nat) (auto : Byte) : OutletAccount :=
  { a with
    capacity := if m.getLsbD 0 then n else a.capacity
    autoRetire := if m.getLsbD 1 then auto == 1 else a.autoRetire
    full := (if m.getLsbD 0 then n else a.capacity) ≤ a.delivered }

theorem State.outletSetCommand_allowed {p : OutletSetParams} (hp : p.station = byteNat k.val)
    (ht : (s.station k).type = .outlet) (hg : (s.station k).port0 = some g) (h : s.outletSetAllowed k p = true)
    (auto : p.mask.getLsbD 1 = true → p.autoRetire = 0 ∨ p.autoRetire = 1) :
    s.outletSetCommand p
      = accept (s.withOutlet k ((s.outlet k).written p.mask p.capacity.toNat p.autoRetire))
          (((s.outlet k).written p.mask p.capacity.toNat p.autoRetire).answer (s.depth g)) := by
  have choice : (if given p.mask 1 then (boolOfCode p.autoRetire).getD (s.outlet k).autoRetire else (s.outlet k).autoRetire)
      = if p.mask.getLsbD 1 then p.autoRetire == 1 else (s.outlet k).autoRetire := by
    by_cases h1 : p.mask.getLsbD 1 = true
    · rw [given, if_pos h1, if_pos h1]
      rcases auto h1 with e | e <;> rw [e] <;> rfl
    · rw [given, if_neg h1, if_neg h1]
  have station := State.outlet?_station ht
  rw [← hp] at station
  simp only [State.outletSetCommand, station, h, if_true, choice]
  rw [State.accountBytes_withOutlet _ ht hg]
  rfl

theorem State.outletSetCommand_refused {p : OutletSetParams} (hp : p.station = byteNat k.val)
    (ht : (s.station k).type = .outlet) (h : s.outletSetAllowed k p = false) :
    s.outletSetCommand p = refuse s .badParam := by
  have station := State.outlet?_station ht
  rw [← hp] at station
  simp only [State.outletSetCommand, station, h, Bool.false_eq_true, if_false]

end

theorem boolOfCode_isSome {b : Byte} (h : b = 0 ∨ b = 1) : (boolOfCode b).isSome = true := by
  rcases h with rfl | rfl <;> rfl

end Sys2Proof.Machine

open Sys2Proof Sys2Proof.Machine

/-- Settles O48: each command's block on an outlet is one account written, and its image answered. -/
theorem outletCommandsKeepTheAccount : Obligations.OutletCommandsKeepTheAccount := by
  unfold Obligations.OutletCommandsKeepTheAccount
  refine ⟨fun k g s hs ht hg => ?_, fun s hs => ⟨fun k g m n auto ht hg hn => ?_, fun b hb => ?_⟩⟩
  · intro a raised
    refine ⟨?_, ?_, ?_⟩
    · rw [exec_outletClose]
      exact hostCommand_accepted (t := s.withOutlet k _) hs fun w =>
        State.outletCloseCommand_outlet (s := s.withPort w) ht hg
    · rw [exec_outletOpen]
      exact hostCommand_accepted (t := (s.withOutlet k _).raiseRoomEvent g) hs fun w =>
        State.outletOpenCommand_outlet (s := s.withPort w) ht hg
    · rw [exec_outletEmptied]
      exact hostCommand_accepted (t := (s.withOutlet k _).raiseRoomEvent g) hs fun w =>
        State.outletEmptiedCommand_outlet (s := s.withPort w) ht hg
  · intro a p capacity new
    have number : p.capacity.toNat = n := by
      show (BitVec.ofNat 16 n).toNat = n
      rw [BitVec.toNat_ofNat]; exact Nat.mod_eq_of_lt hn
    have allowed_iff : s.outletSetAllowed k p = true ↔ _ := State.outletSetAllowed_iff hg p
    rw [number] at allowed_iff
    rw [exec_outletSet]
    refine ⟨fun hm hc ha => ?_, fun h => ?_⟩
    · have allowed := allowed_iff.mpr ⟨hm, hc, fun h1 => boolOfCode_isSome (ha h1)⟩
      have block := fun w => State.outletSetCommand_allowed (s := s.withPort w) (p := p) rfl ht hg allowed ha
      rw [number] at block
      exact hostCommand_accepted (t := s.withOutlet k new) hs block
    · have forbidden : s.outletSetAllowed k p = false := by
        rw [← Bool.not_eq_true, allowed_iff]
        rintro ⟨hm, hc, ha⟩
        rcases h with h4 | ⟨h0, hbad⟩ | ⟨h1, hbad⟩
        · exact absurd hm (Nat.not_lt.mpr h4)
        · obtain ⟨pos, most, room⟩ := hc h0
          change a.delivered + s.depth g ≤ _ at room
          omega
        · have := ha h1
          rw [boolOfCode_eq_none hbad] at this
          cases this
      exact hostCommand_refused hs fun w => State.outletSetCommand_refused (s := s.withPort w) rfl ht forbidden
  · have no_outlet : ∀ w, (s.withPort w).outlet? b = none := fun w => State.outlet?_eq_none (s := s.withPort w) hb
    refine ⟨?_, ?_, ?_, fun m c auto => ?_⟩
    · rw [exec_outletClose]
      exact hostCommand_refused hs fun w => by simp only [State.outletCloseCommand, no_outlet]
    · rw [exec_outletOpen]
      exact hostCommand_refused hs fun w => by simp only [State.outletOpenCommand, no_outlet]
    · rw [exec_outletEmptied]
      exact hostCommand_refused hs fun w => by simp only [State.outletEmptiedCommand, no_outlet]
    · rw [exec_outletSet]
      exact hostCommand_refused hs fun w => by simp only [State.outletSetCommand, no_outlet]
end

section
/-! Zones entering and leaving HALTED: what becomes of the windows, the custody and the link records of a zone, and the
commands and inputs that halt and resume it. -/

-- One declaration at a time, which holds the text's memory down.
set_option Elab.async false

namespace Sys2Proof.Machine

/-! ### The records of a zone's queued carriers -/

theorem State.mem_zoneQueued {s : State} {z : Zone} {h : Handle} {g : Segment} :
    (h, g) ∈ s.zoneQueued z ↔ s.zoneSegment z g = true ∧ h ∈ s.queue g := by
  simp only [State.zoneQueued, List.mem_flatMap, List.mem_finRange, true_and]
  constructor
  · rintro ⟨g', hg'⟩
    split at hg'
    · next hz =>
      obtain ⟨y, hy, e⟩ := List.mem_map.mp hg'
      cases e
      exact ⟨hz, hy⟩
    · cases hg'
  · rintro ⟨hz, hh⟩
    exact ⟨g, by rw [if_pos hz]; exact List.mem_map.mpr ⟨h, hh, rfl⟩⟩

theorem State.zoneSegment_iff (s : State) (z : Zone) (g : Segment) : s.zoneSegment z g = true ↔ s.inZoneSegment z g := by
  unfold State.zoneSegment State.inZoneSegment
  cases (s.segment g).downstream with
  | none => simp
  | some x => obtain ⟨d, p⟩ := x; simp [State.inZone_iff]

/-- A carrier queued on no segment of the zone keeps its record. -/
theorem State.record_mapWindows_outside {s : State} {z : Zone} {h : Handle} (f : Segment → Option Window → Option Window)
    (out : ∀ g, s.inZoneSegment z g → h ∉ s.queue g) : (s.mapWindows z f).record h = s.record h := by
  refine State.record_mapWindows_none (List.find?_eq_none.mpr fun p hp e => ?_)
  obtain ⟨x, g⟩ := p
  obtain ⟨hz, hx⟩ := State.mem_zoneQueued.mp hp
  have same : x = h := of_decide_eq_true e
  exact out g ((s.zoneSegment_iff z g).mp hz) (same ▸ hx)

/-- A carrier queued on a segment of the zone has its window changed, where the change reads no segment. -/
theorem State.record_mapWindows_inside {s : State} {z : Zone} {h : Handle} {g : Segment} (f : Option Window → Option Window)
    (hz : s.inZoneSegment z g) (hh : h ∈ s.queue g) :
    (s.mapWindows z fun _ => f).record h = { s.record h with window := f (s.record h).window } := by
  cases hq : (s.zoneQueued z).find? fun p => p.1 = h with
  | none =>
    have found := List.find?_eq_none.mp hq (h, g) (State.mem_zoneQueued.mpr ⟨(s.zoneSegment_iff z g).mpr hz, hh⟩)
    exact absurd (by simp) found
  | some p =>
    obtain ⟨x, g'⟩ := p
    exact State.record_mapWindows_some (f := fun _ => f) hq

theorem State.queuedUnderSuspend_iff (s : State) (z : Zone) (h : Handle) :
    s.queuedUnderSuspend z h ↔ s.map.policies.get z = .suspend ∧ ∃ g, s.inZoneSegment z g ∧ h ∈ s.queue g := by
  constructor
  · rintro ⟨g, d, p, hh, hg, hd, hz, hp⟩
    exact ⟨hp, g, ⟨d, p, hg, hd, hz⟩, hh⟩
  · rintro ⟨hp, g, ⟨d, p, hg, hd, hz⟩, hh⟩
    exact ⟨g, d, p, hh, hg, hd, hz, hp⟩

theorem State.queuedUnderSuspend_congr {s t : State} (hm : t.map = s.map) (ht : t.tracker = s.tracker) (z : Zone)
    (h : Handle) : t.queuedUnderSuspend z h ↔ s.queuedUnderSuspend z h := by
  simp only [State.queuedUnderSuspend, State.segment, State.queue, State.configured, State.station, hm, ht]

/-! ### Zones entering HALTED (R160, R161) -/

theorem Custody.save_save (now : Time) (c : Custody) : (c.save now).save now = c.save now := by cases c <;> rfl

theorem Window.suspend_suspend (now : Time) (w : Window) : (w.suspend now).suspend now = w.suspend now := by cases w <;> rfl

theorem Time.left_spec (now t : Time) :
    (Time.isAfter now t = true → t = now + (Time.left now t).asTime) ∧ (Time.isAfter now t = false → Time.left now t = 0) := by
  refine ⟨fun h => ?_, fun h => by rw [Time.left, h]; rfl⟩
  have left := Time.toNat_left now t
  have ahead := Ticks.toNat_sub_asTime now (Time.left now t)
  rw [if_pos h] at left
  bv_omega

theorem Custody.savedAs_save (now : Time) (c : Custody) : ∃ v, c.save now = .halted v ∧ c.SavedAs now v := by
  cases c with
  | idle => exact ⟨_, rfl, trivial⟩
  | occupied c e x => exact ⟨_, rfl, rfl, rfl⟩
  | heldDwell c x => exact ⟨_, rfl, rfl, Time.left_spec now x⟩
  | heldBlocked c => exact ⟨_, rfl, rfl⟩
  | jammed c e => exact ⟨_, rfl, rfl, rfl⟩
  | halted v => exact ⟨_, rfl, rfl⟩

theorem Window.suspendedAs_suspend (now : Time) (w : Window) : w.SuspendedAs now (w.suspend now) := by
  cases w with
  | timed e d =>
    obtain ⟨pending, reached⟩ := Time.left_spec now e
    exact ⟨pending, reached, Time.left_spec now d⟩
  | remaining e d => exact rfl

/-- From `s` to `t` the zones of `Z` enter HALTED, and nothing but their causes, custody and windows changes. -/
structure State.Halts (s t : State) (Z : Zone → Prop) : Prop where
  frame : t = { s with
    zones := { s.zones with causes := t.zones.causes }, custody := t.custody
    carriers := { s.carriers with records := t.carriers.records } }
  saved : ∀ k, s.configured k = true → Z (s.station k).zone → t.custodyOf k = (s.custodyOf k).save s.lineTime
  kept : ∀ k, ¬ (s.configured k = true ∧ Z (s.station k).zone) → t.custodyOf k = s.custodyOf k
  suspended : ∀ h, (∃ z, Z z ∧ s.queuedUnderSuspend z h) →
    t.record h = { s.record h with window := (s.record h).window.map (Window.suspend s.lineTime) }
  unmoved : ∀ h, (¬ ∃ z, Z z ∧ s.queuedUnderSuspend z h) → t.record h = s.record h

namespace State.Halts

variable {s t u : State} {Z Y : Zone → Prop}

theorem map (h : s.Halts t Z) : t.map = s.map := by rw [h.frame]

theorem tracker (h : s.Halts t Z) : t.tracker = s.tracker := by rw [h.frame]

theorem lineTime (h : s.Halts t Z) : t.lineTime = s.lineTime := by rw [h.frame]

theorem entersHalted (h : s.Halts t Z) : s.EntersHalted t Z := by
  refine ⟨fun k hk hz => ?_, h.kept, fun x z hz hx w hw => ?_, fun x hx => ?_⟩
  · rw [h.saved k hk hz]
    exact Custody.savedAs_save ..
  · refine ⟨_, Window.suspendedAs_suspend s.lineTime w, ?_⟩
    rw [h.suspended x ⟨z, hz, hx⟩, hw]
    rfl
  · by_cases hq : ∃ z, Z z ∧ s.queuedUnderSuspend z x
    · have none_window := hx.resolve_left (not_not.mpr hq)
      rw [h.suspended x hq, none_window]
      exact congrArg (fun w => { s.record x with window := w }) none_window.symm
    · exact h.unmoved x hq

theorem congr (h : s.Halts t Z) (e : ∀ z, Y z ↔ Z z) : s.Halts t Y := by rwa [funext fun z => propext (e z)]

theorem withZones (s : State) (c : Table Config.zones HaltCauses) :
    s.Halts (s.withZones { s.zones with causes := c }) fun _ => False :=
  ⟨rfl, fun _ _ h => h.elim, fun _ _ => rfl, fun _ ⟨_, h, _⟩ => h.elim, fun _ _ => rfl⟩

theorem trans (h : s.Halts t Z) (h' : t.Halts u Y) : s.Halts u fun z => Z z ∨ Y z := by
  have queued := State.queuedUnderSuspend_congr h.map h.tracker
  have station : ∀ k, t.station k = s.station k := fun k => by rw [State.station, h.map]; rfl
  have configured : ∀ k, t.configured k = s.configured k := fun k => by rw [State.configured, station]; rfl
  refine ⟨by rw [h'.frame, h.frame], fun k hk hz => ?_, fun k hk => ?_, fun x hx => ?_, fun x hx => ?_⟩
  · have first : t.custodyOf k = s.custodyOf k ∨ t.custodyOf k = (s.custodyOf k).save s.lineTime := by
      by_cases hZ : Z (s.station k).zone
      · exact .inr (h.saved k hk hZ)
      · exact .inl (h.kept k fun e => hZ e.2)
    by_cases hY : Y (s.station k).zone
    · rw [h'.saved k ((configured k).trans hk) (by rwa [station]), h.lineTime]
      rcases first with e | e
      · rw [e]
      · rw [e, Custody.save_save]
    · rw [h'.kept k fun e => hY (by rw [← station]; exact e.2)]
      exact h.saved k hk (hz.resolve_right hY)
  · rw [h'.kept k fun e => hk ⟨(configured k) ▸ e.1, .inr (by rw [← station]; exact e.2)⟩]
    exact h.kept k fun e => hk ⟨e.1, .inl e.2⟩
  · by_cases hY : ∃ z, Y z ∧ t.queuedUnderSuspend z x
    · rw [h'.suspended x hY, h.lineTime]
      by_cases hZ : ∃ z, Z z ∧ s.queuedUnderSuspend z x
      · rw [h.suspended x hZ]
        cases (s.record x).window with
        | none => rfl
        | some w => simp only [Option.map_some, Window.suspend_suspend]
      · rw [h.unmoved x hZ]
    · rw [h'.unmoved x hY]
      refine h.suspended x ?_
      obtain ⟨z, hz | hz, hq⟩ := hx
      · exact ⟨z, hz, hq⟩
      · exact absurd ⟨z, hz, (queued z x).mpr hq⟩ hY
  · rw [h'.unmoved x fun ⟨z, hz, hq⟩ => hx ⟨z, .inr hz, (queued z x).mp hq⟩]
    exact h.unmoved x fun ⟨z, hz, hq⟩ => hx ⟨z, .inl hz, hq⟩

theorem enterHalted (s : State) (z : Zone) : s.Halts (s.enterHalted z) (· = z) := by
  have custody := s.custodyOf_enterHalted z
  have records : ∀ x, (s.enterHalted z).record x = (if s.map.policies.get z = .suspend then
      s.mapWindows z fun _ w => w.map (Window.suspend s.lineTime) else s).record x := fun _ => rfl
  refine ⟨?_, fun k hk hz => ?_, fun k hk => ?_, fun x ⟨_, e, hx⟩ => ?_, fun x hx => ?_⟩
  · unfold State.enterHalted
    split
    · simp only [State.mapWindows, State.withCarriers, State.withCustodies]
    · simp only [State.withCustodies]
  · rw [custody, if_pos ((s.inZone_iff z k).mpr ⟨hk, hz⟩)]
  · rw [custody, if_neg fun e => hk ((s.inZone_iff z k).mp e)]
  · subst e
    obtain ⟨hp, g, hg, hxg⟩ := (s.queuedUnderSuspend_iff _ x).mp hx
    rw [records, if_pos hp]
    exact State.record_mapWindows_inside _ hg hxg
  · rw [records]
    split
    · next hp =>
      exact State.record_mapWindows_outside _ fun g hg hxg => hx ⟨z, rfl, (s.queuedUnderSuspend_iff z x).mpr ⟨hp, g, hg, hxg⟩⟩
    · rfl

/-- A cause added to a zone halts it where it was RUNNING (R156). -/
theorem withCauses (s : State) (z : Zone) {c : HaltCauses} (h : c.present = true) :
    s.Halts (s.withCauses z c) fun y => y = z ∧ s.zoneHalted z = false := by
  simp only [State.withCauses, h, Bool.and_true, Bool.not_true, Bool.and_false, Bool.false_eq_true, if_false]
  cases hz : s.zoneHalted z with
  | false => exact ((withZones s _).trans (enterHalted _ z)).congr fun y => by simp
  | true => exact (withZones s _).congr fun y => by simp

end State.Halts

/-! ### A halt line's latch (R157) -/

/-- A zone's causes with the latch of a line set. -/
def HaltCauses.latched (c : HaltCauses) (n : HaltLine) : HaltCauses := { c with lines := c.lines ||| (1#4 <<< n.val) }

theorem HaltCauses.present_latched (c : HaltCauses) (n : HaltLine) : (c.latched n).present = true := by
  have set_bit : ∀ (l : BitVec 4) (n : Fin 4), (l ||| (1#4 <<< n.val)) != 0 := by decide
  exact Bool.or_eq_true _ _ |>.mpr (.inr (set_bit c.lines n))

theorem HaltCauses.latched_latched (c : HaltCauses) (n : HaltLine) : (c.latched n).latched n = c.latched n := by
  simp only [HaltCauses.latched, BitVec.or_assoc, BitVec.or_self]

/-- From `s` to `t` the latch of line `n` is set in the zones of `M`, and those that were RUNNING enter HALTED. -/
structure State.Latches (s t : State) (n : HaltLine) (M : Zone → Prop) : Prop where
  halts : s.Halts t fun z => M z ∧ s.zoneHalted z = false
  latched : ∀ z, M z → t.zones.causes.get z = (s.zones.causes.get z).latched n
  kept : ∀ z, ¬ M z → t.zones.causes.get z = s.zones.causes.get z

namespace State.Latches

variable {s t u : State} {n : HaltLine} {M N : Zone → Prop}

theorem nothing (s : State) (n : HaltLine) : s.Latches s n fun _ => False :=
  ⟨(State.Halts.withZones s _).congr fun _ => by simp, fun _ h => h.elim, fun _ _ => rfl⟩

theorem congr (h : s.Latches t n M) (e : ∀ z, N z ↔ M z) : s.Latches t n N := by rwa [funext fun z => propext (e z)]

theorem latch (s : State) (n : HaltLine) (z : Zone) : s.Latches (s.latch n z) n (· = z) := by
  have zones := s.withCauses_zones z ((s.zones.causes.get z).latched n)
  have halts := State.Halts.withCauses s z ((s.zones.causes.get z).present_latched n)
  refine ⟨halts.congr fun y => and_congr_right fun e => by rw [e], fun y e => ?_, fun y hy => ?_⟩
  · subst e
    exact (congrArg (fun x : ZoneController => x.causes.get y) zones).trans (Table.get_set_self ..)
  · exact (congrArg (fun x : ZoneController => x.causes.get y) zones).trans (Table.get_set_ne _ (Ne.symm hy) _)

theorem trans (h : s.Latches t n M) (h' : t.Latches u n N) : s.Latches u n fun z => M z ∨ N z := by
  have halted : ∀ z, ¬ M z → t.zoneHalted z = s.zoneHalted z := fun z hz => by rw [State.zoneHalted, h.kept z hz]; rfl
  have latched_halted : ∀ z, M z → t.zoneHalted z = true := fun z hz => by
    rw [State.zoneHalted, h.latched z hz]; exact HaltCauses.present_latched ..
  refine ⟨(h.halts.trans h'.halts).congr fun z => ?_, fun z hz => ?_, fun z hz => ?_⟩
  · by_cases hM : M z
    · simp [hM, latched_halted z hM]
    · simp [hM, halted z hM]
  · by_cases hN : N z
    · rw [h'.latched z hN]
      by_cases hM : M z
      · rw [h.latched z hM, HaltCauses.latched_latched]
      · rw [h.kept z hM]
    · rw [h'.kept z hN]
      exact h.latched z (hz.resolve_right hN)
  · rw [h'.kept z fun e => hz (.inr e)]
    exact h.kept z fun e => hz (.inl e)

theorem latchMask (s : State) (n : HaltLine) (mask : Byte) : s.Latches (s.latchMask n mask) n (mask.getLsbD ·.val = true) := by
  have fold : ∀ (l : List Zone) (t : State), t.Latches
      (l.foldl (fun s z => if mask.getLsbD z.val then s.latch n z else s) t) n fun z => z ∈ l ∧ mask.getLsbD z.val = true := by
    intro l
    induction l with
    | nil => exact fun t => (nothing t n).congr fun z => by simp
    | cons z l ih =>
      intro t
      rw [List.foldl_cons]
      split
      · next hz =>
        refine ((latch t n z).trans (ih _)).congr fun y => ?_
        constructor
        · rintro ⟨hy, hm⟩
          exact (List.mem_cons.mp hy).imp id fun hl => ⟨hl, hm⟩
        · rintro (rfl | ⟨hl, hm⟩)
          · exact ⟨List.mem_cons_self, hz⟩
          · exact ⟨List.mem_cons_of_mem _ hl, hm⟩
      · next hz =>
        refine (ih t).congr fun y => ?_
        constructor
        · rintro ⟨hy, hm⟩
          exact ⟨(List.mem_cons.mp hy).resolve_left fun e => hz (e ▸ hm), hm⟩
        · exact fun ⟨hl, hm⟩ => ⟨List.mem_cons_of_mem _ hl, hm⟩
  exact (fold _ s).congr fun z => by simp

/-- The causes after a latch, zone by zone. -/
theorem causes (h : s.Latches t n M) (z : Zone) [Decidable (M z)] : t.zones.causes.get z =
    if M z then (s.zones.causes.get z).latched n else s.zones.causes.get z := by
  split
  · next hz => exact h.latched z hz
  · next hz => exact h.kept z hz

end State.Latches

end Sys2Proof.Machine

end

section
/-! HALT, RESUME, HALT_MAP and an asserted halt input: which zones they halt or resume, and what each answers. -/

-- One declaration at a time, which holds the text's memory down.
set_option Elab.async false

namespace Sys2Proof.Machine

theorem exec_halt (b : Byte) (s : State) : exec (.halt b) s = hostCommand 0x50 1 (·.haltCommand b) s := rfl

theorem exec_resume (b : Byte) (s : State) : exec (.resume b) s = hostCommand 0x51 1 (·.resumeCommand b) s := rfl

theorem exec_haltMap (b mask : Byte) (s : State) :
    exec (.haltMap b mask) s = hostCommand 0x13 2 (·.haltMapCommand b mask) s := rfl

theorem index?_zone (z : Zone) : index? Config.zones (byteNat z.val) = some z := index?_byteNat (by decide) z

theorem index?_line (n : HaltLine) : index? Config.haltLines (byteNat n.val) = some n := index?_byteNat (by decide) n

/-! ### Changes of causes do not read the port -/

theorem State.enterHalted_withPort (s : State) (w : HostPort) (z : Zone) :
    (s.withPort w).enterHalted z = (s.enterHalted z).withPort w := by
  unfold State.enterHalted
  rw [State.withPort_map]
  split <;> rfl

theorem State.leaveHalted_withPort (s : State) (w : HostPort) (z : Zone) :
    (s.withPort w).leaveHalted z = (s.leaveHalted z).withPort w := by
  simp only [State.leaveHalted, State.withPort_map]
  cases s.map.policies.get z with
  | suspend | restart => rfl

theorem State.withCauses_withPort (s : State) (w : HostPort) (z : Zone) (c : HaltCauses) :
    (s.withPort w).withCauses z c = (s.withCauses z c).withPort w := by
  have enter := (s.withZones { s.zones with causes := s.zones.causes.set z c }).enterHalted_withPort w z
  have leave := (s.withZones { s.zones with causes := s.zones.causes.set z c }).leaveHalted_withPort w z
  have halted : (s.withPort w).zoneHalted z = s.zoneHalted z := rfl
  simp only [State.withCauses, halted]
  by_cases h1 : (!s.zoneHalted z && c.present) = true
  · simp only [h1, if_true]; exact enter
  · by_cases h2 : (s.zoneHalted z && !c.present) = true
    · simp only [h1, h2, if_true]; exact leave
    · simp only [h1, h2]; rfl

theorem State.latchMask_withPort (s : State) (w : HostPort) (n : HaltLine) (mask : Byte) :
    (s.withPort w).latchMask n mask = (s.latchMask n mask).withPort w := by
  unfold State.latchMask
  induction List.finRange Config.zones generalizing s with
  | nil => rfl
  | cons z l ih =>
    have latch : (s.withPort w).latch n z = (s.latch n z).withPort w := State.withCauses_withPort ..
    rw [List.foldl_cons, List.foldl_cons]
    split
    · rw [latch]; exact ih _
    · exact ih s

/-! ### Zones halted by a command or an input -/

/-- The state after zones entered HALTED, its port rewritten. -/
theorem State.Halts.after {s t : State} {Z : Zone → Prop} (h : s.Halts t Z) {c : Table Config.zones HaltCauses}
    (hc : t.zones.causes = c) (p : HostPort) : { t with port := p } = { s with
      zones := { s.zones with causes := c }, custody := t.custody
      carriers := { s.carriers with records := t.carriers.records }, port := p } := by
  subst hc
  exact congrArg (fun x : State => x.withPort p) h.frame

/-- The causes HALT leaves in its zone (R158). -/
def State.hostHalted (s : State) (z : Zone) : State :=
  s.withCauses z { s.zones.causes.get z with host := true }

theorem State.hostHalted_halts (s : State) (z : Zone) :
    s.Halts (s.hostHalted z) fun y => y = z ∧ s.zoneHalted z = false := State.Halts.withCauses s z rfl

theorem State.haltCommand_zone (s : State) (z : Zone) :
    s.haltCommand (byteNat z.val)
      = accept (s.hostHalted z) [1, BitVec.ofNat 8 (1 + 2 * (s.zones.causes.get z).lines.toNat)] := by
  have causes : (s.hostHalted z).zones.causes.get z = { s.zones.causes.get z with host := true } := by
    rw [State.hostHalted, State.withCauses_zones]; exact Table.get_set_self ..
  have halted : (s.hostHalted z).zoneHalted z = true := by rw [State.zoneHalted, causes]; rfl
  simp only [State.haltCommand, index?_zone]
  show accept (s.hostHalted z) ((s.hostHalted z).zoneBytes z) = _
  rw [State.zoneBytes_eq, halted, causes]
  rfl

theorem State.mapLine_deasserted {s : State} {n : HaltLine} (mask : Byte) (h : s.zones.levels.getLsbD n.val = false) :
    s.mapLine n mask = s.withMap { s.map with haltMap := s.map.haltMap.set n mask } := by
  simp only [State.mapLine, State.lineAsserted, h, Bool.false_eq_true, if_false]

theorem State.mapLine_asserted {s : State} {n : HaltLine} (mask : Byte) (h : s.zones.levels.getLsbD n.val = true) :
    s.mapLine n mask = (s.withMap { s.map with haltMap := s.map.haltMap.set n mask }).latchMask n
      (mask &&& ~~~ s.map.haltMap.get n) := by
  simp only [State.mapLine, State.lineAsserted, h, if_true]

theorem State.mapLine_withPort (s : State) (w : HostPort) (n : HaltLine) (mask : Byte) :
    (s.withPort w).mapLine n mask = (s.mapLine n mask).withPort w := by
  have latch := (s.withMap { s.map with haltMap := s.map.haltMap.set n mask }).latchMask_withPort w n
    (mask &&& ~~~ s.map.haltMap.get n)
  cases h : s.zones.levels.getLsbD n.val with
  | false => rw [State.mapLine_deasserted mask h, State.mapLine_deasserted (s := s.withPort w) mask h]; rfl
  | true => rw [State.mapLine_asserted mask h, State.mapLine_asserted (s := s.withPort w) mask h]; exact latch

theorem State.haltMapCommand_line {s : State} (n : HaltLine) (mask : Byte) (h : s.map.device = .setup) :
    s.haltMapCommand (byteNat n.val) mask = accept (s.mapLine n mask) := by
  simp only [State.haltMapCommand, h, ne_eq, not_true_eq_false, if_false, index?_line]

theorem State.haltMapCommand_badParam {s : State} {b : Byte} (mask : Byte) (h : s.map.device = .setup) (hb : 4 ≤ b.toNat) :
    s.haltMapCommand b mask = refuse s .badParam := by
  have unknown : index? Config.haltLines b = none := index?_eq_none.mpr hb
  simp only [State.haltMapCommand, h, ne_eq, not_true_eq_false, if_false, unknown]

/-- The zones HALT_MAP adds to a line (R8). -/
theorem addedZone_iff (mask old : Byte) (z : Zone) :
    (mask &&& ~~~ old).getLsbD z.val = true ↔ mask.getLsbD z.val = true ∧ old.getLsbD z.val = false := by
  have hz : z.val < 8 := z.isLt
  simp [hz]

theorem State.takeAssertion_taken {s : State} {n : HaltLine} (hl : s.zones.levels.getLsbD n.val = false)
    (h1 : s.zones.lastSample.getLsbD n.val = true) (h2 : s.zones.priorSample.getLsbD n.val = true) :
    s.takeAssertion n = (s.withLevel n true).latchMask n (s.map.haltMap.get n) := by
  simp only [State.takeAssertion, State.lineAsserted, State.samplesAgree, hl, h1, h2]
  rfl

/-! ### A zone resumed (R159, R164 to R166) -/

theorem State.activeLine_eq_some {s : State} {z : Zone} {n : HaltLine} (h : s.lineHolds z n) (hlow : ∀ m < n, ¬ s.lineHolds z m) :
    s.activeLine z = some n :=
  find?_finRange_eq_some.mpr ⟨Bool.and_eq_true _ _ |>.mpr h, fun m hm => Bool.eq_false_iff.mpr fun e =>
    hlow m hm (Bool.and_eq_true _ _ |>.mp e)⟩

theorem State.activeLine_eq_none {s : State} {z : Zone} (h : ∀ n, ¬ s.lineHolds z n) : s.activeLine z = none :=
  List.find?_eq_none.mpr fun n _ e => h n (Bool.and_eq_true _ _ |>.mp e)

/-- The zone with every cause made absent (R159). -/
def State.resumed (s : State) (z : Zone) : State := s.withCauses z { host := false, lines := 0 }

theorem State.resumeCommand_active {s : State} {z : Zone} {n : HaltLine} (h : s.lineHolds z n)
    (hlow : ∀ m < n, ¬ s.lineHolds z m) :
    s.resumeCommand (byteNat z.val) = (s, { code := .lineActive, data := [byteNat n.val] }) := by
  simp only [State.resumeCommand, index?_zone, State.activeLine_eq_some h hlow]

theorem State.resumeCommand_clear {s : State} {z : Zone} (h : ∀ n, ¬ s.lineHolds z n) :
    s.resumeCommand (byteNat z.val) = accept (s.resumed z) [0, 0] := by
  have causes : (s.resumed z).zones.causes.get z = { host := false, lines := 0 } := by
    rw [State.resumed, State.withCauses_zones]; exact Table.get_set_self ..
  have running : (s.resumed z).zoneHalted z = false := by rw [State.zoneHalted, causes]; rfl
  simp only [State.resumeCommand, index?_zone, State.activeLine_eq_none h]
  show accept (s.resumed z) ((s.resumed z).zoneBytes z) = _
  rw [State.zoneBytes_eq, running, causes]
  rfl

/-- A RUNNING zone has no cause to make absent. -/
theorem State.resumed_running {s : State} {z : Zone} (h : s.zoneHalted z = false) : s.resumed z = s := by
  obtain ⟨noHost, noLine⟩ := Bool.or_eq_false_iff.mp h
  have absent : s.zones.causes.get z = { host := false, lines := 0 } := by
    rw [← noHost, ← bne_eq_false_iff_eq.mp noLine]
  rw [State.resumed, ← absent]
  simp only [State.withCauses, Table.set_get_self]
  rw [show (s.zones.causes.get z).present = false from h, h]
  rfl

theorem State.resumed_halted {s : State} {z : Zone} (h : s.zoneHalted z = true) :
    s.resumed z
      = (s.withZones { s.zones with causes := s.zones.causes.set z { host := false, lines := 0 } }).leaveHalted z := by
  simp only [State.resumed, State.withCauses, h]
  rfl

theorem State.leaveHalted_link (s : State) (z : Zone) :
    (s.leaveHalted z).link = { s.link with records := (s.leaveHalted z).link.records } := by
  simp only [State.leaveHalted, State.withRoomEvents_link, State.withLink_link]
  cases s.map.policies.get z <;> simp only [State.mapWindows, State.withCarriers_link]

theorem State.leaveHalted_frame (s : State) (z : Zone) : s.leaveHalted z = { s with
    custody := (s.leaveHalted z).custody
    carriers := { s.carriers with records := (s.leaveHalted z).carriers.records }
    link := { s.link with records := (s.leaveHalted z).link.records }
    tracker := { s.tracker with roomEvents := s.tracker.roomEvents ++ s.resumeEvents z } } := by
  have frame := (State.OnlyZones.leaveHalted s z).frame
  have events : (s.leaveHalted z).tracker.roomEvents = s.tracker.roomEvents ++ s.resumeEvents z := rfl
  rw [s.leaveHalted_zones z, s.leaveHalted_link z, events] at frame
  exact frame

theorem State.record_leaveHalted (s : State) (z : Zone) (h : Handle) :
    ∃ f, (s.leaveHalted z).record h = (s.mapWindows z f).record h := by
  cases hp : s.map.policies.get z with
  | suspend =>
    exact ⟨fun _ w => w.map (Window.runOn s.lineTime), by
      simp only [State.leaveHalted, hp, State.record, State.withRoomEvents_carriers, State.withLink_carriers,
        State.withCustodies_carriers]⟩
  | restart =>
    exact ⟨fun g w => w.map fun _ => (s.segment g).freshWindow s.lineTime, by
      simp only [State.leaveHalted, hp, State.record, State.withRoomEvents_carriers, State.withLink_carriers,
        State.withCustodies_carriers]⟩

theorem State.linkOf_leaveHalted (s : State) (z : Zone) (k : Station) : (s.leaveHalted z).linkOf k
    = if s.inZone z k then (s.custodyOf k).rereleased (s.linkOf k) else s.linkOf k := by
  simp only [State.leaveHalted, State.linkOf, State.withRoomEvents_link, State.withLink_link, Table.get_mapRows]

theorem Custody.rereleased_halted (v : SavedCustody) (l : LinkRecord) : (Custody.halted v).rereleased l = l.resumed v := by
  cases v with
  | idle | occupied | heldDwell | heldBlocked | jammed => rfl

theorem SavedCustody.restore_eq (now : Time) (limit : Ticks) (v : SavedCustody) : v.restore now limit = v.restored now limit := by
  cases v with
  | idle | occupied | heldDwell | heldBlocked | jammed => rfl

/-- A station that is not HALTED is left as it is. -/
theorem State.resume_unhalted {s : State} {k : Station} (h : ¬ ∃ v, s.custodyOf k = .halted v) :
    s.resumedCustody k (s.custodyOf k) = s.custodyOf k ∧ (s.custodyOf k).rereleased (s.linkOf k) = s.linkOf k := by
  cases hc : s.custodyOf k with
  | halted v => exact absurd ⟨v, hc⟩ h
  | idle | occupied | heldDwell | heldBlocked | jammed => exact ⟨rfl, rfl⟩

theorem SegmentRecord.resumedWindow_eq (r : SegmentRecord) (policy : TimerPolicy) (now : Time) (w : Window) :
    (if policy = .suspend then w.runOn now else r.freshWindow now) = r.resumedWindow policy now w := by
  cases policy with
  | suspend => cases w <;> rfl
  | restart => rfl

theorem State.leavesHalted {s : State} (hq : s.QueueLaw) (z : Zone) : s.LeavesHalted (s.leaveHalted z) z := by
  refine ⟨fun k v hk hz hv => ?_, fun k hk => ?_, fun g hg h hh => ?_, fun h out => ?_⟩
  · have inZone := (s.inZone_iff z k).mpr ⟨hk, hz⟩
    rw [State.custodyOf_leaveHalted, State.linkOf_leaveHalted, if_pos inZone, if_pos inZone, hv,
      Custody.rereleased_halted, ← SavedCustody.restore_eq]
    exact ⟨rfl, rfl⟩
  · rw [State.custodyOf_leaveHalted, State.linkOf_leaveHalted]
    cases inZone : s.inZone z k with
    | false => exact ⟨rfl, rfl⟩
    | true =>
      obtain ⟨hc, hz⟩ := (s.inZone_iff z k).mp inZone
      exact State.resume_unhalted fun hv => hk ⟨hc, hz, hv⟩
  · have window := State.window_leaveHalted hq z hh
    rw [if_pos ((s.zoneSegment_iff z g).mpr hg)] at window
    rw [(State.OnlyZones.leaveHalted s z).record h, window]
    simp only [SegmentRecord.resumedWindow_eq]
  · obtain ⟨f, hf⟩ := s.record_leaveHalted z h
    rw [hf, State.record_mapWindows_outside f out]

theorem State.restoredBlocked_iff (s : State) (z : Zone) (k : Station) : s.restoredBlocked z k = true ↔ s.savedBlocked z k := by
  rw [State.restoredBlocked, Bool.and_eq_true, State.inZone_iff, State.savedBlocked, and_assoc]
  refine and_congr_right fun _ => and_congr_right fun _ => ?_
  cases s.custodyOf k with
  | halted v => cases v <;> simp
  | idle | occupied | heldDwell | heldBlocked | jammed => simp

theorem State.resumeEvents_nodup (s : State) (z : Zone) : (s.resumeEvents z).Nodup := (List.nodup_finRange _).filter _

theorem State.mem_resumeEvents (s : State) (z : Zone) (g : Segment) :
    g ∈ s.resumeEvents z ↔ ∃ k ∈ s.waiterList g, s.savedBlocked z k := by
  simp only [State.resumeEvents, List.mem_filter, List.mem_finRange, true_and, List.any_eq_true, State.restoredBlocked_iff]

end Sys2Proof.Machine

open Sys2Proof Sys2Proof.Machine

/-- Settles O49: each of the three adds causes to zones, by one cause given or by a line's latch over a mask. -/
theorem zonesEnterHalted : Obligations.ZonesEnterHalted := by
  unfold Obligations.ZonesEnterHalted
  refine ⟨fun s ht => ⟨fun b hb => ?_, fun z => ?_⟩, fun n s hl h1 h2 => ?_, fun n mask s ht => ?_⟩
  · have unknown : index? Config.zones b = none := index?_eq_none.mpr hb
    rw [exec_halt]
    exact hostCommand_refused ht fun w => by simp only [State.haltCommand, unknown]
  · have halts := s.hostHalted_halts z
    have causes : (s.hostHalted z).zones.causes = s.zones.causes.set z { s.zones.causes.get z with host := true } := by
      rw [State.hostHalted, State.withCauses_zones]
    have done : exec (.halt (byteNat z.val)) s = .next { s.hostHalted z with
        port := s.portAfter 0x50 1 .ok [1, BitVec.ofNat 8 (1 + 2 * (s.zones.causes.get z).lines.toNat)] } := by
      rw [exec_halt]
      refine hostCommand_accepted ht fun w => ((s.withPort w).haltCommand_zone z).trans ?_
      rw [State.hostHalted, State.hostHalted, State.withCauses_withPort]
      rfl
    exact ⟨_, done, halts.after causes _, halts.entersHalted⟩
  · have latches := State.Latches.latchMask (s.withLevel n true) n (s.map.haltMap.get n)
    refine ⟨_, congrArg Host.Outcome.next (State.takeAssertion_taken hl h1 h2), latches.halts.frame, fun z => latches.causes z,
      latches.halts.entersHalted⟩
  · intro u
    refine ⟨fun hd => ?_, fun hd => ⟨fun b hb => ?_, fun hl => ?_, fun hl => ?_⟩⟩
    · rw [exec_haltMap]
      exact hostCommand_refused ht fun w => if_pos hd
    · rw [exec_haltMap]
      exact hostCommand_refused ht fun w => State.haltMapCommand_badParam (s := s.withPort w) mask hd hb
    · rw [exec_haltMap]
      refine hostCommand_accepted (t := s.withMap { s.map with haltMap := s.map.haltMap.set n mask }) ht fun w => ?_
      rw [State.haltMapCommand_line (s := s.withPort w) n mask hd, State.mapLine_withPort, State.mapLine_deasserted mask hl]
    · have done : exec (.haltMap (byteNat n.val) mask) s
          = .next { s.mapLine n mask with port := s.portAfter 0x13 2 .ok [] } := by
        rw [exec_haltMap]
        refine hostCommand_accepted ht fun w => ?_
        rw [State.haltMapCommand_line (s := s.withPort w) n mask hd, State.mapLine_withPort]
      have latches := (State.Latches.latchMask (s.withMap { s.map with haltMap := s.map.haltMap.set n mask }) n
        (mask &&& ~~~ s.map.haltMap.get n)).congr fun z => (addedZone_iff mask (s.map.haltMap.get n) z).symm
      rw [← State.mapLine_asserted mask hl] at latches
      refine ⟨_, done, latches.halts.after rfl _, fun z => latches.causes z, ?_⟩
      exact (latches.halts.congr fun z => and_assoc.symm).entersHalted

/-- Settles O50: with the causes gone a HALTED zone is left, and the carriers' places say which window each runs on with. -/
theorem resumeRestoresTheZone : Obligations.ResumeRestoresTheZone := by
  unfold Obligations.ResumeRestoresTheZone
  intro z s ht hq
  have block : (∀ n, ¬ s.lineHolds z n) →
      exec (.resume (byteNat z.val)) s = .next { s.resumed z with port := s.portAfter 0x51 1 .ok [0, 0] } := fun h => by
    rw [exec_resume]
    refine hostCommand_accepted ht fun w => (State.resumeCommand_clear (s := s.withPort w) h).trans ?_
    rw [State.resumed, State.resumed, State.withCauses_withPort]
  refine ⟨fun b hb => ?_, fun n hn hlow => ?_, fun hn hz => ?_, fun hn hz => ?_⟩
  · have unknown : index? Config.zones b = none := index?_eq_none.mpr hb
    rw [exec_resume]
    exact hostCommand_refused ht fun w => by simp only [State.resumeCommand, unknown]
  · rw [exec_resume]
    exact hostCommand_answered (r := { code := .lineActive, data := [byteNat n.val] }) ht fun w =>
      State.resumeCommand_active (s := s.withPort w) hn hlow
  · rw [block hn, State.resumed_running hz]
  · have frame := State.leaveHalted_frame
      (s.withZones { s.zones with causes := s.zones.causes.set z { host := false, lines := 0 } }) z
    have leaves := State.leavesHalted
      (s := s.withZones { s.zones with causes := s.zones.causes.set z { host := false, lines := 0 } }) hq z
    rw [← State.resumed_halted hz] at frame leaves
    exact ⟨_, s.resumeEvents z, block hn, congrArg (fun x : State => x.withPort (s.portAfter 0x51 1 .ok [0, 0])) frame, leaves,
      s.resumeEvents_nodup z, s.mem_resumeEvents z⟩
end
